-- ==== Sys2Proof/Word.lean ====
section
/-! DEFINITION. The word types of the part's byte formats. -/

namespace Sys2Proof

/-- One byte of a frame, an image or a buffer. -/
abbrev Byte := BitVec 8

/-- A 16-bit value that wraps: card sequences and write tags (R12, R14), CRC-16. -/
abbrev Word16 := BitVec 16

/-- A 32-bit value that wraps: the write counter, the lane tick count, journal sequences, CRC-32. -/
abbrev Word32 := BitVec 32

end Sys2Proof
end

