-- ==== Sys2Proof/Syntax.lean ====
section
/-! DEFINITION. The commands of the FJ318: one constructor of `Instr` per row of spec/opcode_table.json.

A lane-port request carries the body bytes of its frame; a station request carries its address character, its
source character and its body bytes. The command stands for the whole frame with a right CRC (log 10). -/

namespace Sys2Proof

/-- A reader side and the direction of travel it serves: `u` is side U and direction UP, `p` is side P and
direction PU (section 0.2, R31, R150; one code set, R199). -/
inductive Side where
  | u
  | p
  deriving DecidableEq, Repr

/-- The two leaves (R128). -/
inductive Leaf where
  | left
  | right
  deriving DecidableEq, Repr

/-- The two position switches of a leaf (section 0.2, R130). -/
inductive Switch where
  | closedSw
  | openSw
  deriving DecidableEq, Repr

/-- The four beams, 1 nearest U (section 0.2). -/
inductive Beam where
  | b1
  | b2
  | b3
  | b4
  deriving DecidableEq, Repr

/-- The port a request of either port arrives on (R186): the lane port, or the station link with the address and
source characters of its frame. -/
inductive Via where
  | lane
  | station (addr src : Byte)
  deriving DecidableEq, Repr

/-- The commands. Each docstring names the row. -/
inductive Instr where
  /-- COLD_START (R194), with the straps as read. -/
  | coldStart (addr : BitVec 6) (rate : BitVec 2)
  /-- WARM_START (R194), with the straps as read. -/
  | warmStart (addr : BitVec 6) (rate : BitVec 2)
  /-- CARD_PRESENT (R33). -/
  | cardPresent (body : List Byte)
  /-- WRITE_OUTCOME (R46). -/
  | writeOutcome (body : List Byte)
  /-- WRITE_WAIT_UNDERFLOW (R47) of the slot of a side. -/
  | writeWaitUnderflow (side : Side)
  /-- LANE_HOLD (R24). -/
  | laneHold (body : List Byte)
  /-- LANE_RELEASE (R24). -/
  | laneRelease (body : List Byte)
  /-- STAFF_PASS (R111). -/
  | staffPass (body : List Byte)
  /-- CUE_TONE (R149). -/
  | cueTone (body : List Byte)
  /-- LANE_STATUS (R188). -/
  | laneStatus (via : Via) (body : List Byte)
  /-- NOTICE_FETCH (R192). -/
  | noticeFetch (via : Via) (body : List Byte)
  /-- NOTICE_MASK (R191). -/
  | noticeMask (via : Via) (body : List Byte)
  /-- LANE_RESTART (R189). -/
  | laneRestart (via : Via) (body : List Byte)
  /-- RESPONSE_READ (R180): how many whole bytes are clocked, the first one (0x7F) included, and whether LCS rises
  partway through a further byte. -/
  | responseRead (clocked : Nat) (ragged : Bool)
  /-- PORT_POLL (R178): a transfer of one byte. -/
  | portPoll (first : Byte)
  /-- LANE_FRAME_FAULT (R179): the bytes shifted in by a transfer, and whether it ended partway through a byte. -/
  | laneFrameFault (bytes : List Byte) (ragged : Bool)
  /-- STATION_POLL (R193). -/
  | stationPoll (addr src : Byte) (body : List Byte)
  /-- JOURNAL_FETCH (R165). -/
  | journalFetch (addr src : Byte) (body : List Byte)
  /-- JOURNAL_RELEASE (R166). -/
  | journalRelease (addr src : Byte) (body : List Byte)
  /-- DENY_DELTA (R83). -/
  | denyDelta (addr src : Byte) (body : List Byte)
  /-- DENY_WIPE (R86). -/
  | denyWipe (addr src : Byte) (body : List Byte)
  /-- DENY_PROBE (R87). -/
  | denyProbe (addr src : Byte) (body : List Byte)
  /-- SIGHTING (R99). -/
  | sighting (addr src : Byte) (body : List Byte)
  /-- FARE_CHUNK (R59). -/
  | fareChunk (addr src : Byte) (body : List Byte)
  /-- FARE_CLOSE (R60). -/
  | fareClose (addr src : Byte) (body : List Byte)
  /-- FARE_SWITCH (R63). -/
  | fareSwitch (addr src : Byte) (body : List Byte)
  /-- TIMED_FARE_SWITCH (R64). -/
  | timedFareSwitch
  /-- CLOCK_SET (R20). -/
  | clockSet (addr src : Byte) (body : List Byte)
  /-- KEY_LOAD (R9). -/
  | keyLoad (addr src : Byte) (body : List Byte)
  /-- LANE_MODE (R23). -/
  | laneMode (addr src : Byte) (body : List Byte)
  /-- LANE_SETUP (R187). -/
  | laneSetup (addr src : Byte) (body : List Byte)
  /-- AUDIT_SETUP (R169). -/
  | auditSetup (addr src : Byte) (body : List Byte)
  /-- AUDIT_READ (R175). -/
  | auditRead (addr src : Byte) (body : List Byte)
  /-- AUDIT_RELEASE (R176). -/
  | auditRelease (addr src : Byte) (body : List Byte)
  /-- AUDIT_TAG (R171). -/
  | auditTag (addr src : Byte) (body : List Byte)
  /-- STATION_FRAME_FAULT (R184): a complete frame, whatever it holds. -/
  | stationFrameFault (addr src kind : Byte) (body : List Byte) (crc : Word16)
  /-- FRAME_GAP_TIMEOUT (R183). -/
  | frameGapTimeout
  /-- STATION_REPLY (R185). -/
  | stationReply
  /-- SECOND (R19). -/
  | second
  /-- MARK_EXPIRY (R95). -/
  | markExpiry
  /-- TEAR_DEADLINE (R53). -/
  | tearDeadline
  /-- EMERG_CHANGE (R25): the new filtered level. -/
  | emergChange (asserted : Bool)
  /-- BEAM_CHANGE (R124): the beam and its new filtered level. -/
  | beamChange (beam : Beam) (blocked : Bool)
  /-- SWITCH_CHANGE (R130): the switch and its new filtered level. -/
  | switchChange (leaf : Leaf) (sw : Switch) (made : Bool)
  /-- CURRENT_SAMPLE (R137): the conversion result. -/
  | currentSample (value : BitVec 10)
  /-- PASSAGE_WARNING (R114) of a direction. -/
  | passageWarning (dir : Side)
  /-- CREDIT_EXPIRY (R115) of a direction. -/
  | creditExpiry (dir : Side)
  /-- LEAF_HOLD_UNDERFLOW (R135). -/
  | leafHoldUnderflow
  /-- LEAF_MOVE_UNDERFLOW (R131). -/
  | leafMoveUnderflow
  /-- OCCUPANCY_UNDERFLOW (R118). -/
  | occupancyUnderflow
  /-- SIGNAL_COMPARE (R146). -/
  | signalCompare
  /-- SIGNAL_UNDERFLOW (R146). -/
  | signalUnderflow
  /-- REFUSAL_FLASH_LAPSE (R151) of an end. -/
  | refusalFlashLapse (side : Side)
  /-- TICK (R104). -/
  | tick
  /-- STATION_CHARACTER (R183): the ninth data bit, the low eight bits, and whether the stop bit is 1. -/
  | stationCharacter (ninth : Bool) (data : Byte) (stop : Bool)
  /-- REPLY_END (R185). -/
  | replyEnd
  /-- LCS_SEEN_HIGH (R178). -/
  | lcsSeenHigh
  /-- VDD_LOSS (R17). -/
  | vddLoss
  deriving DecidableEq, Repr

end Sys2Proof
end

