-- ==== Sys2Proof/Config.lean ====
section
/-! DEFINITION. What the board fixes and the manual leaves to it, the straps as read at State.reset, and the free
values. -/

namespace Sys2Proof.Config

/-- The ADDR straps at `State.reset` (0.7 and R182: the lane's own address, 1..63).
DESIGN CHOICE, unsafe (log 2): the manual gives no value; every COLD_START and WARM_START carries its own. -/
def resetAddr : BitVec 6 := 1

/-- The RATE straps at `State.reset` (R182). DESIGN CHOICE, unsafe (log 2). -/
def resetRate : BitVec 2 := 0

/-- The spend before that the rating record of a penalty carries (R67), from today, the card's spend day and its spend
amount. Free value, DESIGN CHOICE, safe (log 39): R67 gives the s of S6, and a penalty skips S6 (R68, R69). -/
opaque penaltySpendBefore : Nat → Nat → Nat → Nat

/-- Whether the change events of one sense tick are taken in reverse order, from the lane tick count. Free value,
DESIGN CHOICE, safe for two inputs (log 40): R121 lets either be taken first. -/
opaque senseReversed : Nat → Bool

end Sys2Proof.Config
end

