-- ==== Sys2Proof/Machine/State.lean ====
section
/-! DEFINITION. The state of the FJ318, block by block (section 0.4), and the state right after reset.
Every field cites the rule that names it; INVENTORY.md lists them all. -/

namespace Sys2Proof.Machine

/-- The part never stops with a fault: every error of the manual is an answer, a verdict or a dropped frame. No
constructor, so nothing raises one. -/
inductive Fault where
  deriving DecidableEq, Repr

/-- Why a command has no outcome. -/
inductive Refusal where
  /-- Raised by an arm of `exec` whose command has no meaning yet. Safe: it claims nothing. No arm raises it. -/
  | notModelled (mnemonic : String)
  deriving DecidableEq, Repr

/-! ## Enumerations (their codes are in Machine/Operands.lean, R199) -/

/-- Lane modes (R23). -/
inductive Mode where
  | entry
  | exit
  | both
  | closed
  | free
  deriving DecidableEq, Repr

/-- Result codes (R199). -/
inductive Result where
  | ok
  | checkError
  | badLength
  | badField
  | notPermitted
  | notReady
  | versionMismatch
  | tableFull
  | badImage
  | noTransaction
  | laneBusy
  deriving DecidableEq, Repr

/-- Verdict kinds (R40). -/
inductive VerdictKind where
  | accept
  | acceptNoWrite
  | refuse
  | refuseAndWrite
  deriving DecidableEq, Repr

/-- Every reason of a verdict or a journal entry (R41, R156, R199). -/
inductive Reason where
  | none
  | ok
  | pass
  | staff
  | incompletePenalty
  | noEntryPenalty
  | sameStation
  | reopen
  | tearCompleted
  | laneFree
  | outOfService
  | wrongDirection
  | readerBusy
  | laneBusy
  | unreadable
  | tampered
  | blocked
  | concurrent
  | clone
  | denied
  | passback
  | lowBalance
  | writeFailed
  | paid
  | mode
  | free
  | fault
  | restart
  | warmStart
  | written
  | notWritten
  | unresolved
  | sighting
  | emergency
  | stationFree
  | moveTimeout
  | switchFault
  | obstruction
  | station
  | emergencyOn
  | emergencyOff
  | forward
  | backward
  | now
  | timed
  | cold
  | warm
  | lane
  deriving DecidableEq, Repr

/-- Journal entry kinds (R156). -/
inductive EntryKind where
  | start
  | entry
  | exit
  | reopen
  | tearCompleted
  | refusal
  | blockWritten
  | tear
  | tearResolved
  | clone
  | cloneSuspect
  | passage
  | unpaidPassage
  | wrongWay
  | creditExpired
  | creditCancelled
  | staffPass
  | freePeriod
  | timeStep
  | fareSwitched
  | keyChanged
  | modeChanged
  | leafForced
  | leafFault
  | overrun
  deriving DecidableEq, Repr

/-- Write outcomes and results (R46, R172). -/
inductive WriteResult where
  | done
  | notWritten
  | uncertain
  | noWrite
  deriving DecidableEq, Repr

/-- Notice causes (R190). -/
inductive Cause where
  | expired
  | auditReady
  | clone
  | tamper
  | denyStale
  | unpaid
  | wrongWay
  | forced
  | leafFault
  | occupiedLong
  | journalLow
  | journalStop
  | overrun
  | coldStart
  | restarted
  | emergency
  | modeChanged
  | serviceChanged
  | fareSwitched
  deriving DecidableEq, Repr

/-- Notice settings (R190). -/
inductive Setting where
  | unmasked
  | visible
  | hidden
  deriving DecidableEq, Repr

/-- Tone patterns (R145). -/
inductive Tone where
  | alarm
  | refuse
  | accept
  | cue
  deriving DecidableEq, Repr

/-- Lamp states (R150). -/
inductive Lamp where
  | off
  | steady
  | flash
  deriving DecidableEq, Repr

/-- A moment of the service clock: a day number and seconds of the service day (section 0.9). -/
structure DayTime where
  day : Nat
  secs : Nat
  deriving DecidableEq, Repr

/-! ## Ports -/

/-- A cause of a notice set with its setting and count 0..255 (R190). -/
structure Notice where
  cause : Cause
  setting : Setting
  count : Nat
  deriving DecidableEq, Repr

/-- A response waiting in the response slot: kind code, body (result code, then data) and OVERRUN flag (R180). -/
structure Response where
  kind : Byte
  body : List Byte
  overrun : Bool
  deriving DecidableEq, Repr

/-- The lane port (R178 to R181). -/
structure Lpt where
  /-- LCS has been seen high since the last cold or warm start (R178, R194). -/
  ready : Bool
  /-- The stored bytes of the last request transfer, at most 254 (R179). -/
  requestSlot : List Byte
  /-- The bytes counted in that transfer (R179). -/
  requestCount : Nat
  /-- The response slot (R180). -/
  responseSlot : Option Response
  /-- The lane notice set (R190). -/
  notices : List Notice
  /-- The ATTN output (R181). -/
  attn : Bool
  /-- The model's record of what the last transfer shifted out on LSDO (R178, R180; log 9). -/
  lsdo : List Byte
  deriving DecidableEq, Repr

/-- The address class a station frame was taken under (R183). -/
inductive AddrClass where
  | own
  | group
  | all
  deriving DecidableEq, Repr

/-- The receive state of the station link, with the address character of the frame in progress (R183). -/
inductive RxState where
  | hunting
  | receiving (cls : AddrClass) (addr : Byte)
  deriving DecidableEq, Repr

/-- The station link (R182 to R185). -/
structure Stl where
  /-- ADDR straps as read at the last start (R182). -/
  ownAddr : BitVec 6
  /-- RATE straps as read at the last start (R182). -/
  rate : BitVec 2
  /-- The receive state (R183). -/
  rx : RxState
  /-- The receive frame buffer (R183). -/
  rxBuf : List Byte
  /-- The reply in turnaround, as characters (R185). -/
  replyTurn : Option (List (BitVec 9))
  /-- The SDE output (R185). -/
  sde : Bool
  /-- The characters being driven on STX while SDE is high (R185). -/
  tx : List (BitVec 9)
  /-- The station notice set (R190). -/
  notices : List Notice
  deriving DecidableEq, Repr

/-- The lane setup record (R187). -/
structure Setup where
  stationCode : Nat
  zone : Nat
  group : Nat
  window : Nat
  warning : Nat
  leafHold : Nat
  writeTimeout : Nat
  occupancy : Nat
  beamWidth : Nat
  threshold : Nat
  reopenGrace : Nat
  tearHold : Nat
  deriving DecidableEq, Repr

/-! ## Record checker -/

/-- A key slot's contents (R8). -/
structure Key where
  word : Word32
  label : Word16
  deriving DecidableEq, Repr

/-- The record checker (R8, R13). -/
structure Rck where
  current : Option Key
  previous : Option Key
  w : Word32
  deriving DecidableEq, Repr

/-! ## Service clock -/

/-- The set of out-of-service reasons (R28), one bit each in the order of R199. -/
structure Reasons where
  noKey : Bool
  noFare : Bool
  noTime : Bool
  noSetup : Bool
  journalStop : Bool
  leafFault : Bool
  laneHold : Bool
  modeClosed : Bool
  deriving DecidableEq, Repr

/-- The service clock (R17 to R30). -/
structure Svc where
  /-- The lane tick count (R18). -/
  tickCount : Word32
  /-- Ticks counted toward the next second, 0..63 (R17, R20). -/
  phase : Nat
  /-- The model's own: second outputs not yet taken (log 5). -/
  secondsDue : Nat
  timeKnown : Bool
  day : Nat
  secs : Nat
  stationMode : Mode
  laneHold : Bool
  /-- The filtered EMERG level (R25). -/
  emerg : Bool
  reasons : Reasons
  /-- The model's own: the event in progress has changed the reason set (R29; log 17). -/
  serviceTouched : Bool
  deriving DecidableEq, Repr

/-! ## Transaction unit -/

/-- The kinds of verdict a slot can hold (R31). -/
inductive WriteKind where
  | accept
  | refuseAndWrite
  deriving DecidableEq, Repr

/-- A slot in AWAITING_WRITE (R31). Its three reservations are counted in `Rjn.reserved` (R159). -/
structure Slot where
  card : Nat
  oldSeq : Word16
  oldTag : Word16
  kind : WriteKind
  reason : Reason
  charge : Nat
  newBalance : Int
  newSeq : Word16
  newTag : Word16
  entryStation : Nat
  audit : Bool
  tick : Word32
  deriving DecidableEq, Repr

/-- The transaction unit: two slots, `none` being FREE (R31). -/
structure Txu where
  slotU : Option Slot
  slotP : Option Slot
  deriving DecidableEq, Repr

/-! ## Fare rating unit -/

/-- The row and column maxima derived from a zone matrix (R62). -/
structure Maxima where
  row : List Nat
  col : List Nat
  deriving DecidableEq, Repr

/-- A fare bank (R57). -/
structure Bank where
  buffer : List Byte
  valid : Bool
  maxima : Option Maxima
  deriving DecidableEq, Repr

/-- The two bank designations (R57). -/
inductive BankId where
  | a
  | b
  deriving DecidableEq, Repr

/-- The fare rating unit (R57). -/
structure Fru where
  bankA : Bank
  bankB : Bank
  active : BankId
  pendingSwitch : Option DayTime
  /-- The model's own: a second SVC has handed to FRU and FRU has not yet taken (R19; log 5). -/
  secondHanded : Bool
  deriving DecidableEq, Repr

/-- The classes of a rating (R67). -/
inductive RatingClass where
  | none
  | entry
  | incompletePenalty
  | noEntryPenalty
  | pass
  | staff
  | sameStation
  | journey
  deriving DecidableEq, Repr

/-- The rating record FRU returns (R67). -/
structure Rating where
  cls : RatingClass
  band : Nat
  multiplier : Nat
  f1 : Nat
  f2 : Nat
  f3 : Nat
  f4 : Nat
  f5 : Nat
  spendBefore : Nat
  charge : Nat
  spendDay : Nat
  spendAmount : Nat
  transfers : Nat
  transferApplied : Bool
  newBalance : Int
  /-- The purse result: `false` is LOW_BALANCE with detail 2 (R77). -/
  passed : Bool
  deriving DecidableEq, Repr

/-! ## Screening unit -/

/-- Reasons of a deny entry (R81). -/
inductive DenyReason where
  | stolen
  | cloned
  | issuerBlock
  | localClone
  deriving DecidableEq, Repr

/-- Origins of a deny entry (R81). -/
inductive DenyOrigin where
  | station
  | localOrigin
  deriving DecidableEq, Repr

/-- A deny entry (R81). -/
structure DenyEntry where
  base : Nat
  width : Nat
  reason : DenyReason
  origin : DenyOrigin
  day : Nat
  secs : Nat
  deriving DecidableEq, Repr

/-- What a card last did where it was last seen (R89). -/
inductive SightEvent where
  | entry
  | exit
  | refused
  deriving DecidableEq, Repr

/-- Who recorded a sighting (R89). -/
inductive SightOrigin where
  | localOrigin
  | remote
  deriving DecidableEq, Repr

/-- An in-flight record (R89). -/
structure InFlight where
  side : Side
  oldSeq : Word16
  oldTag : Word16
  newSeq : Word16
  newTag : Word16
  deriving DecidableEq, Repr

/-- A pending-tear record (R52). Its two reservations are counted in `Rjn.reserved` (R159). -/
structure Tear where
  side : Side
  kind : WriteKind
  oldSeq : Word16
  oldTag : Word16
  newSeq : Word16
  newTag : Word16
  charge : Nat
  newBalance : Int
  tearSeq : Word32
  deadline : DayTime
  deriving DecidableEq, Repr

/-- An unused-credit mark (R89, R94). -/
structure Mark where
  dir : Side
  deadline : DayTime
  deriving DecidableEq, Repr

/-- A sighting entry (R89). Its place in the touch order is its place in `Scu.sightings`. -/
structure Sighting where
  card : Nat
  seq : Word16
  tag : Word16
  event : SightEvent
  day : Nat
  secs : Nat
  station : Nat
  lane : Nat
  origin : SightOrigin
  inFlight : Option InFlight
  tear : Option Tear
  mark : Option Mark
  deriving DecidableEq, Repr

/-- The screening unit (R81, R89). -/
structure Scu where
  /-- The deny list, ascending by base, then width (R81). -/
  deny : List DenyEntry
  denyVersion : Word32
  /-- The bases of the LOCAL entries in add order, earliest first (R81; a LOCAL entry has width 0, R88). -/
  denyLocal : List Nat
  /-- The sighting table in touch order, least recent first (R91). -/
  sightings : List Sighting
  /-- The cards of the standing marks, oldest mark first (R94). -/
  markOrder : List Nat
  /-- The model's own: a second handed for the marks and not yet taken (R95; log 5). -/
  marksHanded : Bool
  /-- The model's own: a second handed for the pending-tears and not yet taken (R95; log 5). -/
  tearsHanded : Bool
  deriving DecidableEq, Repr

/-! ## Lane timer unit -/

/-- Channel states (R103). -/
inductive ChanState where
  | stopped
  | running
  | held
  deriving DecidableEq, Repr

/-- A channel (R103). -/
structure Channel where
  reload : Nat
  compare : Nat
  count : Nat
  state : ChanState
  /-- The model's own: a compare event handed to the owner and not yet taken (R104; log 4). -/
  compareDue : Bool
  /-- The model's own: an underflow handed to the owner and not yet taken (R104; log 4). -/
  underflowDue : Bool
  deriving DecidableEq, Repr

/-- The eight channels (R106). -/
inductive ChanId where
  | windowUp
  | windowPu
  | leafHold
  | writeU
  | writeP
  | occupancy
  | leafMove
  | signal
  deriving DecidableEq, Repr

/-- The lane timer unit (R103). -/
structure Ltu where
  windowUp : Channel
  windowPu : Channel
  leafHold : Channel
  writeU : Channel
  writeP : Channel
  occupancy : Channel
  leafMove : Channel
  signal : Channel
  deriving DecidableEq, Repr

/-! ## Passage control unit -/

/-- Kinds of a credit (R108). -/
inductive CreditKind where
  | paid
  | reopen
  | tearCompleted
  | staff
  deriving DecidableEq, Repr

/-- A credit (R108). Its reservation is counted in `Rjn.reserved` (R159). -/
structure Credit where
  kind : CreditKind
  /-- Absent for STAFF. -/
  card : Option Nat
  /-- The creating sequence. -/
  creator : Word32
  tick : Word32
  audit : Bool
  deriving DecidableEq, Repr

/-- The free-period record (R119). -/
structure FreePeriod where
  isOpen : Bool
  reason : Reason
  up : Nat
  pu : Nat
  deriving DecidableEq, Repr

/-- The passage control unit: queues (R108), filtered beams (R121), tracker (R123), free period (R119). -/
structure Pcu where
  queueUp : List Credit
  queuePu : List Credit
  beam1 : Bool
  beam2 : Bool
  beam3 : Bool
  beam4 : Bool
  episode : Bool
  episodeDir : Option Side
  farClears : Nat
  freePeriod : FreePeriod
  deriving DecidableEq, Repr

/-! ## Leaf controller -/

/-- Leaf pair states (R128). -/
inductive LeafState where
  | closed
  | opening (dir : Side)
  | opened (dir : Side)
  | closing
  | forced
  | fault
  | freeOpen
  deriving DecidableEq, Repr

/-- Drives of a leaf (R129). -/
inductive Drive where
  | swingP
  | swingU
  | brake
  | released
  deriving DecidableEq, Repr

/-- The leaf controller (R128, R121, R137). A switch level is `none` while its filter is unset. -/
structure Lfc where
  leaf : LeafState
  grant : Option Side
  reversal : Bool
  paused : Bool
  openSide : Option Side
  reversalCount : Nat
  driveL : Drive
  driveR : Drive
  swLC : Option Bool
  swLO : Option Bool
  swRC : Option Bool
  swRO : Option Bool
  runL : Nat
  runR : Nat
  nextLeaf : Leaf
  deriving DecidableEq, Repr

/-! ## Input filters -/

/-- The inputs that pass through a filter: beams and leaf switches (R121), EMERG (R25). -/
inductive Input where
  | beam (b : Beam)
  | switch (leaf : Leaf) (sw : Switch)
  | emerg
  deriving DecidableEq, Repr

/-- An input's filter (R121): the raw level at its pin and the count of consecutive sense ticks at which that level
differed from the filtered one. The filtered level stands with the input's owner: `Pcu`, `Lfc`, `Svc`. -/
structure InFilter where
  raw : Bool
  count : Nat
  deriving DecidableEq, Repr

/-- The nine filters (R25, R121). -/
structure Inputs where
  beam1 : InFilter
  beam2 : InFilter
  beam3 : InFilter
  beam4 : InFilter
  swLC : InFilter
  swLO : InFilter
  swRC : InFilter
  swRO : InFilter
  emerg : InFilter
  deriving DecidableEq, Repr

/-! ## Signal unit -/

/-- The signal unit (R146, R150, R151). -/
structure Sgu where
  tone : Option Tone
  pulses : Nat
  toneOn : Bool
  hurryUp : Bool
  hurryPu : Bool
  flashU : Option Word32
  flashP : Option Word32
  lampUG : Lamp
  lampUR : Lamp
  lampPG : Lamp
  lampPR : Lamp
  deriving DecidableEq, Repr

/-! ## Revenue journal -/

/-- A journal entry (R156). -/
structure Entry where
  seq : Word32
  kind : EntryKind
  reason : Reason
  side : Option Side
  day : Nat
  secs : Nat
  card : Nat
  amount : Nat
  balance : Int
  cardSeq : Word16
  tag : Word16
  extra : Nat
  deriving DecidableEq, Repr

/-- The revenue journal (R154, R161). The uncollected count is the length of `journal`. -/
structure Rjn where
  /-- The uncollected entries, oldest first. -/
  journal : List Entry
  reserved : Nat
  nextSeq : Word32
  overrun : Nat
  low : Bool
  stop : Bool
  deriving DecidableEq, Repr

/-! ## Audit sampler -/

/-- What armed a tag (R168). -/
inductive ArmedBy where
  | counter
  | station
  deriving DecidableEq, Repr

/-- Sampler states (R168). -/
inductive AuditState where
  | idle
  | armed (by_ : ArmedBy)
  | tracking
  | closing
  | valid
  deriving DecidableEq, Repr

/-- Outcomes of a sample (R172). -/
inductive AuditOutcome where
  | passed
  | expired
  | cancelled
  | writeFailed
  | tear
  | aborted
  deriving DecidableEq, Repr

/-- Tone part of a sample: the pattern requested, whether it started or was dropped, and the pattern playing at a
drop (R172). -/
structure SampleTone where
  requested : Option Tone
  started : Bool
  playing : Option Tone
  deriving DecidableEq, Repr

/-- The sample record (R172). A field not yet filled is absent. -/
structure Sample where
  card : Nat
  side : Side
  kind : VerdictKind
  reason : Reason
  bankImage : Nat
  rating : Rating
  day : Nat
  secs : Nat
  writeResult : Option WriteResult
  writeTicks : Nat
  tone : SampleTone
  toGrant : Option Nat
  grantToEnd : Option Nat
  farClears : Nat
  outcome : Option AuditOutcome
  doneDay : Nat
  doneSecs : Nat
  deriving DecidableEq, Repr

/-- The audit sampler (R168). -/
structure Ads where
  enable : Bool
  interval : Nat
  randomise : Bool
  counter : Nat
  phase : AuditState
  sample : Option Sample
  /-- The model's own: the first grant moment of the tagged credit (R172). -/
  grantTick : Option Word32
  deriving DecidableEq, Repr

/-! ## The whole part -/

/-- The state of the part. -/
structure State where
  /-- VDD is present (R17, row VDD_LOSS). -/
  powered : Bool
  /-- The model's own: the commands waiting, first in, first out (log 1). -/
  pending : List Instr
  lpt : Lpt
  stl : Stl
  setup : Setup
  rck : Rck
  svc : Svc
  txu : Txu
  fru : Fru
  scu : Scu
  ltu : Ltu
  pcu : Pcu
  lfc : Lfc
  sgu : Sgu
  rjn : Rjn
  ads : Ads
  inp : Inputs
  deriving DecidableEq, Repr

/-! ### Updates of one block (Laws/State.lean holds their lemmas) -/

def State.setPowered (b : Bool) (s : State) : State := { s with powered := b }
def State.setPending (q : List Instr) (s : State) : State := { s with pending := q }
def State.setLpt (x : Lpt) (s : State) : State := { s with lpt := x }
def State.setStl (x : Stl) (s : State) : State := { s with stl := x }
def State.setSetup (x : Setup) (s : State) : State := { s with setup := x }
def State.setRck (x : Rck) (s : State) : State := { s with rck := x }
def State.setSvc (x : Svc) (s : State) : State := { s with svc := x }
def State.setTxu (x : Txu) (s : State) : State := { s with txu := x }
def State.setFru (x : Fru) (s : State) : State := { s with fru := x }
def State.setScu (x : Scu) (s : State) : State := { s with scu := x }
def State.setLtu (x : Ltu) (s : State) : State := { s with ltu := x }
def State.setPcu (x : Pcu) (s : State) : State := { s with pcu := x }
def State.setLfc (x : Lfc) (s : State) : State := { s with lfc := x }
def State.setSgu (x : Sgu) (s : State) : State := { s with sgu := x }
def State.setRjn (x : Rjn) (s : State) : State := { s with rjn := x }
def State.setAds (x : Ads) (s : State) : State := { s with ads := x }
def State.setInp (x : Inputs) (s : State) : State := { s with inp := x }

/-! ## Reset -/

/-- A channel after a cold or warm start (R103). -/
def Channel.reset : Channel :=
  { reload := 0, compare := 0, count := 0, state := .stopped, compareDue := false,
    underflowDue := false }

/-- Every channel after a cold or warm start (R103). -/
def Ltu.reset : Ltu :=
  { windowUp := .reset, windowPu := .reset, leafHold := .reset, writeU := .reset,
    writeP := .reset, occupancy := .reset, leafMove := .reset, signal := .reset }

/-- A notice set with every cause UNMASKED and no count (R194). -/
def noticesOf (causes : List Cause) : List Notice :=
  causes.map fun c => { cause := c, setting := .unmasked, count := 0 }

/-- The causes of the lane set, in ascending code (R190). -/
def laneCauses : List Cause :=
  [.expired, .unpaid, .wrongWay, .forced, .leafFault, .occupiedLong, .restarted, .emergency,
    .modeChanged, .serviceChanged, .fareSwitched]

/-- The causes of the station set, in ascending code (R190). -/
def stationCauses : List Cause :=
  [.auditReady, .clone, .tamper, .denyStale, .unpaid, .forced, .leafFault, .journalLow,
    .journalStop, .overrun, .coldStart, .restarted, .emergency, .serviceChanged, .fareSwitched]

/-- The lane setup after a cold start: every field at its default (R187). -/
def Setup.reset : Setup :=
  { stationCode := 0, zone := 0, group := 64, window := 8, warning := 3, leafHold := 32,
    writeTimeout := 128, occupancy := 30, beamWidth := 20, threshold := 700, reopenGrace := 10,
    tearHold := 30 }

/-- A fare bank after a cold start: INVALID, all zeros (R57). -/
def Bank.reset : Bank :=
  { buffer := List.replicate 704 0, valid := false, maxima := none }

/-- The START entry of a cold start: sequence 1, reason COLD, W = 0, time unknown (R154, R164). -/
def coldStartEntry : Entry :=
  { seq := 1, kind := .start, reason := .cold, side := none, day := 0, secs := 0, card := 0,
    amount := 0, balance := 0, cardSeq := 0, tag := 0, extra := 0 }

/-- The filters at reset, every count 0 (R121). The levels at the pins are the lane's and no rule gives them: no beam
blocked, both leaves standing closed, EMERG released (DESIGN CHOICE, unsafe; log 40). -/
def Inputs.reset : Inputs :=
  let off : InFilter := { raw := false, count := 0 }
  let on : InFilter := { raw := true, count := 0 }
  { beam1 := off, beam2 := off, beam3 := off, beam4 := off, swLC := on, swLO := off, swRC := on, swRO := off
    emerg := off }

/-- The machine right after reset: the state a cold start leaves (R8, R13, R30, R31, R57, R81, R89, R103, R107,
R120, R123, R128, R144, R153, R154, R164, R168, R187, R194; log 3). The straps are a DESIGN CHOICE (log 2), as is the
reason NONE of the free-period record (log 21); the queue is empty. -/
def State.reset : State :=
  { powered := true
    pending := []
    lpt :=
      { ready := false, requestSlot := [], requestCount := 0, responseSlot := none
        notices := (noticesOf laneCauses).map fun n =>
          if n.cause = .restarted then { n with count := 1 } else n
        attn := true
        lsdo := [] }
    stl :=
      { ownAddr := Config.resetAddr, rate := Config.resetRate, rx := .hunting, rxBuf := []
        replyTurn := none, sde := false, tx := []
        notices := (noticesOf stationCauses).map fun n =>
          if n.cause = .coldStart then { n with count := 1 } else n }
    setup := .reset
    rck := { current := none, previous := none, w := 0 }
    svc :=
      { tickCount := 0, phase := 0, secondsDue := 0, timeKnown := false, day := 0, secs := 0
        stationMode := .closed, laneHold := false, emerg := false
        reasons :=
          { noKey := true, noFare := true, noTime := true, noSetup := true
            journalStop := false, leafFault := false, laneHold := false, modeClosed := true }
        serviceTouched := false }
    txu := { slotU := none, slotP := none }
    fru :=
      { bankA := .reset, bankB := .reset, active := .a, pendingSwitch := none
        secondHanded := false }
    scu :=
      { deny := [], denyVersion := 0, denyLocal := [], sightings := [], markOrder := []
        marksHanded := false, tearsHanded := false }
    ltu := .reset
    pcu :=
      { queueUp := [], queuePu := [], beam1 := false, beam2 := false, beam3 := false
        beam4 := false, episode := false, episodeDir := none, farClears := 0
        freePeriod := { isOpen := false, reason := .none, up := 0, pu := 0 } }
    lfc :=
      { leaf := .closing, grant := none, reversal := false, paused := false, openSide := none
        reversalCount := 0, driveL := .released, driveR := .released, swLC := none
        swLO := none, swRC := none, swRO := none, runL := 0, runR := 0, nextLeaf := .left }
    sgu :=
      { tone := none, pulses := 0, toneOn := false, hurryUp := false, hurryPu := false
        flashU := none, flashP := none, lampUG := .off, lampUR := .steady, lampPG := .off
        lampPR := .steady }
    rjn :=
      { journal := [coldStartEntry], reserved := 0, nextSeq := 2, overrun := 0, low := false
        stop := false }
    ads :=
      { enable := false, interval := 256, randomise := false, counter := 0, phase := .idle
        sample := none, grantTick := none }
    inp := .reset }

end Sys2Proof.Machine
end

