-- ==== Sys2Proof/Machine/Ops.lean ====
section
/-! DEFINITION. The shared operations: bytes and CRCs, time, notices, out-of-service reasons, the journal's space and
entries, the timer channels, the service clock's mode. -/

namespace Sys2Proof.Machine

/-! ## Bytes, most significant first (section 0.9) -/

/-- The value of a field of bytes. -/
def fromBE (bs : List Byte) : Nat := bs.foldl (fun acc b => acc * 256 + b.toNat) 0

/-- A value as a field of `n` bytes. -/
def toBE : Nat → Nat → List Byte
  | 0, _ => []
  | n + 1, v => BitVec.ofNat 8 (v / 256 ^ n) :: toBE n v

/-- A signed value as a field of 4 bytes, two's complement (section 11.6). -/
def toBE32s (v : Int) : List Byte := toBE 4 (BitVec.ofInt 32 v).toNat

/-- The bytes of a field. -/
def slice (bs : List Byte) (off len : Nat) : List Byte := (bs.drop off).take len

/-- The value of a field at an offset. -/
def field (bs : List Byte) (off len : Nat) : Nat := fromBE (slice bs off len)

/-- The signed value of a 4-byte field at an offset. -/
def fieldSigned (bs : List Byte) (off : Nat) : Int := (BitVec.ofNat 32 (field bs off 4)).toInt

/-- One bit as a byte. -/
def boolByte (b : Bool) : Byte := if b then 1 else 0

/-- One bit of a byte as a number, for summaries and masks. -/
def bitAt (b : Bool) (i : Nat) : Nat := if b then 2 ^ i else 0

/-- One step of a most-significant-bit-first CRC: the bit shifted out, combined with the data bit, decides whether
the polynomial is combined (R5, section 0.9). -/
def crcBit {w : Nat} (poly crc : BitVec w) (bit : Bool) : BitVec w :=
  if crc.msb ^^ bit then (crc <<< 1) ^^^ poly else crc <<< 1

/-- A byte through the register, most significant bit first. -/
def crcByte {w : Nat} (poly crc : BitVec w) (b : Byte) : BitVec w :=
  [7, 6, 5, 4, 3, 2, 1, 0].foldl (fun c i => crcBit poly c (b.getLsbD i)) crc

/-- The CRC-16 of both ports: polynomial 0x1021, register loaded with 0xFFFF (section 0.9). -/
def crc16 (bs : List Byte) : Word16 := bs.foldl (crcByte 0x1021) 0xFFFF

/-- The CRC-32 of the card image and the fare image: polynomial 0x04C11DB7 from an initial value (section 0.9). -/
def crc32 (init : Word32) (bs : List Byte) : Word32 := bs.foldl (crcByte 0x04C11DB7) init

/-! ## Sequence and stamp distances -/

/-- How a card sequence stands to a reference (R12). -/
inductive SeqOrder where
  | equal
  | ahead
  | behind
  deriving DecidableEq, Repr

/-- The forward distance of R12: 0 equal, 1..32,767 ahead, 32,768..65,535 behind. -/
def seqOrder (q s : Word16) : SeqOrder :=
  let d := (q - s).toNat
  if d = 0 then .equal else if d ≤ 32767 then .ahead else .behind

/-- The forward distance between two 32-bit stamps (R18, R155). -/
def stampDist (a b : Word32) : Nat := (b - a).toNat

/-- Whether stamp `b` is later than stamp `a` (R18). -/
def stampLater (a b : Word32) : Bool := stampDist a b ≠ 0 && stampDist a b ≤ 2147483647

/-- A measured number of ticks, holding at 65,535 (R172). -/
def ticksHeld (a b : Word32) : Nat := min 65535 (stampDist a b)

/-! ## The day clock as a moment -/

/-- "Now" (R19). -/
def State.now (s : State) : DayTime := { day := s.svc.day, secs := s.svc.secs }

/-- `a` is at or before `b`: day first, then seconds (R64). -/
def DayTime.le (a b : DayTime) : Bool := a.day < b.day || (a.day == b.day && a.secs ≤ b.secs)

/-- The day clock has reached or passed a moment. -/
def State.reached (s : State) (d : DayTime) : Bool := d.le s.now

/-- A deadline some seconds from now, carried over days and held at day 65,534, seconds 86,399 (R94). -/
def DayTime.plus (t : DayTime) (secs : Nat) : DayTime :=
  let total := t.secs + secs
  let day := t.day + total / 86400
  if day ≤ 65534 then { day := day, secs := total % 86400 } else { day := 65534, secs := 86399 }

/-! ## The lane address and the effective mode -/

/-- The lane address A, 0 while the station link is disabled (R14, R182). -/
def State.laneAddr (s : State) : Nat := s.stl.ownAddr.toNat

/-- The effective mode: FREE while the filtered EMERG is asserted, else the station mode (R26). -/
def State.effMode (s : State) : Mode := if s.svc.emerg then .free else s.svc.stationMode

/-- Whether a mode permits a direction (R26). -/
def Mode.permits : Mode → Side → Bool
  | .entry, d => d == .u
  | .exit, d => d == .p
  | .both, _ => true
  | .closed, _ => false
  | .free, _ => false

/-- Whether the effective mode permits a direction (R26). -/
def State.permits (s : State) (d : Side) : Bool := s.effMode.permits d

/-- The other side. -/
def Side.other : Side → Side
  | .u => .p
  | .p => .u

/-! ## Notices (R190) -/

/-- What a raise does to one cause of a set: HIDDEN records nothing, else the count goes up, holding at 255. -/
def Notice.raised (n : Notice) : Notice :=
  if n.setting = .hidden then n else { n with count := min 255 (n.count + 1) }

/-- A cause raised in a set. A cause the set does not hold changes nothing. -/
def raiseIn (c : Cause) (ns : List Notice) : List Notice :=
  ns.map fun n => if n.cause = c then n.raised else n

/-- A notice to the lane processor. -/
def raiseLane (c : Cause) (s : State) : State :=
  s.setLpt { s.lpt with notices := raiseIn c s.lpt.notices }

/-- A notice to the station. -/
def raiseStation (c : Cause) (s : State) : State :=
  s.setStl { s.stl with notices := raiseIn c s.stl.notices }

/-- A notice to both masters. -/
def raiseBoth (c : Cause) (s : State) : State := raiseStation c (raiseLane c s)

/-! ## Out-of-service reasons (R28, R29) -/

/-- The set of reasons replaced; a real change is remembered for the event's one SERVICE_CHANGED (R29, log 17). -/
def setReasons (r : Reasons) (s : State) : State :=
  if s.svc.reasons = r then s else s.setSvc { s.svc with reasons := r, serviceTouched := true }

def setNoKey (b : Bool) (s : State) : State := setReasons { s.svc.reasons with noKey := b } s
def setNoFare (b : Bool) (s : State) : State := setReasons { s.svc.reasons with noFare := b } s
def setNoTime (b : Bool) (s : State) : State := setReasons { s.svc.reasons with noTime := b } s
def setNoSetup (b : Bool) (s : State) : State := setReasons { s.svc.reasons with noSetup := b } s
def setJournalStop (b : Bool) (s : State) : State :=
  setReasons { s.svc.reasons with journalStop := b } s
def setLeafFault (b : Bool) (s : State) : State :=
  setReasons { s.svc.reasons with leafFault := b } s
def setHoldReason (b : Bool) (s : State) : State := setReasons { s.svc.reasons with laneHold := b } s
def setModeClosed (b : Bool) (s : State) : State :=
  setReasons { s.svc.reasons with modeClosed := b } s

/-- The set of out-of-service reasons is empty: the lane is IN_SERVICE (R28). -/
def Reasons.empty (r : Reasons) : Bool :=
  !(r.noKey || r.noFare || r.noTime || r.noSetup || r.journalStop || r.leafFault || r.laneHold
    || r.modeClosed)

/-! ## The journal (R154 to R163) -/

/-- Free places: neither uncollected nor reserved (R158). -/
def State.free (s : State) : Nat := 4096 - s.rjn.journal.length - s.rjn.reserved

/-- An entry of a kind with every unused field 0, stamped with a moment (R156). -/
def entryAt (t : DayTime) (k : EntryKind) (r : Reason) (side : Option Side) : Entry :=
  { seq := 0, kind := k, reason := r, side := side, day := t.day, secs := t.secs, card := 0, amount := 0
    balance := 0, cardSeq := 0, tag := 0, extra := 0 }

/-- An entry stamped with the day clock as it reads now (R156). -/
def State.entry (s : State) (k : EntryKind) (r : Reason) (side : Option Side) : Entry :=
  entryAt s.now k r side

/-- LOW judged against the free count (R161). -/
def judgeLow (s : State) : State :=
  if s.free < 256 then
    if s.rjn.low then s else raiseStation .journalLow (s.setRjn { s.rjn with low := true })
  else s.setRjn { s.rjn with low := false }

/-- STOP judged against the free count (R161). -/
def judgeStop (s : State) : State :=
  if s.free < 64 then
    if s.rjn.stop then s
    else setJournalStop true (raiseStation .journalStop (s.setRjn { s.rjn with stop := true }))
  else setJournalStop false (s.setRjn { s.rjn with stop := false })

/-- Both space conditions, judged at a change of the free count (R161). -/
def judgeSpace (s : State) : State := judgeStop (judgeLow s)

/-- An entry joins after the newest and takes the next sequence (R155). -/
def appendEntry (e : Entry) (s : State) : State :=
  s.setRjn { s.rjn with
    journal := s.rjn.journal ++ [{ e with seq := s.rjn.nextSeq }], nextSeq := s.rjn.nextSeq + 1 }

/-- An entry due while no place is free: counted, with the OVERRUN notice (R162). -/
def countOverrun (s : State) : State :=
  raiseStation .overrun (s.setRjn { s.rjn with overrun := min 65535 (s.rjn.overrun + 1) })

/-- An entry from the free pool (R158, R162). Guaranteed and tested entries always find a place (R160). -/
def writeFree (e : Entry) (s : State) : State :=
  if s.free = 0 then countOverrun s else judgeSpace (appendEntry e s)

/-- An entry from a reservation (R158). Without any reservation, which no run reaches, the entry is taken from the
free pool (log 29). -/
def writeReserved (e : Entry) (s : State) : State :=
  if s.rjn.reserved = 0 then writeFree e s
  else appendEntry e (s.setRjn { s.rjn with reserved := s.rjn.reserved - 1 })

/-- The OVERRUN entry due when free has risen from 0 with a count standing (R163). -/
def overrunEntry (freeBefore : Nat) (s : State) : State :=
  if freeBefore = 0 && 0 < s.free && 0 < s.rjn.overrun then
    judgeSpace (appendEntry { s.entry .overrun .none none with extra := s.rjn.overrun }
      (s.setRjn { s.rjn with overrun := 0 }))
  else s

/-- A reservation released unused (R158, R161, R163). -/
def release1 (s : State) : State :=
  if s.rjn.reserved = 0 then s
  else overrunEntry s.free (judgeSpace (s.setRjn { s.rjn with reserved := s.rjn.reserved - 1 }))

/-- `k` places reserved (R158). The owning rules have found them free; were fewer free, which no run reaches, those
would be taken (log 29). -/
def reserve (k : Nat) (s : State) : State :=
  judgeSpace (s.setRjn { s.rjn with reserved := s.rjn.reserved + min k s.free })

/-- The oldest uncollected sequence, or the next sequence when none is uncollected (R155). -/
def Rjn.oldest (r : Rjn) : Word32 :=
  match r.journal with
  | [] => r.nextSeq
  | e :: _ => e.seq

/-- The newest sequence (R155). -/
def Rjn.newest (r : Rjn) : Word32 := r.nextSeq - 1

/-! ## Timer channels (R103 to R106) -/

/-- A channel of the timer unit. -/
def Ltu.get (l : Ltu) : ChanId → Channel
  | .windowUp => l.windowUp
  | .windowPu => l.windowPu
  | .leafHold => l.leafHold
  | .writeU => l.writeU
  | .writeP => l.writeP
  | .occupancy => l.occupancy
  | .leafMove => l.leafMove
  | .signal => l.signal

/-- A channel of the timer unit replaced. -/
def Ltu.put (l : Ltu) (c : Channel) : ChanId → Ltu
  | .windowUp => { l with windowUp := c }
  | .windowPu => { l with windowPu := c }
  | .leafHold => { l with leafHold := c }
  | .writeU => { l with writeU := c }
  | .writeP => { l with writeP := c }
  | .occupancy => { l with occupancy := c }
  | .leafMove => { l with leafMove := c }
  | .signal => { l with signal := c }

/-- The window channel of a direction (R106). -/
def windowOf : Side → ChanId
  | .u => .windowUp
  | .p => .windowPu

/-- The write-wait channel of a side (R31). -/
def writeOf : Side → ChanId
  | .u => .writeU
  | .p => .writeP

/-- Whether the channel is periodic (R106: SIGNAL alone). -/
def ChanId.periodic : ChanId → Bool
  | .signal => true
  | _ => false

/-- The command start: R and C loaded, N = R, RUNNING (R105). An event not yet taken is withdrawn (log 4). -/
def Channel.start (r c : Nat) : Channel :=
  { reload := r, compare := c, count := r, state := .running, compareDue := false
    underflowDue := false }

/-- The command start held (R105). -/
def Channel.startHeld (r c : Nat) : Channel := { Channel.start r c with state := .held }

/-- The command hold (R105). -/
def Channel.hold (ch : Channel) : Channel :=
  match ch.state with
  | .running => { ch with state := .held }
  | _ => ch

/-- The command resume (R105). -/
def Channel.resume (ch : Channel) : Channel :=
  match ch.state with
  | .held => { ch with state := .running }
  | _ => ch

/-- The command stop (R105): STOPPED with N = 0; a channel already STOPPED stays. An event not yet taken is
withdrawn (log 4). -/
def Channel.stop (ch : Channel) : Channel :=
  match ch.state with
  | .stopped => { ch with compareDue := false, underflowDue := false }
  | _ => { ch with state := .stopped, count := 0, compareDue := false, underflowDue := false }

/-- One tick of a channel (R104). A compare event or an underflow that falls due while an earlier one of its kind is still
untaken is one with it (DEDUCED, unsafe; log 4). -/
def Channel.ticked (ch : Channel) (periodic : Bool) : Channel :=
  match ch.state with
  | .running =>
    let n := ch.count - 1
    if n = 0 then
      if periodic then { ch with count := ch.reload, underflowDue := true }
      else { ch with count := 0, state := .stopped, underflowDue := true }
    else if n = ch.compare then { ch with count := n, compareDue := true }
    else { ch with count := n }
  | _ => ch

/-- The channel runs, or its underflow is still to be taken. -/
def Channel.active (ch : Channel) : Bool := ch.state != .stopped || ch.underflowDue

/-- A channel of the part. -/
def State.chan (s : State) (i : ChanId) : Channel := s.ltu.get i

/-- A channel of the part replaced. -/
def setChan (i : ChanId) (c : Channel) (s : State) : State := s.setLtu (s.ltu.put c i)

def chanStart (i : ChanId) (r c : Nat) (s : State) : State := setChan i (.start r c) s
def chanStartHeld (i : ChanId) (r c : Nat) (s : State) : State := setChan i (.startHeld r c) s
def chanHold (i : ChanId) (s : State) : State := setChan i (s.chan i).hold s
def chanResume (i : ChanId) (s : State) : State := setChan i (s.chan i).resume s
def chanStop (i : ChanId) (s : State) : State := setChan i (s.chan i).stop s

/-- The owner takes the compare event handed to it (R104). -/
def takeCompare (i : ChanId) (s : State) : State :=
  setChan i { s.chan i with compareDue := false } s

/-- The owner takes the underflow handed to it (R104). -/
def takeUnderflow (i : ChanId) (s : State) : State :=
  setChan i { s.chan i with underflowDue := false } s

/-- Every channel ticked once (R104). -/
def Ltu.ticked (l : Ltu) : Ltu :=
  { windowUp := l.windowUp.ticked false, windowPu := l.windowPu.ticked false
    leafHold := l.leafHold.ticked false, writeU := l.writeU.ticked false
    writeP := l.writeP.ticked false, occupancy := l.occupancy.ticked false
    leafMove := l.leafMove.ticked false, signal := l.signal.ticked true }

/-! ## Per-side records -/

/-- The slot of a side (R31). -/
def State.slot (s : State) : Side → Option Slot
  | .u => s.txu.slotU
  | .p => s.txu.slotP

/-- The slot of a side replaced. -/
def setSlot (x : Side) (v : Option Slot) (s : State) : State :=
  match x with
  | .u => s.setTxu { s.txu with slotU := v }
  | .p => s.setTxu { s.txu with slotP := v }

/-- The credit queue of a direction (R108). -/
def State.queue (s : State) : Side → List Credit
  | .u => s.pcu.queueUp
  | .p => s.pcu.queuePu

/-- The credit queue of a direction replaced. -/
def setQueue (d : Side) (q : List Credit) (s : State) : State :=
  match d with
  | .u => s.setPcu { s.pcu with queueUp := q }
  | .p => s.setPcu { s.pcu with queuePu := q }

/-- A slot's claim on a place of its direction's queue (R32). -/
def State.claim (s : State) (d : Side) : Bool :=
  match s.slot d with
  | some sl => sl.kind == .accept
  | none => false

/-- Room in a queue: its credits and its claim below 4 (R109). -/
def State.room (s : State) (d : Side) : Bool := (s.queue d).length + (s.claim d).toNat < 4

/-- The reservations a slot, a credit and a pending-tear hold (R159). -/
def slotReservations : Nat := 3
def creditReservations : Nat := 1
def tearReservations : Nat := 2

/-- Some beam is blocked (R112). -/
def State.anyBeam (s : State) : Bool := s.pcu.beam1 || s.pcu.beam2 || s.pcu.beam3 || s.pcu.beam4

/-! ## Tones (R145 to R147) -/

/-- Priority of a pattern (R145). -/
def Tone.priority : Tone → Nat
  | .alarm => 4
  | .refuse => 3
  | .accept => 2
  | .cue => 1

/-- Segment of a pattern, the reload of SIGNAL (R145). -/
def Tone.segment : Tone → Nat
  | .alarm => 32
  | .refuse => 12
  | .accept => 16
  | .cue => 12

/-- Silence of a segment, the compare of SIGNAL (R145). -/
def Tone.silence : Tone → Nat
  | .alarm => 16
  | .refuse => 6
  | .accept => 6
  | .cue => 6

/-- Frequency of a pattern in Hz (R145). -/
def Tone.frequency : Tone → Nat
  | .alarm => 4096
  | .refuse => 1024
  | .accept => 2048
  | .cue => 512

/-- Whether the arbiter starts a request (R147). -/
def toneStarts (s : State) (t : Tone) : Bool :=
  match s.sgu.tone with
  | none => true
  | some p => p.priority < t.priority

/-- A pattern started: tone on, SIGNAL started (R146). -/
def startTone (t : Tone) (pulses : Nat) (s : State) : State :=
  chanStart .signal t.segment t.silence
    (s.setSgu { s.sgu with tone := some t, pulses := pulses, toneOn := true })

/-- A request taken by the arbiter (R147). -/
def requestTone (t : Tone) (pulses : Nat) (s : State) : State :=
  if toneStarts s t then startTone t pulses s else s

/-- What a request leaves in a sample: the pattern, STARTED or DROPPED, and at a drop the pattern playing (R172). -/
def sampleTone (s : State) (t : Tone) : SampleTone :=
  { requested := some t, started := toneStarts s t
    playing := if toneStarts s t then none else s.sgu.tone }

/-- ALARM (R145, R148). -/
def toneAlarm (s : State) : State := requestTone .alarm 4 s

/-- ACCEPT (R145, R148). -/
def toneAccept (s : State) : State := requestTone .accept 1 s

/-- A refusal handed to SGU: REFUSE requested, and the refusal flash of the end set for 64 ticks unless the
effective mode is FREE (R148, R151). -/
def sguRefuse (x : Side) (s : State) : State :=
  let t := requestTone .refuse 3 s
  if s.effMode = .free then t
  else
    match x with
    | .u => t.setSgu { t.sgu with flashU := some (s.svc.tickCount + 64) }
    | .p => t.setSgu { t.sgu with flashP := some (s.svc.tickCount + 64) }

/-- The hurry flag of a direction replaced (R150). -/
def setHurry (d : Side) (b : Bool) (s : State) : State :=
  match d with
  | .u => s.setSgu { s.sgu with hurryUp := b }
  | .p => s.setSgu { s.sgu with hurryPu := b }

end Sys2Proof.Machine
end

