-- ==== Sys2Proof/Machine/Operands.lean ====
section
/-! DEFINITION. Operand forms: the codes of every enumerated field (R199), the card image (R196), the fare image
(R197), the sighting body (R198), the deny operations and the setup record (R186, R187). -/

namespace Sys2Proof.Machine

/-! ## Codes (R199) -/

def Result.code : Result → Byte
  | .ok => 0
  | .checkError => 1
  | .badLength => 2
  | .badField => 3
  | .notPermitted => 4
  | .notReady => 5
  | .versionMismatch => 6
  | .tableFull => 7
  | .badImage => 8
  | .noTransaction => 9
  | .laneBusy => 10

def sideCode : Option Side → Byte
  | none => 0
  | some .u => 1
  | some .p => 2

/-- A side or direction field of a request: U or UP 1, P or PU 2; anything else is outside its set. -/
def sideOf (b : Byte) : Option Side :=
  if b = 1 then some .u else if b = 2 then some .p else none

def Mode.code : Mode → Byte
  | .entry => 1
  | .exit => 2
  | .both => 3
  | .closed => 4
  | .free => 5

def modeOf (b : Byte) : Option Mode :=
  match b.toNat with
  | 1 => some .entry
  | 2 => some .exit
  | 3 => some .both
  | 4 => some .closed
  | 5 => some .free
  | _ => none

def VerdictKind.code : VerdictKind → Byte
  | .accept => 1
  | .acceptNoWrite => 2
  | .refuse => 3
  | .refuseAndWrite => 4

def WriteResult.code : WriteResult → Byte
  | .done => 1
  | .notWritten => 2
  | .uncertain => 3
  | .noWrite => 4

/-- A write outcome of a request: NO_WRITE is a write result only. -/
def outcomeOf (b : Byte) : Option WriteResult :=
  match b.toNat with
  | 1 => some .done
  | 2 => some .notWritten
  | 3 => some .uncertain
  | _ => none

def EntryKind.code : EntryKind → Byte
  | .start => 1
  | .entry => 2
  | .exit => 3
  | .reopen => 4
  | .tearCompleted => 5
  | .refusal => 6
  | .blockWritten => 7
  | .tear => 8
  | .tearResolved => 9
  | .clone => 10
  | .cloneSuspect => 11
  | .passage => 12
  | .unpaidPassage => 13
  | .wrongWay => 14
  | .creditExpired => 15
  | .creditCancelled => 16
  | .staffPass => 17
  | .freePeriod => 18
  | .timeStep => 19
  | .fareSwitched => 20
  | .keyChanged => 21
  | .modeChanged => 22
  | .leafForced => 23
  | .leafFault => 24
  | .overrun => 25

def Reason.code : Reason → Byte
  | .none => 0
  | .ok => 1
  | .pass => 2
  | .staff => 3
  | .incompletePenalty => 4
  | .noEntryPenalty => 5
  | .sameStation => 6
  | .reopen => 7
  | .tearCompleted => 8
  | .laneFree => 16
  | .outOfService => 17
  | .wrongDirection => 18
  | .readerBusy => 19
  | .laneBusy => 20
  | .unreadable => 21
  | .tampered => 22
  | .blocked => 23
  | .concurrent => 24
  | .clone => 25
  | .denied => 26
  | .passback => 27
  | .lowBalance => 28
  | .writeFailed => 29
  | .paid => 32
  | .mode => 40
  | .free => 41
  | .fault => 42
  | .restart => 43
  | .warmStart => 44
  | .written => 48
  | .notWritten => 49
  | .unresolved => 50
  | .sighting => 51
  | .emergency => 56
  | .stationFree => 57
  | .moveTimeout => 60
  | .switchFault => 61
  | .obstruction => 62
  | .station => 64
  | .emergencyOn => 65
  | .emergencyOff => 66
  | .forward => 68
  | .backward => 69
  | .now => 72
  | .timed => 73
  | .cold => 76
  | .warm => 77
  | .lane => 78

def CreditKind.code : CreditKind → Byte
  | .paid => 1
  | .reopen => 2
  | .tearCompleted => 3
  | .staff => 4

/-- In the journal a reason that names a credit's kind uses the reason codes (R199). -/
def CreditKind.reason : CreditKind → Reason
  | .paid => .paid
  | .reopen => .reopen
  | .tearCompleted => .tearCompleted
  | .staff => .staff

def DenyReason.code : DenyReason → Byte
  | .stolen => 1
  | .cloned => 2
  | .issuerBlock => 3
  | .localClone => 4

/-- A reason the station may give: LOCAL_CLONE is a lane's own (R83). -/
def stationDenyReason (b : Byte) : Option DenyReason :=
  match b.toNat with
  | 1 => some .stolen
  | 2 => some .cloned
  | 3 => some .issuerBlock
  | _ => none

def DenyOrigin.code : DenyOrigin → Byte
  | .station => 1
  | .localOrigin => 2

def SightEvent.code : SightEvent → Byte
  | .entry => 1
  | .exit => 2
  | .refused => 3

def sightEventOf (b : Byte) : Option SightEvent :=
  match b.toNat with
  | 1 => some .entry
  | 2 => some .exit
  | 3 => some .refused
  | _ => none

def SightOrigin.code : SightOrigin → Byte
  | .localOrigin => 1
  | .remote => 2

/-- Merge results (R99). -/
inductive MergeResult where
  | ignored
  | inserted
  | updated
  | refreshed
  | clone
  | tearWritten
  | tearNotWritten
  deriving DecidableEq, Repr

def MergeResult.code : MergeResult → Byte
  | .ignored => 0
  | .inserted => 1
  | .updated => 2
  | .refreshed => 3
  | .clone => 4
  | .tearWritten => 5
  | .tearNotWritten => 6

def LeafState.code : LeafState → Byte
  | .closed => 1
  | .opening _ => 2
  | .opened _ => 3
  | .closing => 4
  | .forced => 5
  | .fault => 6
  | .freeOpen => 7

/-- The direction of the leaf pair state, none where the state has none (R188). -/
def LeafState.dir : LeafState → Option Side
  | .opening d => some d
  | .opened d => some d
  | _ => none

def toneCode : Option Tone → Byte
  | none => 0
  | some .alarm => 1
  | some .refuse => 2
  | some .accept => 3
  | some .cue => 4

/-- Tone result of a sample: none, STARTED or DROPPED. -/
def SampleTone.code (t : SampleTone) : Byte :=
  if t.requested.isNone then 0 else if t.started then 1 else 2

def Lamp.code : Lamp → Byte
  | .off => 0
  | .steady => 1
  | .flash => 2

def settingOf (b : Byte) : Option Setting :=
  match b.toNat with
  | 0 => some .unmasked
  | 1 => some .visible
  | 2 => some .hidden
  | _ => none

def Cause.code : Cause → Nat
  | .expired => 1
  | .auditReady => 2
  | .clone => 3
  | .tamper => 4
  | .denyStale => 5
  | .unpaid => 6
  | .wrongWay => 7
  | .forced => 8
  | .leafFault => 9
  | .occupiedLong => 10
  | .journalLow => 11
  | .journalStop => 12
  | .overrun => 13
  | .coldStart => 14
  | .restarted => 15
  | .emergency => 16
  | .modeChanged => 17
  | .serviceChanged => 18
  | .fareSwitched => 19

/-- The group bit of a cause: TRANSACTION 0, SCREENING 1, GATE 2, JOURNAL 3, SYSTEM 4 (R190). -/
def Cause.group : Cause → Nat
  | .expired | .auditReady => 0
  | .clone | .tamper | .denyStale => 1
  | .unpaid | .wrongWay | .forced | .leafFault | .occupiedLong => 2
  | .journalLow | .journalStop | .overrun => 3
  | .coldStart | .restarted | .emergency | .modeChanged | .serviceChanged | .fareSwitched => 4

/-- Stages of a BAD_IMAGE reply. -/
inductive ImageStage where
  | none
  | length
  | check
  | field
  deriving DecidableEq, Repr

def ImageStage.code : ImageStage → Byte
  | .none => 0
  | .length => 1
  | .check => 2
  | .field => 3

def RatingClass.code : RatingClass → Byte
  | .none => 0
  | .entry => 1
  | .incompletePenalty => 2
  | .noEntryPenalty => 3
  | .pass => 4
  | .staff => 5
  | .sameStation => 6
  | .journey => 7

def AuditState.code : AuditState → Byte
  | .idle => 0
  | .armed _ => 1
  | .tracking => 2
  | .closing => 3
  | .valid => 4

/-- What armed the tag, 0 when the state is not ARMED (R198). -/
def AuditState.armedCode : AuditState → Byte
  | .armed .counter => 1
  | .armed .station => 2
  | _ => 0

def AuditOutcome.code : AuditOutcome → Byte
  | .passed => 1
  | .expired => 2
  | .cancelled => 3
  | .writeFailed => 4
  | .tear => 5
  | .aborted => 6

/-- An on/off field of a request. -/
def onOffOf (b : Byte) : Option Bool :=
  if b = 0 then some false else if b = 1 then some true else none

/-- The out-of-service reason bits (R199). -/
def Reasons.toByte (r : Reasons) : Byte :=
  BitVec.ofNat 8 (bitAt r.noKey 0 + bitAt r.noFare 1 + bitAt r.noTime 2 + bitAt r.noSetup 3
    + bitAt r.journalStop 4 + bitAt r.leafFault 5 + bitAt r.laneHold 6 + bitAt r.modeClosed 7)

/-! ## The card image (R1, R196) -/

/-- The fields of an image as they stand in its bytes (R196). The flags byte and the kind byte are kept as codes, so
that the form check (R3) can judge them. -/
structure Card where
  number : Nat
  kindCode : Nat
  cls : Nat
  flags : Byte
  transfers : Nat
  seq : Word16
  tag : Word16
  balance : Int
  entryStation : Nat
  entryZone : Nat
  entryLane : Nat
  entryDay : Nat
  entrySecs : Nat
  exitDay : Nat
  exitSecs : Nat
  spendDay : Nat
  spendAmount : Nat
  passFirst : Nat
  passLast : Nat
  passLow : Nat
  passHigh : Nat
  writer : Nat
  deriving DecidableEq, Repr

/-- An image read at the offsets of R196. -/
def readCard (im : List Byte) : Card :=
  { number := field im 0 4
    kindCode := field im 4 1
    cls := field im 5 1
    flags := BitVec.ofNat 8 (field im 6 1)
    transfers := field im 7 1
    seq := BitVec.ofNat 16 (field im 8 2)
    tag := BitVec.ofNat 16 (field im 10 2)
    balance := fieldSigned im 12
    entryStation := field im 16 2
    entryZone := field im 18 1
    entryLane := field im 19 1
    entryDay := field im 20 2
    entrySecs := field im 22 3
    exitDay := field im 25 2
    exitSecs := field im 27 3
    spendDay := field im 30 2
    spendAmount := field im 32 4
    passFirst := field im 36 2
    passLast := field im 38 2
    passLow := field im 40 1
    passHigh := field im 41 1
    writer := field im 42 2 }

/-- The 44 content bytes of a card at the offsets of R196. -/
def cardBytes (c : Card) : List Byte :=
  toBE 4 c.number ++ toBE 1 c.kindCode ++ toBE 1 c.cls ++ [c.flags] ++ toBE 1 c.transfers
    ++ toBE 2 c.seq.toNat ++ toBE 2 c.tag.toNat ++ toBE32s c.balance ++ toBE 2 c.entryStation
    ++ toBE 1 c.entryZone ++ toBE 1 c.entryLane ++ toBE 2 c.entryDay ++ toBE 3 c.entrySecs
    ++ toBE 2 c.exitDay ++ toBE 3 c.exitSecs ++ toBE 2 c.spendDay ++ toBE 4 c.spendAmount
    ++ toBE 2 c.passFirst ++ toBE 2 c.passLast ++ toBE 1 c.passLow ++ toBE 1 c.passHigh
    ++ toBE 2 c.writer

def Card.entryOpen (c : Card) : Bool := c.flags.getLsbD 0
def Card.blocked (c : Card) : Bool := c.flags.getLsbD 1
def Card.isStored (c : Card) : Bool := c.kindCode == 1
def Card.isPass (c : Card) : Bool := c.kindCode == 2
def Card.isStaff (c : Card) : Bool := c.kindCode == 3

/-- The pass is valid today and covers a zone (R70). -/
def Card.passCovers (c : Card) (today zone : Nat) : Bool :=
  c.isPass && c.passFirst ≤ today && today ≤ c.passLast && c.passLow ≤ zone && zone ≤ c.passHigh

/-! ## The fare image (R58, R197) -/

def bankImageId (b : List Byte) : Nat := field b 0 4
def bankZone (b : List Byte) (o d : Nat) : Nat := field b (4 + 32 * o + 2 * d) 2

/-- Day types (R22), in the order of the band tables. -/
inductive DayType where
  | weekday
  | saturday
  | sundayHoliday
  deriving DecidableEq, Repr

def DayType.tableStart : DayType → Nat
  | .weekday => 516
  | .saturday => 548
  | .sundayHoliday => 580

/-- Start minute and multiplier of band `i` (0..7) of the table at an offset; 65,535 marks an unused band. -/
def bandStart (b : List Byte) (table i : Nat) : Nat := field b (table + 4 * i) 2
def bandMultiplier (b : List Byte) (table i : Nat) : Nat := field b (table + 4 * i + 2) 2

def classDiscount (b : List Byte) (k : Nat) : Nat := field b (612 + 5 * k) 1
def classCap (b : List Byte) (k : Nat) : Nat := field b (613 + 5 * k) 4
def transferWindow (b : List Byte) : Nat := field b 652 2
def transferCredit (b : List Byte) : Nat := field b 654 2
def transferLimit (b : List Byte) : Nat := field b 656 1
def fareUnit (b : List Byte) : Nat := field b 657 1
def overdraftLimit (b : List Byte) : Nat := field b 658 2
def minEntryBalance (b : List Byte) : Nat := field b 660 2
def sameStationFee (b : List Byte) : Nat := field b 662 2
def sameStationGrace (b : List Byte) : Nat := field b 664 2
def passbackMinutes (b : List Byte) : Nat := field b 666 2
def maxJourneyMinutes (b : List Byte) : Nat := field b 668 2
def weekdayOfDay1 (b : List Byte) : Nat := field b 670 1
def holiday (b : List Byte) (i : Nat) : Nat := field b (671 + 2 * i) 2
def padByte (b : List Byte) : Nat := field b 703 1

/-! ## Station bodies -/

/-- The fields of a sighting body (R99, R198). -/
structure SightBody where
  card : Nat
  seq : Word16
  tag : Word16
  day : Nat
  secs : Nat
  station : Nat
  lane : Nat
  event : Byte
  deriving DecidableEq, Repr

def readSightBody (b : List Byte) : SightBody :=
  { card := field b 0 4
    seq := BitVec.ofNat 16 (field b 4 2)
    tag := BitVec.ofNat 16 (field b 6 2)
    day := field b 8 2
    secs := field b 10 3
    station := field b 13 2
    lane := field b 15 1
    event := BitVec.ofNat 8 (field b 16 1) }

/-- A sighting entry as a sighting body (R87, R198). -/
def sightBytes (e : Sighting) : List Byte :=
  toBE 4 e.card ++ toBE 2 e.seq.toNat ++ toBE 2 e.tag.toNat ++ toBE 2 e.day ++ toBE 3 e.secs
    ++ toBE 2 e.station ++ toBE 1 e.lane ++ [e.event.code]

/-- An operation of a DENY DELTA: operation, base, width, reason, 7 bytes (R186). -/
structure DenyOp where
  op : Byte
  base : Nat
  width : Nat
  reason : Byte
  deriving DecidableEq, Repr

/-- The `n` operations from the front of the bytes. -/
def readDenyOps : Nat → List Byte → List DenyOp
  | 0, _ => []
  | n + 1, b =>
    { op := BitVec.ofNat 8 (field b 0 1), base := field b 1 4, width := field b 5 1
      reason := BitVec.ofNat 8 (field b 6 1) } :: readDenyOps n (b.drop 7)

/-- The pairs of a NOTICE MASK body (R191). -/
def readPairs : List Byte → List (Byte × Byte)
  | c :: v :: rest => (c, v) :: readPairs rest
  | _ => []

/-- The day and seconds of a request, from an offset (2 and 3 bytes). -/
def readDayTime (b : List Byte) (off : Nat) : DayTime :=
  { day := field b off 2, secs := field b (off + 2) 3 }

/-- A day and seconds a request may carry: day 1..65,534, seconds 0..86,399 (R20, R63). -/
def DayTime.inRange (t : DayTime) : Bool := 1 ≤ t.day && t.day ≤ 65534 && t.secs ≤ 86399

/-- A value clamped to a range, and whether it changed (R107, R187). -/
def clamp (lo hi v : Nat) : Nat := if v < lo then lo else if hi < v then hi else v

/-- The beam filter width as stored: clamped to 4..120, then rounded down to a multiple of 4 (R122). -/
def clampBeam (v : Nat) : Nat := clamp 4 120 v / 4 * 4

/-- The setup record of a LANE SETUP body with every field clamped (R187); the warning is checked against the window
as stored (R107). -/
def readSetup (b : List Byte) : Setup :=
  let window := clamp 2 30 (field b 4 1)
  { stationCode := field b 0 2
    zone := clamp 0 15 (field b 2 1)
    group := clamp 64 254 (field b 3 1)
    window := window
    warning := clamp 0 window (field b 5 1)
    leafHold := clamp 16 192 (field b 6 1)
    writeTimeout := clamp 32 320 (field b 7 2)
    occupancy := clamp 10 120 (field b 9 1)
    beamWidth := clampBeam (field b 10 1)
    threshold := clamp 0 1023 (field b 11 2)
    reopenGrace := clamp 1 30 (field b 13 1)
    tearHold := clamp 5 120 (field b 14 1) }

/-- The clamped-fields mask of a LANE SETUP reply (R187). -/
def clampedMask (b : List Byte) : Nat :=
  let t := readSetup b
  bitAt (t.zone ≠ field b 2 1) 0 + bitAt (t.group ≠ field b 3 1) 1 + bitAt (t.window ≠ field b 4 1) 2
    + bitAt (t.warning ≠ field b 5 1) 3 + bitAt (t.leafHold ≠ field b 6 1) 4
    + bitAt (t.writeTimeout ≠ field b 7 2) 5 + bitAt (t.occupancy ≠ field b 9 1) 6
    + bitAt (t.beamWidth ≠ field b 10 1) 7 + bitAt (t.threshold ≠ field b 11 2) 8
    + bitAt (t.reopenGrace ≠ field b 13 1) 9 + bitAt (t.tearHold ≠ field b 14 1) 10

end Sys2Proof.Machine
end

