-- ==== Sys2Proof/Machine/Card.lean ====
section
/-! DEFINITION. The record checker RCK (chapter 1): form check, record check, write tag, issued images, key loads. -/

namespace Sys2Proof.Machine

/-- The form conditions of R3 in their order: the detail number of the first that holds. -/
def formFault (c : Card) : Option Nat :=
  if c.number = 0 || c.number = 4294967295 then some 1
  else if !(c.isStored || c.isPass || c.isStaff) then some 2
  else if 7 < c.cls then some 3
  else if c.flags &&& 0xFC ≠ 0 then some 4
  else if 3 < c.transfers then some 5
  else if c.balance < -99999 || 9999999 < c.balance then some 6
  else if c.entryOpen && 15 < c.entryZone then some 7
  else if (c.entryOpen && 86399 < c.entrySecs) || 86399 < c.exitSecs then some 8
  else if 9999999 < c.spendAmount then some 9
  else if c.isPass && (15 < c.passLow || 15 < c.passHigh) then some 10
  else if c.isPass && c.passHigh < c.passLow then some 11
  else if c.isPass && c.passLast < c.passFirst then some 12
  else none

/-- The record check of the first 44 bytes of an image under a key word (R5). -/
def recordCheck (key : Word32) (im : List Byte) : Word32 := crc32 key (im.take 44)

/-- The stored check value of an image (R1, R196). -/
def storedCheck (im : List Byte) : Word32 := BitVec.ofNat 32 (field im 44 4)

/-- The image passes under a key slot; an absent slot passes nothing. -/
def passesUnder (k : Option Key) (im : List Byte) : Bool :=
  match k with
  | some key => recordCheck key.word im == storedCheck im
  | none => false

/-- The record check of R7: under CURRENT, then under PREVIOUS. -/
def recordPasses (s : State) (im : List Byte) : Bool :=
  passesUnder s.rck.current im || passesUnder s.rck.previous im

/-- The write tag of R14 for a counter value and a lane address. -/
def writeTag (w : Word32) (addr : Nat) : Word16 :=
  let raw := (w.toNat * 40503 + addr * 257) % 65536
  if raw = 0 then 1 else BitVec.ofNat 16 raw

/-- W incremented for an issued image (R13). -/
def bumpW (s : State) : State := s.setRck { s.rck with w := s.rck.w + 1 }

/-- An absent entry record written as zeros (R2, R15 step 2). -/
def clearEntry (c : Card) : Card :=
  { c with entryStation := 0, entryZone := 0, entryLane := 0, entryDay := 0, entrySecs := 0 }

/-- Steps 2 to 6 of R15 on the content the verdict has produced, with W already incremented in `s`: entry record
zeroed when absent, undefined flags clear, sequence, tag and last writer renewed. A record that was absent already is
zeroed too, also in a refuse-and-write image (R2 against R15 step 1 and R38; DEDUCED, unsafe, log 45). -/
def issuedCard (s : State) (c : Card) : Card :=
  let c := if c.entryOpen then c else clearEntry c
  { c with
    flags := c.flags &&& 3, seq := c.seq + 1, tag := writeTag s.rck.w s.laneAddr
    writer := s.setup.stationCode }

/-- The CURRENT key word. While CURRENT is absent no image is issued (R11). -/
def currentWord (s : State) : Word32 :=
  match s.rck.current with
  | some k => k.word
  | none => 0

/-- The 48 bytes of an issued card: its content and the record check under CURRENT (R6, R15 step 7). -/
def imageOf (s : State) (c : Card) : List Byte :=
  cardBytes c ++ toBE 4 (crc32 (currentWord s) (cardBytes c)).toNat

/-- An entry record made present by a verdict (R15 step 2). -/
def openEntry (s : State) (c : Card) : Card :=
  { c with
    flags := c.flags ||| 1, entryStation := s.setup.stationCode, entryZone := s.setup.zone
    entryLane := s.laneAddr, entryDay := s.svc.day, entrySecs := s.svc.secs }

/-- KEY_CHANGED's extra: the new label above, the label now in PREVIOUS below (R9). -/
def keyChangedExtra (new : Key) (previous : Option Key) : Nat :=
  new.label.toNat * 65536 + (match previous with | some k => k.label.toNat | none => 0)

/-- The key word equals the word in CURRENT: a repeat (R10). -/
def keyRepeat (s : State) (word : Word32) : Bool :=
  match s.rck.current with
  | some k => k.word == word
  | none => false

/-- A KEY LOAD (R9, R10). -/
def loadKey (new : Key) (s : State) : State :=
  if keyRepeat s new.word then s
  else
    let t := s.setRck { s.rck with current := some new, previous := s.rck.current }
    setNoKey false (writeFree { t.entry .keyChanged .none none with
      extra := keyChangedExtra new s.rck.current } t)

end Sys2Proof.Machine
end

