-- ==== Sys2Proof/Machine/Fare.lean ====
section
/-! DEFINITION. The fare rating unit FRU (chapter 4): banks, loading, switching, day type and the rating stages. -/

namespace Sys2Proof.Machine

/-! ## Banks (R57) -/

def Fru.bank (f : Fru) : BankId → Bank
  | .a => f.bankA
  | .b => f.bankB

def BankId.other : BankId → BankId
  | .a => .b
  | .b => .a

def BankId.code : BankId → Byte
  | .a => 0
  | .b => 1

/-- The ACTIVE bank. -/
def State.activeBank (s : State) : Bank := s.fru.bank s.fru.active

/-- The STANDBY bank. -/
def State.standbyBank (s : State) : Bank := s.fru.bank s.fru.active.other

/-- The bytes of the ACTIVE bank: the transaction's bank of a presentation taken now (R66). -/
def State.fares (s : State) : List Byte := s.activeBank.buffer

/-- The image id of a bank as reported: 0 when INVALID (R57). -/
def Bank.imageId (b : Bank) : Nat := if b.valid then bankImageId b.buffer else 0

/-- The STANDBY bank replaced. -/
def setStandby (b : Bank) (s : State) : State :=
  match s.fru.active with
  | .a => s.setFru { s.fru with bankB := b }
  | .b => s.setFru { s.fru with bankA := b }

/-- The pending switch replaced. -/
def setPendingSwitch (p : Option DayTime) (s : State) : State :=
  s.setFru { s.fru with pendingSwitch := p }

/-! ## Loading (R59 to R62) -/

/-- Bytes replaced from an offset onward. -/
def overwrite (buf : List Byte) (off : Nat) (data : List Byte) : List Byte :=
  buf.take off ++ data ++ buf.drop (off + data.length)

/-- A chunk that is not refused (R59). -/
def writeChunk (off : Nat) (data : List Byte) (s : State) : State :=
  setPendingSwitch none (setStandby
    { buffer := overwrite s.standbyBank.buffer off data, valid := false, maxima := none } s)

/-- The row and column maxima of a zone matrix (R62). -/
def rowMax (b : List Byte) (o : Nat) : Nat :=
  (List.range 16).foldl (fun m d => max m (bankZone b o d)) 0

def colMax (b : List Byte) (d : Nat) : Nat :=
  (List.range 16).foldl (fun m o => max m (bankZone b o d)) 0

def maximaOf (b : List Byte) : Maxima :=
  { row := (List.range 16).map (rowMax b), col := (List.range 16).map (colMax b) }

/-- A check that names an offset when it fails. -/
def failAt (bad : Bool) (off : Nat) : Option Nat := if bad then some off else none

/-- The first failing check of a list. -/
def firstFail (checks : List (Option Nat)) : Option Nat :=
  match checks with
  | [] => none
  | some off :: _ => some off
  | none :: rest => firstFail rest

/-- A band of a table is out of range (R61): the first band not at minute 0, or a used band above minute 1,439, not
after the band before it, after an unused one, or with a multiplier outside 50..300. -/
def bandFails (b : List Byte) (table i : Nat) : Bool :=
  let start := bandStart b table i
  let m := bandMultiplier b table i
  if i = 0 then start != 0 || m < 50 || 300 < m
  else if start = 65535 then false
  else
    let before := bandStart b table (i - 1)
    1439 < start || before == 65535 || start ≤ before || m < 50 || 300 < m

/-- The checks of one band table in band order, each naming the band's offset. -/
def tableChecks (b : List Byte) (table : Nat) : List (Option Nat) :=
  (List.range 8).map fun i => failAt (bandFails b table i) (table + 4 * i)

/-- The fare units of R58. -/
def fareUnits : List Nat := [1, 2, 5, 10, 20, 50, 100]

/-- The field stage: the offset of the first failing item, in the order of R58 (R61, R197). -/
def fieldFault (b : List Byte) : Option Nat :=
  firstFail
    ([failAt (bankImageId b = 0 || bankImageId b = 4294967295) 0]
      ++ (List.range 256).map (fun i => failAt (20000 < bankZone b (i / 16) (i % 16)) (4 + 2 * i))
      ++ tableChecks b 516 ++ tableChecks b 548 ++ tableChecks b 580
      ++ (List.range 8).map (fun k =>
        failAt (100 < classDiscount b k || 1000000 < classCap b k) (612 + 5 * k))
      ++ [failAt (240 < transferWindow b) 652, failAt (20000 < transferCredit b) 654,
        failAt (3 < transferLimit b) 656, failAt (!fareUnits.contains (fareUnit b)) 657,
        failAt (5000 < overdraftLimit b) 658, failAt (20000 < minEntryBalance b) 660,
        failAt (20000 < sameStationFee b) 662, failAt (120 < sameStationGrace b) 664,
        failAt (120 < passbackMinutes b) 666,
        failAt (maxJourneyMinutes b < 30 || 600 < maxJourneyMinutes b) 668,
        failAt (6 < weekdayOfDay1 b) 670]
      ++ (List.range 16).map (fun i => failAt (holiday b i = 65535) (671 + 2 * i))
      ++ [failAt (padByte b ≠ 0) 703])

/-- The stages of FARE CLOSE: the failing stage and its offset, or none when all pass (R60). -/
def closeFault (b : List Byte) (total : Nat) (check : Word32) : Option (ImageStage × Nat) :=
  if total ≠ 704 then some (.length, 0)
  else if crc32 0xFFFFFFFF b ≠ check then some (.check, 0)
  else
    match fieldFault b with
    | some off => some (.field, off)
    | none => none

/-- The STANDBY bank made INVALID, with any pending switch cancelled (R60). -/
def failClose (s : State) : State :=
  setPendingSwitch none (setStandby { s.standbyBank with valid := false, maxima := none } s)

/-- The STANDBY bank made VALID with its maxima (R60, R62). -/
def passClose (s : State) : State :=
  setStandby { s.standbyBank with valid := true, maxima := some (maximaOf s.standbyBank.buffer) } s

/-! ## Switching (R63 to R65) -/

/-- A swap (R65). -/
def swapBanks (reason : Reason) (s : State) : State :=
  let t := s.setFru { s.fru with active := s.fru.active.other }
  let v := raiseBoth .fareSwitched (writeFree
    { t.entry .fareSwitched reason none with
      card := s.activeBank.imageId, extra := t.activeBank.imageId } t)
  if s.activeBank.valid then v else setNoFare false v

/-- FRU compares a standing pending switch with the day clock (R64). -/
def takeTimedSwitch (s : State) : State :=
  match s.fru.pendingSwitch with
  | some target => if s.reached target then swapBanks .timed (setPendingSwitch none s) else s
  | none => s

/-- FRU takes the second handed to it (R19, R64; log 5). -/
def fruTakes (s : State) : State :=
  if s.fru.secondHanded then takeTimedSwitch (s.setFru { s.fru with secondHanded := false })
  else s

/-! ## Day type (R22) -/

def dayType (b : List Byte) (n : Nat) : DayType :=
  let index := (n + weekdayOfDay1 b) % 7
  if n ≠ 0 && (List.range 16).any (fun i => holiday b i == n) then .sundayHoliday
  else if index = 6 then .sundayHoliday
  else if index = 5 then .saturday
  else .weekday

/-! ## Rating (R67 to R80) -/

/-- Age of a moment in seconds, a negative one counting as 0 (section 3.4). -/
def ageOf (now past : DayTime) : Nat :=
  (((now.day : Int) - past.day) * 86400 + ((now.secs : Int) - past.secs)).toNat

/-- The age of a card's open entry (section 3.4). -/
def entryAge (s : State) (c : Card) : Nat :=
  ageOf s.now { day := c.entryDay, secs := c.entrySecs }

/-- S2's band: the last used band (0..7) whose start is at most the entry minute (R72). -/
def bandFor (b : List Byte) (table minute : Nat) : Nat :=
  (List.range 8).foldl
    (fun best i =>
      if bandStart b table i ≠ 65535 && bandStart b table i ≤ minute then i else best) 0

/-- S2 (R72). -/
def stageBand (f1 m : Nat) : Nat := (f1 * m + 50) / 100

/-- S3 (R73). -/
def stageConcession (f2 p : Nat) : Nat := f2 - (f2 * p + 50) / 100

/-- The journey is a transfer (R74). -/
def isTransfer (b : List Byte) (c : Card) : Bool :=
  let gap : Int := ((c.entryDay : Int) - c.exitDay) * 86400 + ((c.entrySecs : Int) - c.exitSecs)
  c.exitDay != 0 && 0 ≤ gap && gap ≤ (transferWindow b * 60 : Nat)
    && c.transfers < transferLimit b

/-- S5 (R75). -/
def stageRound (f4 u : Nat) : Nat := (f4 + u / 2) / u * u

/-- The spend before of S6 (R76). -/
def spendBefore (today : Nat) (c : Card) : Nat := if c.spendDay = today then c.spendAmount else 0

/-- The charge of S6 (R76). -/
def stageCap (f5 cap s : Nat) : Nat := if cap = 0 then f5 else min f5 (cap - s)

/-- S7: the purse (R77). -/
def pursePasses (b : List Byte) (balance : Int) (charge : Nat) : Bool :=
  !(0 < charge && balance - charge < -(overdraftLimit b : Int))

/-- A rating that runs only S7, or nothing when the base is 0: every stage repeats the base (R67 to R69). -/
def flatRating (b : List Byte) (cls : RatingClass) (c : Card) (base transfers : Nat) : Rating :=
  { cls := cls, band := 0, multiplier := 0, f1 := base, f2 := base, f3 := base, f4 := base
    f5 := base, spendBefore := 0, charge := base, spendDay := c.spendDay
    spendAmount := c.spendAmount, transfers := transfers, transferApplied := false
    newBalance := c.balance - base, passed := pursePasses b c.balance base }

/-- The rating of a penalty: S2 to S6 are skipped, so its spend before is a free value (R67 to R69; log 39). -/
def penaltyRating (b : List Byte) (cls : RatingClass) (today : Nat) (c : Card) (base transfers : Nat) : Rating :=
  { flatRating b cls c base transfers with
    spendBefore := Config.penaltySpendBefore today c.spendDay c.spendAmount }

/-- S6 and S7 on the value S5 left (R76, R77). -/
def cappedRating (b : List Byte) (today : Nat) (c : Card) (r : Rating) : Rating :=
  let before := spendBefore today c
  let charge := stageCap r.f5 (classCap b c.cls) before
  { r with
    spendBefore := before, charge := charge, spendDay := today
    spendAmount := min 9999999 (before + charge), newBalance := c.balance - charge
    passed := pursePasses b c.balance charge }

/-- The same-station case of JOURNEY (R69 to R71). -/
def sameStationRating (b : List Byte) (today : Nat) (c : Card) : Rating :=
  cappedRating b today c (flatRating b .sameStation c (sameStationFee b) 0)

/-- A journey through all the stages (R71 to R77). -/
def journeyRating (b : List Byte) (today zone : Nat) (c : Card) : Rating :=
  let table := (dayType b c.entryDay).tableStart
  let band := bandFor b table (c.entrySecs / 60)
  let m := bandMultiplier b table band
  let f1 := bankZone b c.entryZone zone
  let f2 := stageBand f1 m
  let f3 := stageConcession f2 (classDiscount b c.cls)
  let transfer := isTransfer b c
  let f4 := if transfer then f3 - transferCredit b else f3
  let f5 := stageRound f4 (fareUnit b)
  cappedRating b today c
    { cls := .journey, band := band + 1, multiplier := m, f1 := f1, f2 := f2, f3 := f3, f4 := f4
      f5 := f5, spendBefore := 0, charge := f5, spendDay := c.spendDay
      spendAmount := c.spendAmount, transfers := if transfer then c.transfers + 1 else 0
      transferApplied := transfer, newBalance := c.balance - f5, passed := true }

/-- The rating record of a verdict that rates nothing: class NONE and zeros (R80). -/
def Rating.nothing : Rating :=
  { cls := .none, band := 0, multiplier := 0, f1 := 0, f2 := 0, f3 := 0, f4 := 0, f5 := 0
    spendBefore := 0, charge := 0, spendDay := 0, spendAmount := 0, transfers := 0
    transferApplied := false, newBalance := 0, passed := true }

/-- The maxima kept with the ACTIVE bank (R62); a VALID bank always has them. -/
def State.maxima (s : State) : Maxima :=
  match s.activeBank.maxima with
  | some m => m
  | none => { row := [], col := [] }

/-- The incomplete-journey penalty of a zone (R62). -/
def State.rowMaximum (s : State) (zone : Nat) : Nat := s.maxima.row.getD zone 0

/-- The no-entry penalty of a zone (R62). -/
def State.colMaximum (s : State) (zone : Nat) : Nat := s.maxima.col.getD zone 0

/-- What step 8 settles for a presentation that is not refused: the accept reason, the rating and the entry station
code of the slot (R42, R44). -/
structure Classified where
  reason : Reason
  rating : Rating
  entryStation : Nat
  deriving DecidableEq, Repr

/-- The reason of an entry without penalty (R42). -/
def entryReason (s : State) (c : Card) : Reason :=
  if c.isStaff then .staff
  else if c.passCovers s.svc.day s.setup.zone then .pass
  else .ok

/-- Whether step 8 of slot U refuses with PASSBACK (R42 row 1). -/
def isPassback (s : State) (c : Card) : Bool :=
  c.entryOpen && c.entryStation == s.setup.stationCode
    && entryAge s c ≤ passbackMinutes s.fares * 60

/-- Step 8 for slot U when it is no passback (R42, R68). -/
def classifyEntry (s : State) (c : Card) : Classified :=
  if c.entryOpen && !c.isStaff then
    { reason := .incompletePenalty
      rating :=
        penaltyRating s.fares .incompletePenalty s.svc.day c (s.rowMaximum c.entryZone) c.transfers
      entryStation := c.entryStation }
  else
    { reason := entryReason s c, rating := flatRating s.fares .entry c 0 c.transfers
      entryStation := 0 }

/-- The purse tests of step 9 for slot U: the refusal detail, or none (R43). -/
def entryPurse (s : State) (c : Card) (k : Classified) : Option Nat :=
  if !k.rating.passed then some 2
  else if !(c.isStaff || c.passCovers s.svc.day s.setup.zone)
      && c.balance - k.rating.charge < minEntryBalance s.fares then some 1
  else none

/-- Step 8 for slot P: the first row of R44 that applies, with its rating (R44, R69, R70). -/
def classifyExit (s : State) (c : Card) : Classified :=
  if c.isStaff then
    { reason := .staff, rating := flatRating s.fares .staff c 0 c.transfers
      entryStation := if c.entryOpen then c.entryStation else 0 }
  else if !c.entryOpen || maxJourneyMinutes s.fares * 60 < entryAge s c then
    { reason := .noEntryPenalty
      rating := penaltyRating s.fares .noEntryPenalty s.svc.day c (s.colMaximum s.setup.zone) 0
      entryStation := 0 }
  else if c.passCovers s.svc.day c.entryZone && c.passCovers s.svc.day s.setup.zone then
    { reason := .pass, rating := flatRating s.fares .pass c 0 c.transfers
      entryStation := c.entryStation }
  else if c.entryStation = s.setup.stationCode
      && entryAge s c ≤ sameStationGrace s.fares * 60 then
    { reason := .sameStation, rating := sameStationRating s.fares s.svc.day c
      entryStation := c.entryStation }
  else
    { reason := .ok, rating := journeyRating s.fares s.svc.day s.setup.zone c
      entryStation := c.entryStation }

/-- The content of an entry image before it is issued (R43). -/
def entryContent (s : State) (c : Card) (k : Classified) : Card :=
  openEntry s { c with balance := k.rating.newBalance }

/-- The content of an exit image before it is issued (R45). -/
def exitContent (s : State) (c : Card) (k : Classified) : Card :=
  { clearEntry c with
    balance := k.rating.newBalance, flags := c.flags &&& 0xFE, exitDay := s.svc.day
    exitSecs := s.svc.secs, transfers := k.rating.transfers, spendDay := k.rating.spendDay
    spendAmount := k.rating.spendAmount }

/-- The low-balance cue of a verdict from step 3 on (R41, R79). -/
def lowCue (s : State) (c : Card) (newBalance : Int) : Bool :=
  !c.isStaff && newBalance < minEntryBalance s.fares

end Sys2Proof.Machine
end

