-- ==== Sys2Proof/Machine/Audit.lean ====
section
/-! DEFINITION. The audit sampler ADS (chapter 10): arming, the sample's parts, completion, collection. -/

namespace Sys2Proof.Machine

/-- The sampler record replaced. -/
def setAudit (a : Ads) (s : State) : State := s.setAds a

/-- The sample under construction changed. -/
def onSample (f : Sample → Sample) (s : State) : State :=
  s.setAds { s.ads with sample := s.ads.sample.map f }

/-! ## Arming and tagging (R170, R171) -/

/-- The sampler would tag the next offer: ARMED, whatever armed it (R171). -/
def auditArmed (s : State) : Bool :=
  match s.ads.phase with
  | .armed _ => true
  | _ => false

/-- A counted offer (R170): the counter goes up, holding at 65,535; at N or more the tag is armed. -/
def auditCount (s : State) : State :=
  let n := min 65535 (s.ads.counter + 1)
  s.setAds { s.ads with
    counter := n, phase := if s.ads.interval ≤ n then .armed .counter else .idle }

/-- An accepted verdict offered to ADS, with the sample it would open (R170, R171). Whether the verdict is tagged is
`auditArmed` of the state before. -/
def auditOffer (sample : Sample) (s : State) : State :=
  match s.ads.phase with
  | .idle => if s.ads.enable then auditCount s else s
  | .armed _ =>
    s.setAds { s.ads with phase := .tracking, sample := some sample, grantTick := none }
  | .tracking => s
  | .closing => s
  | .valid => s

/-- The verdict part of a sample; every other field not yet filled (R172). -/
def verdictPart (s : State) (c : Card) (x : Side) (kind : VerdictKind) (r : Reason) (rating : Rating) :
    Sample :=
  { card := c.number, side := x, kind := kind, reason := r
    bankImage := s.activeBank.imageId
    rating := rating, day := s.svc.day, secs := s.svc.secs, writeResult := none, writeTicks := 0
    tone := { requested := none, started := false, playing := none }, toGrant := none
    grantToEnd := none, farClears := 0, outcome := none, doneDay := 0, doneSecs := 0 }

/-! ## Following the tag (R173) -/

/-- The tag stands on something: TRACKING (R168). -/
def auditTracking (s : State) : Bool := s.ads.phase == .tracking

/-- Completion (R174): outcome and moment, VALID, AUDIT_READY. -/
def auditComplete (o : AuditOutcome) (s : State) : State :=
  let t := onSample (fun m =>
    { m with outcome := some o, doneDay := s.svc.day, doneSecs := s.svc.secs }) s
  raiseStation .auditReady (t.setAds { t.ads with phase := .valid, grantTick := none })

/-- The write part filled at an outcome (R172): its result, the ticks from the verdict, and the tone. -/
def auditWrite (r : WriteResult) (since : Word32) (tone : SampleTone) (s : State) : State :=
  onSample (fun m =>
    { m with
      writeResult := some r, writeTicks := ticksHeld since s.svc.tickCount, tone := tone }) s

/-- No tone requested (R172). -/
def SampleTone.absent : SampleTone := { requested := none, started := false, playing := none }

/-- The tagged credit of the granted direction's queue. -/
def grantedTagged (s : State) : Option Credit :=
  match s.lfc.grant with
  | some d => (s.queue d).find? fun c => c.audit
  | none => none

/-- ADS looks at the grant direction, when it changes and when a tagged credit is created: the first time it is the
tagged credit's direction, creation-to-grant is filled (R172). -/
def auditGrant (s : State) : State :=
  if auditTracking s && s.ads.grantTick.isNone then
    match grantedTagged s with
    | some c =>
      let t := onSample (fun m => { m with toGrant := some (ticksHeld c.tick s.svc.tickCount) }) s
      t.setAds { t.ads with grantTick := some s.svc.tickCount }
    | none => s
  else s

/-- Grant-to-end filled at a consumption or an expiry; absent when no grant came (R172). -/
def auditGrantToEnd (s : State) : State :=
  onSample (fun m =>
    { m with grantToEnd := s.ads.grantTick.map fun g => ticksHeld g s.svc.tickCount }) s

/-- The tagged credit has expired (R173). -/
def auditExpired (s : State) : State := auditComplete .expired (auditGrantToEnd s)

/-- The tagged credit has been consumed: PASSED fixed, the far-end clears as they stand, CLOSING (R173). -/
def auditConsumed (s : State) : State :=
  let t := onSample (fun m => { m with farClears := s.pcu.farClears, outcome := some .passed })
    (auditGrantToEnd s)
  t.setAds { t.ads with phase := .closing }

/-- The outcome of a sample whose tagged credit is cancelled (R116, R173, R177). -/
def cancelOutcome (r : Reason) : AuditOutcome :=
  if r = .restart ∨ r = .warmStart then .aborted else .cancelled

/-- The episode has ended: a sample in CLOSING takes its far-end clears and is completed (R173). -/
def auditEpisodeEnd (farClears : Nat) (s : State) : State :=
  if s.ads.phase = .closing then
    auditComplete .passed (onSample (fun m => { m with farClears := farClears }) s)
  else s

/-- A warm start or lane restart finds a sample in CLOSING: completed with the count as it stood (R177). -/
def auditStart (s : State) : State :=
  if s.ads.phase = .closing then auditComplete .passed s else s

/-! ## Setting up and collecting (R169, R175, R176) -/

/-- AUDIT SETUP taken (R169): the settings, and an ARMED-by-COUNTER tag dropped when the sampler is turned off. -/
def auditSettings (enable : Bool) (interval : Nat) (randomise : Bool) (s : State) : State :=
  s.setAds { s.ads with
    enable := enable, interval := max 16 interval, randomise := randomise
    phase := if !enable && s.ads.phase == .armed .counter then .idle else s.ads.phase }

/-- The counter's restart value at a release (R176). -/
def auditRestart (s : State) : Nat :=
  if s.ads.randomise && s.rck.w ≠ 0 then (writeTag s.rck.w s.laneAddr).toNat % 16 else 0

/-- A VALID sample released (R176). -/
def auditReleased (s : State) : State :=
  s.setAds { s.ads with
    sample := none, counter := auditRestart s, phase := .idle, grantTick := none }

/-- A tag armed by the station (R171). -/
def auditTagged (s : State) : State := s.setAds { s.ads with phase := .armed .station }

/-! ## The report (R175, R198) -/

def ticksField (t : Option Nat) : List Byte := toBE 2 (t.getD 0)

/-- The sample record as 66 bytes (R198). -/
def sampleBytes (m : Sample) : List Byte :=
  toBE 4 m.card ++ [sideCode (some m.side), m.kind.code, m.reason.code, m.rating.cls.code]
    ++ toBE 4 m.bankImage ++ toBE 1 m.rating.band ++ toBE 2 m.rating.multiplier
    ++ toBE 2 m.rating.f1 ++ toBE 2 m.rating.f2 ++ toBE 2 m.rating.f3 ++ toBE 2 m.rating.f4
    ++ toBE 2 m.rating.f5 ++ toBE 4 m.rating.spendBefore ++ toBE 2 m.rating.charge
    ++ toBE 2 m.rating.spendDay ++ toBE 4 m.rating.spendAmount ++ toBE 1 m.rating.transfers
    ++ [boolByte m.rating.transferApplied] ++ toBE32s m.rating.newBalance ++ toBE 2 m.day
    ++ toBE 3 m.secs ++ [match m.writeResult with | some r => r.code | none => 0]
    ++ toBE 2 m.writeTicks ++ [toneCode m.tone.requested, m.tone.code, toneCode m.tone.playing]
    ++ [boolByte m.toGrant.isSome ||| (boolByte m.grantToEnd.isSome <<< 1)]
    ++ ticksField m.toGrant ++ ticksField m.grantToEnd ++ toBE 1 m.farClears
    ++ [match m.outcome with | some o => o.code | none => 0] ++ toBE 2 m.doneDay
    ++ toBE 3 m.doneSecs

/-- The reply data of AUDIT READ in VALID: record, interval, counter, randomisation (R175, R198). -/
def auditReport (s : State) (m : Sample) : List Byte :=
  sampleBytes m ++ toBE 2 s.ads.interval ++ toBE 2 s.ads.counter ++ [boolByte s.ads.randomise]

/-- The data of a NOT_READY reply of AUDIT READ: state, armed by, counter (R175, R198). -/
def auditNotReady (s : State) : List Byte :=
  [s.ads.phase.code, s.ads.phase.armedCode] ++ toBE 2 s.ads.counter

end Sys2Proof.Machine
end

