-- ==== Sys2Proof/Machine/Flags.lean ====
section
/-! DEFINITION. Everything the part forms from its state: lamps (R150, R151), TONE (R145), drive outputs (R129),
summaries of a notice set (R190), the port byte (R178), ATTN (R181), and the end of every event, which raises
SERVICE_CHANGED once (R29) and forms the outputs anew (R152, R181). -/

namespace Sys2Proof.Machine

/-! ## Lamps (R150, R151) -/

/-- The hurry flag of a direction. -/
def State.hurry (s : State) : Side → Bool
  | .u => s.sgu.hurryUp
  | .p => s.sgu.hurryPu

/-- The refusal flash of an end. -/
def State.flash (s : State) : Side → Option Word32
  | .u => s.sgu.flashU
  | .p => s.sgu.flashP

/-- The leaves are OPENING(D) or OPEN(D). -/
def LeafState.towards (l : LeafState) (d : Side) : Bool := l == .opening d || l == .opened d

/-- GREEN of an end: the first row of R150 that holds. -/
def greenLamp (s : State) (x : Side) : Lamp :=
  if s.effMode = .free then .steady
  else if s.lfc.leaf.towards x then (if s.hurry x then .flash else .steady)
  else .off

/-- RED of an end: the first row of R151 that holds. -/
def redLamp (s : State) (x : Side) : Lamp :=
  if s.effMode = .free then .off
  else if (s.flash x).isSome then .flash
  else if !s.permits x || !s.svc.reasons.empty then .steady
  else .off

/-- The four lamps formed anew (R152). -/
def formLamps (s : State) : State :=
  s.setSgu { s.sgu with
    lampUG := greenLamp s .u, lampUR := redLamp s .u, lampPG := greenLamp s .p
    lampPR := redLamp s .p }

/-- Whether a lamp is lit: a FLASH is lit while the lane tick count mod 16 is 0..7 (R150). -/
def lampLit (s : State) : Lamp → Bool
  | .off => false
  | .steady => true
  | .flash => s.svc.tickCount.toNat % 16 < 8

/-! ## The TONE output (R145) -/

/-- What TONE carries (R145). -/
inductive ToneOut where
  /-- Held low. -/
  | low
  /-- A square wave, its frequency in Hz. -/
  | square (hz : Nat)
  deriving DecidableEq, Repr

/-- TONE: a square wave at the playing pattern's frequency while the tone is on, low while it is off (R145). -/
def State.toneOut (s : State) : ToneOut :=
  match s.sgu.toneOn, s.sgu.tone with
  | true, some t => .square t.frequency
  | true, none => .low
  | false, _ => .low

/-! ## Drive outputs (R129) -/

/-- The outputs A and B of a leaf's drive. -/
def Drive.outputs : Drive → Bool × Bool
  | .swingP => (true, false)
  | .swingU => (false, true)
  | .brake => (true, true)
  | .released => (false, false)

/-! ## Notice summaries and ATTN (R190, R181) -/

/-- A recorded cause: its count is above 0. -/
def Notice.recorded (n : Notice) : Bool := 0 < n.count

/-- A recorded cause with setting UNMASKED. -/
def Notice.unmasked (n : Notice) : Bool := n.recorded && n.setting == .unmasked

/-- A group summary: the bit of each group that holds a cause of some kind. -/
def groupSummary (holds : Notice → Bool) (ns : List Notice) : Byte :=
  [0, 1, 2, 3, 4].foldl
    (fun acc g => acc ||| BitVec.ofNat 8 (bitAt (ns.any fun n => holds n && n.cause.group == g) g)) 0

def recordedSummary (ns : List Notice) : Byte := groupSummary Notice.recorded ns
def unmaskedSummary (ns : List Notice) : Byte := groupSummary Notice.unmasked ns

/-- The lane notice bit: an unmasked lane notice is recorded (R178). -/
def State.noticeBit (s : State) : Bool := s.lpt.notices.any Notice.unmasked

/-- The port byte (R178). -/
def portByte (s : State) : Byte :=
  boolByte s.lpt.responseSlot.isSome ||| (boolByte s.noticeBit <<< 1)

/-- ATTN (R181). -/
def attnLevel (s : State) : Bool := s.lpt.responseSlot.isSome || s.noticeBit

/-- ATTN formed anew (R181). -/
def formAttn (s : State) : State := s.setLpt { s.lpt with attn := attnLevel s }

/-! ## The end of an event -/

/-- SERVICE_CHANGED raised once where the event has changed the reason set (R29; log 17). -/
def raiseService (s : State) : State :=
  if s.svc.serviceTouched then
    raiseBoth .serviceChanged (s.setSvc { s.svc with serviceTouched := false })
  else s

/-- The end of an event: SERVICE_CHANGED, then the outputs formed anew (R29, R152, R181). -/
def finish (s : State) : State := formAttn (formLamps (raiseService s))

end Sys2Proof.Machine
end

