-- ==== Sys2Proof/Machine/Screening.lean ====
section
/-! DEFINITION. The screening unit SCU (chapter 5) and the pending-tears it keeps (section 3.7). -/

namespace Sys2Proof.Machine

/-! ## The deny list (R81 to R88) -/

/-- The entry has this base and width. -/
def DenyEntry.is (e : DenyEntry) (base width : Nat) : Bool := e.base == base && e.width == width

/-- The entry covers a card number (R81). -/
def DenyEntry.covers (e : DenyEntry) (c : Nat) : Bool := e.base ≤ c && c < e.base + 2 ^ e.width

/-- The order of the list: base, then width (R81). -/
def DenyEntry.before (a b : DenyEntry) : Bool :=
  a.base < b.base || (a.base == b.base && a.width < b.width)

/-- An entry placed in order. -/
def denyInsert (e : DenyEntry) : List DenyEntry → List DenyEntry
  | [] => [e]
  | x :: xs => if e.before x then e :: x :: xs else x :: denyInsert e xs

/-- The narrower of a candidate and the best entry so far. -/
def narrower (best : Option DenyEntry) (e : DenyEntry) : Option DenyEntry :=
  match best with
  | some b => if e.width < b.width then some e else some b
  | none => some e

/-- The reported entry: the covering entry of smallest width (R82). -/
def denyMatch (l : List DenyEntry) (c : Nat) : Option DenyEntry :=
  (l.filter fun e => e.covers c).foldl narrower none

/-- The list, the add order of its LOCAL entries, and the LOCAL entries evicted so far. -/
structure DenyWork where
  entries : List DenyEntry
  locals : List Nat
  evicted : Nat
  deriving DecidableEq, Repr

/-- A new entry placed, the earliest LOCAL one evicted first when the list is full; none when the list is full and
holds no LOCAL entry (R84, R88). -/
def denyPlace (e : DenyEntry) (w : DenyWork) : Option DenyWork :=
  if w.entries.length < 2048 then some { w with entries := denyInsert e w.entries }
  else
    match w.locals with
    | [] => none
    | b :: rest =>
      some { entries := denyInsert e (w.entries.filter fun x => !x.is b 0), locals := rest
             evicted := w.evicted + 1 }

/-- The station's entry of an add (R84). -/
def stationEntry (now : DayTime) (base width : Nat) (r : DenyReason) : DenyEntry :=
  { base := base, width := width, reason := r, origin := .station, day := now.day
    secs := now.secs }

/-- An add (R84). -/
def denyAdd (e : DenyEntry) (w : DenyWork) : Option DenyWork :=
  if w.entries.any fun x => x.is e.base e.width then
    some { w with
      entries := w.entries.map fun x => if x.is e.base e.width then e else x
      locals := if e.width = 0 then w.locals.filter (· != e.base) else w.locals }
  else denyPlace e w

/-- A remove (R84). -/
def denyRemove (base width : Nat) (w : DenyWork) : DenyWork :=
  { w with
    entries := w.entries.filter fun x => !x.is base width
    locals := if width = 0 then w.locals.filter (· != base) else w.locals }

/-- The fields of an operation are in their sets (R83 stage 1). -/
def DenyOp.fieldsOk (o : DenyOp) : Bool :=
  (o.op == 1 || o.op == 2) && o.width ≤ 16 && o.base % 2 ^ o.width == 0
    && (o.op != 1 || (stationDenyReason o.reason).isSome)

/-- One operation of a delta (R84). -/
def denyApply (now : DayTime) (w : DenyWork) (o : DenyOp) : Option DenyWork :=
  if o.op = 1 then
    match stationDenyReason o.reason with
    | some r => denyAdd (stationEntry now o.base o.width r) w
    | none => none
  else some (denyRemove o.base o.width w)

/-- The operations worked through in order (R83 stage 3, R84). -/
def denyApplyAll (now : DayTime) : List DenyOp → DenyWork → Option DenyWork
  | [], w => some w
  | o :: rest, w =>
    match denyApply now w o with
    | some w' => denyApplyAll now rest w'
    | none => none

def State.denyWork (s : State) : DenyWork :=
  { entries := s.scu.deny, locals := s.scu.denyLocal, evicted := 0 }

def setDeny (w : DenyWork) (s : State) : State :=
  s.setScu { s.scu with deny := w.entries, denyLocal := w.locals }

/-- A wipe (R86). -/
def denyWiped (s : State) : State :=
  s.setScu { s.scu with
    deny := s.scu.deny.filter fun e => e.origin == .localOrigin, denyVersion := 0 }

/-- The LOCAL entries of the list. -/
def State.localCount (s : State) : Nat :=
  (s.scu.deny.filter fun e => e.origin == .localOrigin).length

/-- Results of a local add (R88), with their codes in a CLONE entry (R98). -/
inductive LocalAdd where
  | added
  | alreadyListed
  | notAdded
  deriving DecidableEq, Repr

def LocalAdd.code : LocalAdd → Nat
  | .added => 1
  | .alreadyListed => 2
  | .notAdded => 3

/-- The entry of a local add (R88). -/
def localEntry (now : DayTime) (c : Nat) : DenyEntry :=
  { base := c, width := 0, reason := .localClone, origin := .localOrigin, day := now.day
    secs := now.secs }

/-- A local add of a card number (R88). -/
def localAdd (c : Nat) (s : State) : State × LocalAdd :=
  if s.scu.deny.any fun e => e.is c 0 then (s, .alreadyListed)
  else
    match denyPlace (localEntry s.now c) s.denyWork with
    | some w => (setDeny { w with locals := w.locals ++ [c] } s, .added)
    | none => (s, .notAdded)

/-! ## The sighting table (R89 to R91) -/

/-- The entry of a card. -/
def State.sighting (s : State) (card : Nat) : Option Sighting :=
  s.scu.sightings.find? fun e => e.card == card

/-- An entry that holds an optional record is pinned (R90). -/
def Sighting.pinned (e : Sighting) : Bool := e.inFlight.isSome || e.tear.isSome || e.mark.isSome

/-- An entry replaced where it stands: no touch. -/
def putSighting (e : Sighting) (s : State) : State :=
  s.setScu { s.scu with
    sightings := s.scu.sightings.map fun x => if x.card = e.card then e else x }

/-- An entry replaced and touched: it moves to the most recent end (R91). -/
def touchSighting (e : Sighting) (s : State) : State :=
  s.setScu { s.scu with
    sightings := (s.scu.sightings.filter fun x => x.card != e.card) ++ [e] }

/-- The least recently touched unpinned entry evicted (R91); the list as it was when every entry is pinned. -/
def evictOldest : List Sighting → List Sighting
  | [] => []
  | e :: rest => if e.pinned then e :: evictOldest rest else rest

/-- An entry inserted for a card that has none, with eviction from a table of 512 (R91). At most 42 entries are
pinned (R90), so a place is always found; were every entry pinned, nothing would be inserted (log 29). -/
def insertSighting (e : Sighting) (s : State) : State :=
  if s.scu.sightings.length < 512 then
    s.setScu { s.scu with sightings := s.scu.sightings ++ [e] }
  else
    let l := evictOldest s.scu.sightings
    if l.length < 512 then s.setScu { s.scu with sightings := l ++ [e] } else s

/-- A fresh entry of this lane, now, holding a sequence and tag. -/
def localSighting (s : State) (card : Nat) (q t : Word16) (ev : SightEvent) : Sighting :=
  { card := card, seq := q, tag := t, event := ev, day := s.svc.day, secs := s.svc.secs
    station := s.setup.stationCode, lane := s.laneAddr, origin := .localOrigin, inFlight := none
    tear := none, mark := none }

/-- An entry set to a sequence and tag by this lane, now; its optional records stay (R96, R98). -/
def Sighting.setLocal (e : Sighting) (s : State) (q t : Word16) (ev : SightEvent) : Sighting :=
  { localSighting s e.card q t ev with inFlight := e.inFlight, tear := e.tear, mark := e.mark }

/-- The event of an accept at a side (R96). -/
def acceptEvent : Side → SightEvent
  | .u => .entry
  | .p => .exit

/-- The sighting of a verdict that issues an image (R96). -/
def sightIssue (card : Nat) (ev : SightEvent) (fl : InFlight) (s : State) : State :=
  match s.sighting card with
  | some e =>
    touchSighting { e.setLocal s fl.oldSeq fl.oldTag ev with inFlight := some fl } s
  | none =>
    insertSighting { localSighting s card fl.oldSeq fl.oldTag ev with inFlight := some fl } s

/-- A refusal BLOCKED, CONCURRENT, PASSBACK or LOW_BALANCE recorded (R98). -/
def sightRefusal (card : Nat) (q t : Word16) (s : State) : State :=
  match s.sighting card with
  | some e =>
    if (q = e.seq ∧ t = e.tag) ∨ seqOrder q e.seq = .ahead then
      touchSighting (e.setLocal s q t .refused) s
    else touchSighting e s
  | none => insertSighting (localSighting s card q t .refused) s

/-- The entry of a card touched, if it has one (R92, R98). -/
def sightTouch (card : Nat) (s : State) : State :=
  match s.sighting card with
  | some e => touchSighting e s
  | none => s

/-- The write of a card was not made: the in-flight record goes, the event becomes REFUSED (R96). A sequence and a tag
that a merge moved during the wait stay as it left them (DEDUCED, unsafe; log 42). -/
def sightNotWritten (card : Nat) (s : State) : State :=
  match s.sighting card with
  | some e => touchSighting { e with inFlight := none, event := .refused } s
  | none => s

/-! ## Unused-credit marks (R93 to R95) -/

/-- The mark of a card's entry removed. -/
def dropMark (card : Nat) (s : State) : State :=
  s.setScu { s.scu with
    sightings := s.scu.sightings.map fun e => if e.card = card then { e with mark := none } else e
    markOrder := s.scu.markOrder.filter (· != card) }

/-- The oldest mark removed when 8 stand (R94). -/
def dropNinthMark (s : State) : State :=
  if s.scu.markOrder.length < 8 then s
  else
    match s.scu.markOrder with
    | [] => s
    | oldest :: _ => dropMark oldest s

/-- The mark placed on a standing entry, newest among the marks; the entry is touched (R94). -/
def placeMark (card : Nat) (m : Mark) (s : State) : State :=
  match s.sighting card with
  | some e =>
    let t := touchSighting { e with mark := some m } s
    t.setScu { t.scu with markOrder := t.scu.markOrder.filter (· != card) ++ [card] }
  | none => s

/-- An unused-credit mark set for a card and direction (R94). -/
def setMark (card : Nat) (dir : Side) (s : State) : State :=
  match s.sighting card with
  | none => s
  | some e =>
    let m : Mark := { dir := dir, deadline := s.now.plus (s.setup.reopenGrace * 60) }
    placeMark card m (if e.mark.isSome then s else dropNinthMark s)

/-- The mark a presentation at a side re-opens with: of its direction, its deadline not yet reached (R93). -/
def openMark (s : State) (card : Nat) (x : Side) : Bool :=
  match s.sighting card with
  | some e =>
    match e.mark with
    | some m => m.dir == x && !s.reached m.deadline
    | none => false
  | none => false

/-- The entry's mark has reached its deadline (R95). -/
def markDue (s : State) (e : Sighting) : Bool :=
  match e.mark with
  | some m => s.reached m.deadline
  | none => false

/-- Every mark whose deadline the clock has reached or passed removed (R95). -/
def expireMarks (s : State) : State :=
  ((s.scu.sightings.filter (markDue s)).map Sighting.card).foldl (fun t c => dropMark c t) s

/-! ## Pending-tears (R52 to R55) -/

/-- The standing pending-tears, with their cards. -/
def State.tears (s : State) : List (Nat × Tear) :=
  s.scu.sightings.filterMap fun e =>
    match e.tear with
    | some t => some (e.card, t)
    | none => none

/-- The earlier of two tears in the order of their TEAR sequences (R52, R155; log 33). -/
def earlierTear (a b : Nat × Tear) : Nat × Tear :=
  if stampLater b.2.tearSeq a.2.tearSeq then b else a

/-- The pending-tear with the earliest TEAR sequence among some. -/
def earliestTear : List (Nat × Tear) → Option (Nat × Tear)
  | [] => none
  | t :: rest => some (rest.foldl earlierTear t)

/-- A TEAR_RESOLVED entry (R53, R55; log 19): the card, the new image's sequence and tag, the TEAR sequence. -/
def tearResolvedEntry (s : State) (card : Nat) (t : Tear) (r : Reason) : Entry :=
  { s.entry .tearResolved r (some t.side) with
    card := card, amount := if r = .notWritten then 0 else t.charge
    balance := if r = .notWritten then 0 else t.newBalance, cardSeq := t.newSeq, tag := t.newTag
    extra := t.tearSeq.toNat }

/-- The pending-tear record of a card's entry removed (R53, R55). -/
def dropTear (card : Nat) (s : State) : State :=
  s.setScu { s.scu with
    sightings := s.scu.sightings.map fun e =>
      if e.card = card then { e with tear := none } else e }

/-- A pending-tear resolved UNRESOLVED (R53): its entry from one reservation, the other released, the record
removed, the sighting as it stands, moved by a merge during the write wait or not (DEDUCED, unsafe; log 42). -/
def unresolveTear (card : Nat) (t : Tear) (s : State) : State :=
  release1 (dropTear card (writeReserved (tearResolvedEntry s card t .unresolved) s))

/-- The oldest pending-tear resolved when 32 stand (R51, R52). -/
def displaceTear (s : State) : State :=
  if s.tears.length < 32 then s
  else
    match earliestTear s.tears with
    | some (card, t) => unresolveTear card t s
    | none => s

/-- Every pending-tear that is due, resolved in the order of the TEAR sequences; `fuel` bounds their number (R95). -/
def expireTearsN : Nat → State → State
  | 0, s => s
  | n + 1, s =>
    match earliestTear (s.tears.filter fun t => s.reached t.2.deadline) with
    | some (card, t) => expireTearsN n (unresolveTear card t s)
    | none => s

def expireTears (s : State) : State := expireTearsN s.tears.length s

/-- SCU takes the second handed to it for the marks (R19, R95; log 5). -/
def marksTake (s : State) : State :=
  if s.scu.marksHanded then expireMarks (s.setScu { s.scu with marksHanded := false }) else s

/-- SCU takes the second handed to it for the pending-tears (R19, R95; log 5). -/
def tearsTake (s : State) : State :=
  if s.scu.tearsHanded then expireTears (s.setScu { s.scu with tearsHanded := false }) else s

/-- A pending-tear resolved WRITTEN or NOT_WRITTEN (R55): its entry from one reservation, the record removed, the
sighting set to the new image for WRITTEN and kept as it stands for NOT_WRITTEN, moved by a merge during the write wait
or not (DEDUCED, unsafe; log 42). The other reservation is the caller's. -/
def resolveTear (card : Nat) (t : Tear) (written : Bool) (s : State) : State :=
  let v := writeReserved
    (tearResolvedEntry s card t (if written then .written else .notWritten)) s
  match v.sighting card with
  | some e =>
    putSighting (if written then { e with seq := t.newSeq, tag := t.newTag, tear := none }
      else { e with tear := none }) v
  | none => v

/-- The rows of R54. -/
inductive TearRow where
  | oldImage
  | newSameSide
  | newOtherSide
  | lostToOther
  | writtenAgain
  | cloneEqual
  | cloneBehind
  deriving DecidableEq, Repr

/-- The first row of R54 that holds for a presented sequence and tag at a side. -/
def tearRow (t : Tear) (x : Side) (q e : Word16) : TearRow :=
  if q = t.oldSeq ∧ e = t.oldTag then .oldImage
  else if q = t.newSeq ∧ e = t.newTag then
    if x = t.side then .newSameSide else .newOtherSide
  else if q = t.newSeq then .lostToOther
  else if seqOrder q t.newSeq = .ahead then .writtenAgain
  else if q = t.oldSeq then .cloneEqual
  else .cloneBehind

/-- The sighting of row 4 of R54: set to the presented image and touched (R55). -/
def sightLost (card : Nat) (q e : Word16) (s : State) : State :=
  match s.sighting card with
  | some x => touchSighting { x with seq := q, tag := e } s
  | none => s

/-- A row's resolution with its other reservation released (R54, R55). Rows 6 and 7 resolve nothing. -/
def resolveRow (card : Nat) (t : Tear) (row : TearRow) (q e : Word16) (s : State) : State :=
  match row with
  | .oldImage => release1 (resolveTear card t false s)
  | .newSameSide => release1 (resolveTear card t true s)
  | .newOtherSide => release1 (resolveTear card t true s)
  | .lostToOther => release1 (sightLost card q e (resolveTear card t false s))
  | .writtenAgain => release1 (resolveTear card t true s)
  | .cloneEqual => s
  | .cloneBehind => s

/-! ## Clone evidence (R88, R96, R98, R100) -/

/-- CLONE's extra: the local add result above, the tag held by the sighting entry below (R98). -/
def cloneExtra (r : LocalAdd) (held : Word16) : Nat := r.code * 65536 + held.toNat

/-- Clone evidence of a merge or a DONE: local add, CLONE entry with reason SIGHTING, CLONE notice (R88, R98). -/
def cloneEvidence (card : Nat) (side : Option Side) (q t held : Word16) (s : State) : State :=
  let r := localAdd card s
  raiseStation .clone (writeFree
    { r.1.entry .clone .sighting side with
      card := card, cardSeq := q, tag := t, extra := cloneExtra r.2 held } r.1)

/-- The sighting at a DONE: the in-flight record goes, s and e are settled against the new image, the entry is
touched; a divergent tag at the new sequence is clone evidence (R96). -/
def sightDone (card : Nat) (x : Side) (oldSeq oldTag newSeq newTag : Word16) (s : State) : State :=
  match s.sighting card with
  | none => s
  | some e =>
    let e' := { e with inFlight := none }
    if (e.seq = oldSeq ∧ e.tag = oldTag) ∨ seqOrder e.seq newSeq = .behind then
      touchSighting { e' with seq := newSeq, tag := newTag } s
    else if e.seq = newSeq ∧ e.tag ≠ newTag then
      cloneEvidence card (some x) newSeq newTag e.tag (touchSighting e' s)
    else touchSighting e' s

/-- The in-flight record of a card turned into a pending-tear (R51, R52), or none when the card has no entry. A sequence
and tag that a merge has moved since the verdict stay as it left them (R96; DEDUCED, unsafe, log 42). -/
def sightTear (card : Nat) (t : Tear) (s : State) : State :=
  match s.sighting card with
  | some e => putSighting { e with inFlight := none, tear := some t } s
  | none => s

/-! ## Sightings from other lanes (R99 to R101) -/

/-- The fields of a sighting body are in their ranges (R99). -/
def SightBody.inRange (b : SightBody) : Bool :=
  b.card != 0 && b.card != 4294967295 && 1 ≤ b.day && b.day ≤ 65534 && b.secs ≤ 86399
    && b.station != 0 && b.lane ≤ 63 && (sightEventOf b.event).isSome

/-- The body is this lane's own sighting returned (R99). -/
def isOwnSighting (s : State) (b : SightBody) : Bool :=
  b.station == s.setup.stationCode && b.lane == s.laneAddr

/-- An entry updated from an incoming sighting, origin REMOTE; its optional records stay (R100). -/
def Sighting.updated (e : Sighting) (b : SightBody) (ev : SightEvent) : Sighting :=
  { e with
    seq := b.seq, tag := b.tag, event := ev, day := b.day, secs := b.secs, station := b.station
    lane := b.lane, origin := .remote }

/-- The entry a sighting inserts (R100). -/
def remoteSighting (b : SightBody) (ev : SightEvent) : Sighting :=
  { card := b.card, seq := b.seq, tag := b.tag, event := ev, day := b.day, secs := b.secs
    station := b.station, lane := b.lane, origin := .remote, inFlight := none, tear := none
    mark := none }

/-- A merge against an entry without a pending-tear (R100). -/
def mergePlain (e : Sighting) (b : SightBody) (ev : SightEvent) (s : State) : State × MergeResult :=
  match seqOrder b.seq e.seq with
  | .ahead => (touchSighting (e.updated b ev) s, .updated)
  | .equal =>
    if b.tag = e.tag then (touchSighting e s, .refreshed)
    else (cloneEvidence b.card none b.seq b.tag e.tag (touchSighting e s), .clone)
  | .behind => (s, .ignored)

/-- A remote resolution: its TEAR_RESOLVED entry, the other reservation released, the record gone, and the entry
set as given and touched (R101). -/
def remoteResolve (card : Nat) (t : Tear) (written : Bool) (set : Sighting → Sighting) (s : State) :
    State :=
  let v := release1 (resolveTear card t written s)
  match v.sighting card with
  | some e => touchSighting (set e) v
  | none => v

/-- A merge against an entry with a pending-tear: the first row of R101 that holds. -/
def mergeTear (e : Sighting) (t : Tear) (b : SightBody) (ev : SightEvent) (s : State) :
    State × MergeResult :=
  if b.seq = t.newSeq ∧ b.tag = t.newTag then
    (remoteResolve b.card t true (fun x => x.updated b ev) s, .tearWritten)
  else if b.seq = t.newSeq then
    (remoteResolve b.card t false (fun x => x.updated b ev) s, .tearNotWritten)
  else if seqOrder b.seq t.newSeq = .ahead then
    (remoteResolve b.card t true (fun x => x.updated b ev) s, .tearWritten)
  else if b.seq = t.oldSeq ∧ b.tag = t.oldTag then (s, .ignored)
  else if b.seq = t.oldSeq then
    (cloneEvidence b.card none b.seq b.tag e.tag (touchSighting e s), .clone)
  else (s, .ignored)

/-- A SIGHTING that is not this lane's own, merged (R100, R101). -/
def mergeSighting (b : SightBody) (ev : SightEvent) (s : State) : State × MergeResult :=
  match s.sighting b.card with
  | none => (insertSighting (remoteSighting b ev) s, .inserted)
  | some e =>
    match e.tear with
    | some t => mergeTear e t b ev s
    | none => mergePlain e b ev s

end Sys2Proof.Machine
end

