-- ==== Sys2Proof/Machine/Passage.lean ====
section
/-! DEFINITION. Passage control PCU (chapter 6) and the leaf controller LFC (chapter 7): windows, credits, leaves,
passages, the effective mode's change (R27) and the free period (R119). -/

namespace Sys2Proof.Machine

/-! ## Passage windows (R112) -/

/-- The passage window in ticks (R107). -/
def windowReload (s : State) : Nat := s.setup.window * 64

/-- The warning compare in ticks; a warning equal to the window gives R - 1 (R107). -/
def windowCompare (s : State) : Nat := min (s.setup.warning * 64) (windowReload s - 1)

/-- The window of a direction started, held while any beam is blocked; its hurry flag is cleared (R112, R150). -/
def startWindow (d : Side) (s : State) : State :=
  let t := setHurry d false s
  if s.anyBeam then chanStartHeld (windowOf d) (windowReload s) (windowCompare s) t
  else chanStart (windowOf d) (windowReload s) (windowCompare s) t

/-- The window of a direction stopped; its hurry flag is cleared (R112, R150). -/
def stopWindow (d : Side) (s : State) : State := chanStop (windowOf d) (setHurry d false s)

/-- The window of a new head: started when the leaves are OPEN in its direction and a head stands (R112). -/
def headWindow (d : Side) (s : State) : State :=
  if s.lfc.leaf = .opened d ∧ s.queue d ≠ [] then startWindow d s else s

/-! ## Leaf readings and drives (R121, R129) -/

/-- A filtered switch level; none while unset. -/
def Lfc.sw (l : Lfc) : Leaf → Switch → Option Bool
  | .left, .closedSw => l.swLC
  | .left, .openSw => l.swLO
  | .right, .closedSw => l.swRC
  | .right, .openSw => l.swRO

/-- A filtered switch level replaced. -/
def Lfc.setSw (l : Lfc) (leaf : Leaf) (sw : Switch) (v : Option Bool) : Lfc :=
  match leaf, sw with
  | .left, .closedSw => { l with swLC := v }
  | .left, .openSw => { l with swLO := v }
  | .right, .closedSw => { l with swRC := v }
  | .right, .openSw => { l with swRO := v }

/-- A switch taken as made. -/
def Lfc.made (l : Lfc) (leaf : Leaf) (sw : Switch) : Bool := l.sw leaf sw == some true

/-- All four switch filters have taken their levels (R144). -/
def Lfc.allTaken (l : Lfc) : Bool :=
  l.swLC.isSome && l.swLO.isSome && l.swRC.isSome && l.swRO.isSome

/-- A switch of both leaves made. -/
def Lfc.bothMade (l : Lfc) (sw : Switch) : Bool := l.made .left sw && l.made .right sw

/-- The drive of a leaf. -/
def Lfc.drive (l : Lfc) : Leaf → Drive
  | .left => l.driveL
  | .right => l.driveR

/-- Both leaves braked: the move is complete (R130). -/
def Lfc.bothBraked (l : Lfc) : Bool := l.driveL == .brake && l.driveR == .brake

/-- A drive for a leaf in a move: braked at its target switch (R129, R130). -/
def Lfc.moving (l : Lfc) (leaf : Leaf) (target : Switch) (swing : Drive) : Drive :=
  if l.made leaf target then .brake else swing

/-- Both drives set for a move (R129, R130). -/
def Lfc.drives (l : Lfc) (target : Switch) (swing : Drive) : Lfc :=
  { l with driveL := l.moving .left target swing, driveR := l.moving .right target swing }

/-- One leaf braked (R130). -/
def Lfc.brakeLeaf (l : Lfc) : Leaf → Lfc
  | .left => { l with driveL := .brake }
  | .right => { l with driveR := .brake }

/-- The swing of an opening and of a close (R129). -/
def openSwing : Side → Drive
  | .u => .swingP
  | .p => .swingU

/-- The side a direction opens toward (R129). -/
def openSideOf : Side → Side
  | .u => .p
  | .p => .u

def closeSwing : Option Side → Drive
  | some .p => .swingU
  | some .u => .swingP
  | none => .swingP

/-- LEAF_MOVE started (R106, R130). -/
def startMove (s : State) : State := chanStart .leafMove 96 0 s

/-- LEAF_HOLD started (R106, R135). -/
def startHold (s : State) : State := chanStart .leafHold s.setup.leafHold 0 s

/-! ## The arbiter (R132) -/

/-- The arbiter's choice (R132). -/
def choice (s : State) : Option Side :=
  match s.pcu.queueUp, s.pcu.queuePu with
  | [], [] => none
  | _ :: _, [] => some .u
  | [], _ :: _ => some .p
  | up :: _, pu :: _ => if stampLater up.tick pu.tick then some .u else some .p

/-! ## Moves (R130, R133 to R136) -/

/-- R135 applied in OPEN(D): the hold stopped while the choice is D, started when it is not and the lane is empty;
a hold that runs is left running (log 26). -/
def openCheck (d : Side) (s : State) : State :=
  if choice s = some d then chanStop .leafHold s
  else if s.pcu.episode || (s.chan .leafHold).active then s
  else startHold s

/-- The opening move is complete (R130, R134). The reversal flag is kept for R135 (log 25). -/
def enterOpen (d : Side) (s : State) : State :=
  let t := chanStop .leafMove s
  openCheck d (headWindow d (t.setLfc { t.lfc with leaf := .opened d }))

/-- OPENING(D) entered: drives, open side, LEAF_MOVE; complete at once when both OPEN switches are made already
(R129, R130, R133, R138; log 23). -/
def beginOpening (d : Side) (rev : Bool) (s : State) : State :=
  let t := startMove (s.setLfc
    { (s.lfc.drives .openSw (openSwing d)) with
      leaf := .opening d, reversal := rev, paused := false, openSide := some (openSideOf d) })
  if t.lfc.bothBraked then enterOpen d t else t

/-- The grant of R133. -/
def grantLeaves (d : Side) (s : State) : State :=
  beginOpening d false (auditGrant
    (s.setLfc { s.lfc with grant := some d, reversalCount := 0 }))

/-- The closing move is complete, or the leaves are found closed: CLOSED, braked, and the choice formed (R136,
R140). -/
def enterClosed (s : State) : State :=
  let t := chanStop .leafHold (chanStop .leafMove s)
  let v := t.setLfc { t.lfc with
    leaf := .closed, grant := none, reversal := false, paused := false, reversalCount := 0
    driveL := .brake, driveR := .brake }
  match choice v with
  | some d => grantLeaves d v
  | none => v

/-- The closing drive started or resumed: run counts 0, left leaf first, LEAF_MOVE; complete at once when both leaves
are braked already (R129, R130, R137; log 23). -/
def driveClosed (s : State) : State :=
  let t := startMove (s.setLfc
    { (s.lfc.drives .closedSw (closeSwing s.lfc.openSide)) with
      paused := false, runL := 0, runR := 0, nextLeaf := .left })
  if t.lfc.bothBraked then enterClosed t else t

/-- The window of OPEN(D) stopped when the leaves leave it (R112). -/
def leaveOpen (s : State) : State :=
  match s.lfc.leaf with
  | .opened d => stopWindow d s
  | _ => s

/-- CLOSING entered with a grant direction and a reversal count (R134, R135, R136). -/
def beginClosing (g : Option Side) (count : Nat) (s : State) : State :=
  let t := leaveOpen s
  driveClosed (t.setLfc { t.lfc with
    leaf := .closing, grant := g, reversal := false, reversalCount := count })

/-- PCU hands LFC the state of its queues (R132 to R135). -/
def lfcQueue (s : State) : State :=
  match s.lfc.leaf with
  | .closed =>
    match choice s with
    | some d => grantLeaves d s
    | none => s
  | .opening d => if s.queue d = [] ∧ !s.lfc.reversal then beginClosing s.lfc.grant 0 s else s
  | .opened d => openCheck d s
  | .closing => s
  | .forced => s
  | .fault => s
  | .freeOpen => s

/-- The leaves taken to FREE_OPEN, from every state but FAULT, once the switches are taken (R142, R144). -/
def freeOpen (s : State) : State :=
  if s.lfc.leaf = .fault ∨ !s.lfc.allTaken then s
  else
    let t := chanStop .leafHold (leaveOpen s)
    let v := startMove (t.setLfc
      { (t.lfc.drives .openSw .swingU) with
        leaf := .freeOpen, grant := none, reversal := false, paused := false, reversalCount := 0
        openSide := if t.lfc.bothMade .openSw then t.lfc.openSide else some .u })
    if v.lfc.bothBraked then chanStop .leafMove v else v

/-- The leaves commanded as R144 states, with the reversal count of the close: released until every switch is taken,
then FREE_OPEN, CLOSED or a closing drive. The converter begins anew with the left leaf (R137). -/
def commandLeaves (count : Nat) (s : State) : State :=
  let t := s.setLfc { s.lfc with
    leaf := .closing, grant := none, reversal := false, paused := false, reversalCount := count
    driveL := .released, driveR := .released, runL := 0, runR := 0, nextLeaf := .left }
  if !t.lfc.allTaken then t
  else if t.effMode = .free then freeOpen t
  else if t.lfc.bothMade .closedSw then enterClosed t
  else driveClosed t

/-- The last of the four switch filters takes its level (R144). The close goes on with its reversal count (R138); a
pause of it ends, and LEAF_HOLD with it (DEDUCED, unsafe; log 8). -/
def lastSwitchTaken (s : State) : State :=
  commandLeaves s.lfc.reversalCount (if s.lfc.paused then chanStop .leafHold s else s)

/-- FAULT left at a LANE MODE or a lane restart (R143). -/
def leaveFault (s : State) : State :=
  if s.lfc.leaf = .fault then commandLeaves 0 (setLeafFault false s) else s

/-! ## The free period (R119) -/

/-- A period opened when none is (R119). -/
def openFree (r : Reason) (s : State) : State :=
  if s.pcu.freePeriod.isOpen then s
  else s.setPcu { s.pcu with freePeriod := { isOpen := true, reason := r, up := 0, pu := 0 } }

/-- The FREE_PERIOD entry and the record shut; reason and counts stay as they were (R119; log 21). -/
def closeFree (s : State) : State :=
  let t := writeFree { s.entry .freePeriod s.pcu.freePeriod.reason none with
    extra := s.pcu.freePeriod.up * 65536 + s.pcu.freePeriod.pu } s
  t.setPcu { t.pcu with freePeriod := { t.pcu.freePeriod with isOpen := false } }

/-- A period closed at the event after which the mode is not FREE and the leaves are not in FAULT (R119). -/
def settleFree (s : State) : State :=
  if s.pcu.freePeriod.isOpen ∧ s.effMode ≠ .free ∧ s.lfc.leaf ≠ .fault then closeFree s else s

/-- A passage counted in the free period (R117 row 1, R119). -/
def countFree (d : Side) (s : State) : State :=
  if s.pcu.freePeriod.isOpen then
    match d with
    | .u => s.setPcu { s.pcu with
        freePeriod := { s.pcu.freePeriod with up := min 65535 (s.pcu.freePeriod.up + 1) } }
    | .p => s.setPcu { s.pcu with
        freePeriod := { s.pcu.freePeriod with pu := min 65535 (s.pcu.freePeriod.pu + 1) } }
  else s

/-! ## Credits (R108 to R116) -/

/-- The entry of a credit that leaves its queue (R115, R116, R117). -/
def creditEntry (s : State) (k : EntryKind) (r : Reason) (d : Side) (c : Credit) : Entry :=
  { s.entry k r (some d) with card := c.card.getD 0, extra := c.creator.toNat }

/-- The mark asked of SCU when a credit with a card number is not used (R94, R115, R116). -/
def markCredit (d : Side) (c : Credit) (s : State) : State :=
  match c.card with
  | some n => setMark n d s
  | none => s

/-- One credit cancelled, already out of its queue (R116). -/
def cancelCredit (d : Side) (r : Reason) (c : Credit) (s : State) : State :=
  let t := markCredit d c (writeReserved (creditEntry s .creditCancelled r d c) s)
  if c.audit then auditComplete (cancelOutcome r) t else t

/-- The credits of a queue cancelled from head to tail (R116). -/
def cancelFrom (d : Side) (r : Reason) : List Credit → State → State
  | [], s => s
  | c :: rest, s => cancelFrom d r rest (cancelCredit d r c (setQueue d rest s))

/-- Every credit of a direction cancelled, and its window stopped (R112, R116). -/
def cancelQueue (d : Side) (r : Reason) (s : State) : State :=
  stopWindow d (cancelFrom d r (s.queue d) s)

/-- Credits cancelled in both directions, UP first (R116). -/
def cancelBoth (r : Reason) (s : State) : State := cancelQueue .p r (cancelQueue .u r s)

/-- A credit joins the tail; ADS, its window and LFC follow (R110, R112, R172). -/
def createCredit (d : Side) (c : Credit) (s : State) : State :=
  let t := auditGrant (setQueue d (s.queue d ++ [c]) s)
  lfcQueue (if s.queue d = [] then headWindow d t else t)

/-- The expiry of the head credit (R115). The window's warning, where it is due and not yet taken, stays due: its row sets
the hurry flag even after the expiry (R114; DEDUCED, unsafe, log 4). -/
def expireHead (d : Side) (s : State) : State :=
  match s.queue d with
  | [] => s
  | c :: rest =>
    let t := setHurry d false (setQueue d rest s)
    let t := markCredit d c (writeReserved (creditEntry t .creditExpired c.kind.reason d c) t)
    let t := raiseLane .expired t
    let t := if c.audit then auditExpired t else t
    lfcQueue (headWindow d t)

/-! ## Passages (R117) -/

/-- The head credit consumed (R117 row 3). -/
def consumeHead (d : Side) (s : State) : State :=
  match s.queue d with
  | [] => s
  | c :: rest =>
    let t := stopWindow d (setQueue d rest s)
    let t := writeReserved (creditEntry t .passage c.kind.reason d c) t
    let t := if c.audit then auditConsumed t else t
    lfcQueue (headWindow d t)

/-- UNPAID_PASSAGE (R117). -/
def unpaidPassage (d : Side) (s : State) : State :=
  toneAlarm (raiseBoth .unpaid (writeFree
    { s.entry .unpaidPassage .none (some d) with extra := (s.queue d).length } s))

/-- WRONG_WAY (R117). -/
def wrongWay (d : Side) (s : State) : State :=
  toneAlarm (raiseLane .wrongWay (writeFree (s.entry .wrongWay .none (some d)) s))

/-- A passage event judged: the first row of R117 that holds. -/
def passage (d : Side) (s : State) : State :=
  if s.effMode = .free ∨ s.lfc.leaf = .fault then countFree d s
  else if !s.permits d then wrongWay d s
  else if s.lfc.grant = some d ∧ s.queue d ≠ [] then consumeHead d s
  else unpaidPassage d s

/-! ## The passage tracker (R123 to R127) -/

/-- A filtered beam level. -/
def Pcu.beam (p : Pcu) : Beam → Bool
  | .b1 => p.beam1
  | .b2 => p.beam2
  | .b3 => p.beam3
  | .b4 => p.beam4

/-- A filtered beam level replaced. -/
def Pcu.setBeam (p : Pcu) (v : Bool) : Beam → Pcu
  | .b1 => { p with beam1 := v }
  | .b2 => { p with beam2 := v }
  | .b3 => { p with beam3 := v }
  | .b4 => { p with beam4 := v }

/-- The direction an end beam gives (R125). -/
def endBeamDir : Beam → Option Side
  | .b1 => some .u
  | .b4 => some .p
  | .b2 => none
  | .b3 => none

/-- The first end beam blocked sets the episode's direction (R125). -/
def directEpisode (b : Beam) (s : State) : State :=
  if s.pcu.episodeDir.isSome then s
  else s.setPcu { s.pcu with episodeDir := endBeamDir b }

/-- The far-end beam of a direction, and its inner neighbour (R126). -/
def farBeam : Side → Beam
  | .u => .b4
  | .p => .b1

def innerBeam : Side → Beam
  | .u => .b3
  | .p => .b2

/-- An episode starts (R113, R118, R124, R135). -/
def episodeStart (s : State) : State :=
  let t := s.setPcu { s.pcu with episode := true, episodeDir := none, farClears := 0 }
  let t := chanStart .occupancy (s.setup.occupancy * 64) 0
    (chanHold .windowPu (chanHold .windowUp t))
  match t.lfc.leaf with
  | .opened _ => chanStop .leafHold t
  | _ => t

/-- The lane is empty again: in OPEN(D) with another choice, the hold is started afresh (R135). -/
def lfcEmpty (s : State) : State :=
  match s.lfc.leaf with
  | .opened d => if choice s = some d then s else startHold s
  | _ => s

/-- An episode ends: windows resumed, OCCUPANCY stopped, ADS and LFC told, the record cleared (R113, R118, R124). -/
def episodeEnd (s : State) : State :=
  let t := chanStop .occupancy (chanResume .windowPu (chanResume .windowUp s))
  let t := lfcEmpty (auditEpisodeEnd s.pcu.farClears t)
  t.setPcu { t.pcu with episode := false, episodeDir := none, farClears := 0 }

/-- A far-end clear: counted, and a passage when the inner neighbour is clear (R126). -/
def farClear (d : Side) (s : State) : State :=
  let t := s.setPcu { s.pcu with farClears := min 255 (s.pcu.farClears + 1) }
  if s.pcu.beam (innerBeam d) then t else passage d t

/-- A beam taken as clear within an open episode (R126). -/
def beamCleared (b : Beam) (s : State) : State :=
  match s.pcu.episodeDir with
  | some d => if farBeam d = b then farClear d s else s
  | none => s

/-- A beam change event (R124). -/
def beamChanged (b : Beam) (blocked : Bool) (s : State) : State :=
  if s.pcu.beam b = blocked then s
  else
    let t := s.setPcu (s.pcu.setBeam blocked b)
    if blocked then directEpisode b (if t.pcu.episode then t else episodeStart t)
    else if t.pcu.episode then
      let v := beamCleared b t
      if v.anyBeam then v else episodeEnd v
    else t

/-- The tracker and the beam filters cleared at a start (R121, R123, R127). -/
def clearTracker (s : State) : State :=
  s.setPcu { s.pcu with
    beam1 := false, beam2 := false, beam3 := false, beam4 := false, episode := false
    episodeDir := none, farClears := 0 }

/-! ## Fault, forced leaf, switches and obstruction (R130, R131, R137 to R141) -/

/-- The leaf number of an entry: 1 left, 2 right. -/
def leafNumber : Leaf → Nat
  | .left => 1
  | .right => 2

/-- The leaves that have not reached their target: 1 left, 2 right, 3 both (R141; log 22). -/
def unbraked (l : Lfc) : Nat :=
  (if l.driveL = .brake then 0 else 1) + (if l.driveR = .brake then 0 else 2)

/-- The leaves enter FAULT (R141). -/
def enterFault (cause : Reason) (leaf : Nat) (s : State) : State :=
  let t := chanStop .leafHold (chanStop .leafMove (leaveOpen s))
  let t := t.setLfc { t.lfc with
    leaf := .fault, grant := none, reversal := false, paused := false, driveL := .released
    driveR := .released, runL := 0, runR := 0 }
  let t := setLeafFault true (writeFree { t.entry .leafFault cause s.lfc.grant with
    extra := leaf * 65536 + s.lfc.reversalCount } t)
  toneAlarm (raiseBoth .leafFault (openFree .fault (cancelBoth .fault t)))

/-- A leaf pushed off its stop (R140). -/
def forceLeaf (leaf : Leaf) (s : State) : State :=
  let t := s.setLfc { s.lfc with leaf := .forced }
  toneAlarm (raiseBoth .forced (writeFree
    { t.entry .leafForced .none none with extra := leafNumber leaf } t))

/-- A target switch made during a move: the leaf braked, and the move completed by the second (R130; log 37). -/
def reachTarget (leaf : Leaf) (done : State → State) (s : State) : State :=
  let t := s.setLfc (s.lfc.brakeLeaf leaf)
  if t.lfc.bothBraked then done t else t

/-- A CLOSED switch made while a close is paused (R139; log 24). -/
def pausedClosed (leaf : Leaf) (s : State) : State :=
  let t := s.setLfc (s.lfc.brakeLeaf leaf)
  if t.lfc.bothMade .closedSw then enterClosed t else t

/-- A switch change in the running states (R130, R139, R140). -/
def switchTaken (leaf : Leaf) (sw : Switch) (made : Bool) (s : State) : State :=
  match s.lfc.leaf, sw, made with
  | .closed, .closedSw, false => forceLeaf leaf s
  | .forced, .closedSw, true => if s.lfc.bothMade .closedSw then enterClosed s else s
  | .opening d, .openSw, true => reachTarget leaf (enterOpen d) s
  | .freeOpen, .openSw, true => reachTarget leaf (chanStop .leafMove) s
  | .closing, .closedSw, true =>
    if s.lfc.paused then pausedClosed leaf s else reachTarget leaf enterClosed s
  | _, _, _ => s

/-- A switch change event (R121, R130, R140, R144). -/
def switchChanged (leaf : Leaf) (sw : Switch) (made : Bool) (s : State) : State :=
  if s.lfc.sw leaf sw = some made then s
  else
    let t := s.setLfc (s.lfc.setSw leaf sw (some made))
    if t.lfc.leaf = .fault then t
    else if t.lfc.made leaf .closedSw && t.lfc.made leaf .openSw then
      enterFault .switchFault (leafNumber leaf) t
    else if s.lfc.allTaken then switchTaken leaf sw made t
    else if t.lfc.allTaken then lastSwitchTaken t
    else t

/-- The converter runs: CLOSING and not paused, driven or not (R137). -/
def converting (s : State) : Bool := s.lfc.leaf == .closing && !s.lfc.paused

/-- A leaf's CLOSED switch has been made in this close: the leaf is braked there (R130; log 37) or, while the drives stay
RELEASED, its switch is made (R137; log 8). -/
def Lfc.atClosed (l : Lfc) (leaf : Leaf) : Bool := l.drive leaf == .brake || l.made leaf .closedSw

/-- The run count of a leaf. -/
def Lfc.run (l : Lfc) : Leaf → Nat
  | .left => l.runL
  | .right => l.runR

def Lfc.setRun (l : Lfc) (n : Nat) : Leaf → Lfc
  | .left => { l with runL := n }
  | .right => { l with runR := n }

def otherLeaf : Leaf → Leaf
  | .left => .right
  | .right => .left

/-- A close paused (R139). -/
def pauseClose (s : State) : State :=
  let t := chanStop .leafMove (s.setLfc { s.lfc with
    paused := true
    driveL := if s.lfc.driveL = .brake then .brake else .released
    driveR := if s.lfc.driveR = .brake then .brake else .released })
  startHold t

/-- An obstruction of a leaf (R138, R139). -/
def obstruction (leaf : Leaf) (s : State) : State :=
  let t := s.setLfc { s.lfc with reversalCount := s.lfc.reversalCount + 1, runL := 0, runR := 0 }
  if 2 ≤ s.lfc.reversalCount then enterFault .obstruction (leafNumber leaf) t
  else
    match s.lfc.grant with
    | some d => beginOpening d true t
    | none => pauseClose t

/-- The run count a sample leaves (R137). -/
def runAfter (s : State) (leaf : Leaf) (value : Nat) : Nat :=
  if s.setup.threshold < value then s.lfc.run leaf + 1 else 0

/-- A conversion of the leaf whose turn it is (R137). A leaf at its CLOSED switch in this move ignores it. -/
def sampleTaken (value : Nat) (s : State) : State :=
  let leaf := s.lfc.nextLeaf
  let t := s.setLfc { s.lfc with nextLeaf := otherLeaf leaf }
  if s.lfc.atClosed leaf then t
  else if 3 ≤ runAfter s leaf value then obstruction leaf t
  else t.setLfc (t.lfc.setRun (runAfter s leaf value) leaf)

/-- A paused close resumes (R139). Until every switch is taken there is no drive to resume, and LEAF_MOVE is not started
(R144; DEDUCED, unsafe: log 8). -/
def resumeClose (s : State) : State :=
  if s.lfc.allTaken then driveClosed s
  else s.setLfc { s.lfc with paused := false, runL := 0, runR := 0, nextLeaf := .left }

/-- LEAF_HOLD's underflow: OPEN(D) closes, a paused close resumes (R135, R139). -/
def holdEnds (s : State) : State :=
  match s.lfc.leaf with
  | .opened _ => beginClosing s.lfc.grant (if s.lfc.reversal then s.lfc.reversalCount else 0) s
  | .closing => if s.lfc.paused then resumeClose s else s
  | _ => s

/-- LEAF_MOVE's underflow in a move (R131). -/
def moveTimeout (s : State) : State :=
  match s.lfc.leaf with
  | .opening _ | .closing | .freeOpen => enterFault .moveTimeout (unbraked s.lfc) s
  | _ => s

/-! ## Change of the effective mode (R27) -/

/-- MODE_CHANGED's extra: old, new and station mode in the three upper bytes (R27). -/
def modeExtra (old new station : Mode) : Nat :=
  old.code.toNat * 16777216 + new.code.toNat * 65536 + station.code.toNat * 256

/-- The reason of a free period that a mode change opens (R119). -/
def freeReason (cause : Reason) : Reason := if cause = .emergencyOn then .emergency else .stationFree

/-- PCU takes the change: credits of directions no longer permitted cancelled, LFC told once (R27 step 4, R116). -/
def cancelForMode (s : State) : State :=
  if s.effMode = .free then lfcQueue (cancelBoth .free s)
  else
    let t := if s.permits .u then s else cancelQueue .u .mode s
    lfcQueue (if s.permits .p then t else cancelQueue .p .mode t)

/-- LFC takes the change (R27 step 5, R142). -/
def leavesForMode (old : Mode) (s : State) : State :=
  if s.effMode = .free then freeOpen s
  else if old = .free ∧ s.lfc.leaf = .freeOpen then beginClosing none 0 s
  else s

/-- The effective mode was `old` before the event that is being taken; if it is another now, R27 follows. -/
def modeEffects (old : Mode) (cause : Reason) (s : State) : State :=
  if s.effMode = old then s
  else
    let t := writeFree { s.entry .modeChanged cause none with
      extra := modeExtra old s.effMode s.svc.stationMode } s
    let t := setModeClosed (s.effMode == .closed) (raiseLane .modeChanged t)
    let t := cancelForMode t
    let t := if s.effMode = .free then openFree (freeReason cause) t else t
    leavesForMode old t

/-- A LANE MODE that names a mode (R23). -/
def takeLaneMode (m : Mode) (s : State) : State :=
  settleFree (leaveFault (modeEffects s.effMode .station
    (s.setSvc { s.svc with stationMode := m })))

/-- A change of the filtered EMERG level (R25, R27). -/
def takeEmerg (level : Bool) (s : State) : State :=
  if s.svc.emerg = level then s
  else
    let t := raiseBoth .emergency (s.setSvc { s.svc with emerg := level })
    settleFree (modeEffects s.effMode (if level then .emergencyOn else .emergencyOff) t)

end Sys2Proof.Machine
end

