-- ==== Sys2Proof/Machine/Sense.lean ====
section
/-! DEFINITION. The input filters and the sense tick (R25, R121, R122). -/

namespace Sys2Proof.Machine

/-- The filter of an input. -/
def Inputs.of (x : Inputs) : Input → InFilter
  | .beam .b1 => x.beam1
  | .beam .b2 => x.beam2
  | .beam .b3 => x.beam3
  | .beam .b4 => x.beam4
  | .switch .left .closedSw => x.swLC
  | .switch .left .openSw => x.swLO
  | .switch .right .closedSw => x.swRC
  | .switch .right .openSw => x.swRO
  | .emerg => x.emerg

/-- Every filter from a rule for one. -/
def Inputs.each (f : Input → InFilter) : Inputs :=
  { beam1 := f (.beam .b1), beam2 := f (.beam .b2), beam3 := f (.beam .b3), beam4 := f (.beam .b4)
    swLC := f (.switch .left .closedSw), swLO := f (.switch .left .openSw)
    swRC := f (.switch .right .closedSw), swRO := f (.switch .right .openSw), emerg := f .emerg }

/-- The filter of one input replaced. -/
def Inputs.put (x : Inputs) (i : Input) (f : InFilter) : Inputs :=
  Inputs.each fun j => if j = i then f else x.of j

/-- The filtered level of an input; none while a switch is unset (R25, R121). -/
def State.level (s : State) : Input → Option Bool
  | .beam b => some (s.pcu.beam b)
  | .switch leaf sw => s.lfc.sw leaf sw
  | .emerg => some s.svc.emerg

/-- The length of an input's filter in sense ticks of 4 ms: the beam filter width, or 8 ms (R25, R121, R122). -/
def filterLength (s : State) : Input → Nat
  | .beam _ => s.setup.beamWidth / 4
  | .switch _ _ => 2
  | .emerg => 2

/-! ## Levels at the pins and starts -/

/-- An input stands at a level, and its filter's count begins anew: the part of a change event that the filter keeps
(R121; log 40). -/
def pinLevel (i : Input) (v : Bool) (s : State) : State :=
  s.setInp (s.inp.put i { raw := v, count := 0 })

/-- A filter whose count is 0. -/
def InFilter.cleared (f : InFilter) : InFilter := { f with count := 0 }

/-- Every filter's count 0, as at a cold or warm start; the pins stay as they are (R25, R121). -/
def clearFilters (s : State) : State := s.setInp (Inputs.each fun i => (s.inp.of i).cleared)

/-- The beam filters' counts 0, as at a lane restart, which leaves the switch filters as they stand (R121). -/
def clearBeamFilters (s : State) : State :=
  s.setInp { s.inp with
    beam1 := s.inp.beam1.cleared, beam2 := s.inp.beam2.cleared, beam3 := s.inp.beam3.cleared
    beam4 := s.inp.beam4.cleared }

/-! ## The sense tick (R121) -/

/-- The raw level of an input differs from its filtered level. -/
def differs (s : State) (i : Input) : Bool := s.level i != some (s.inp.of i).raw

/-- The input's filter has its change event at this sense tick: its count reaches the length, or a shortened length
finds it there (R121, R122). -/
def changesNow (s : State) (i : Input) : Bool := differs s i && filterLength s i ≤ (s.inp.of i).count + 1

/-- The input's filter after a sense tick: a count of the ticks at which the level differed, 0 after a change event
(R121). -/
def filterTicked (s : State) (i : Input) : InFilter :=
  { s.inp.of i with count := if differs s i && !changesNow s i then (s.inp.of i).count + 1 else 0 }

/-- The change event of an input, as the row of its owner (R25, R121). -/
def changeEvent (v : Bool) : Input → Instr
  | .beam b => .beamChange b v
  | .switch leaf sw => .switchChange leaf sw v
  | .emerg => .emergChange v

/-- The inputs, beams first. -/
def allInputs : List Input :=
  [.beam .b1, .beam .b2, .beam .b3, .beam .b4, .switch .left .closedSw, .switch .left .openSw,
    .switch .right .closedSw, .switch .right .openSw, .emerg]

/-- The change events of this sense tick. -/
def senseEvents (s : State) : List Instr :=
  (allInputs.filter (changesNow s)).map fun i => changeEvent (s.inp.of i).raw i

/-- Two events of one sense tick may be taken in either order (R121): which way round is a free value (log 40). -/
def eitherOrder (now : Nat) : List Instr → List Instr
  | [] => []
  | [c] => [c]
  | c :: d :: rest => if Config.senseReversed now then (c :: d :: rest).reverse else c :: d :: rest

/-- A sense tick: every filter counts, and each change event is handed on as an event of its own (R121). -/
def senseTick (s : State) : State :=
  (s.setInp (Inputs.each (filterTicked s))).setPending
    (s.pending ++ eitherOrder s.svc.tickCount.toNat (senseEvents s))

end Sys2Proof.Machine
end

