-- ==== Sys2Proof/Machine/Transactions.lean ====
section
/-! DEFINITION. The transaction unit TXU (chapter 3): screening, verdicts, write outcomes, tears; and STAFF PASS. -/

namespace Sys2Proof.Machine

/-! ## Verdicts (R40, R41) -/

/-- What a presentation is answered with (R41). -/
structure Verdict where
  kind : VerdictKind
  reason : Reason
  charge : Nat
  balance : Int
  cue : Bool
  image : List Byte
  deriving DecidableEq, Repr

/-- A verdict as reply data (R186): kind, reason, charge, new balance, cue, and the image when one is issued. -/
def Verdict.bytes (v : Verdict) : List Byte :=
  [v.kind.code, v.reason.code] ++ toBE 2 v.charge ++ toBE32s v.balance ++ [boolByte v.cue] ++ v.image

/-- A verdict that issues no image. -/
def plainVerdict (k : VerdictKind) (r : Reason) (balance : Int) (cue : Bool) : Verdict :=
  { kind := k, reason := r, charge := 0, balance := balance, cue := cue, image := [] }

/-- A presentation in progress: the side and the image's fields. -/
structure Shown where
  side : Side
  card : Card
  deriving DecidableEq, Repr

/-! ## Refusals (R34 to R39) -/

/-- Step 1: the refusal reason of the first test that fails (R34). -/
def availability (s : State) (x : Side) : Option Reason :=
  if s.effMode = .free then some .laneFree
  else if !s.svc.reasons.empty then some .outOfService
  else if !s.permits x then some .wrongDirection
  else if (s.slot x).isSome then some .readerBusy
  else if !s.room x then some .laneBusy
  else none

/-- An entry that carries the presented card, sequence, tag and balance (R39). -/
def shownEntry (s : State) (p : Shown) (k : EntryKind) (r : Reason) : Entry :=
  { s.entry k r (some p.side) with
    card := p.card.number, balance := p.card.balance, cardSeq := p.card.seq, tag := p.card.tag }

/-- A refusal at step 1 (R34): handed to SGU and to nobody else. -/
def refuseEarly (x : Side) (r : Reason) (s : State) : State × Verdict :=
  (sguRefuse x s, plainVerdict .refuse r 0 false)

/-- A refusal at steps 3 to 9: its entry from the free pool, SGU, and the verdict (R39, R41). -/
def refuseWith (p : Shown) (e : Entry) (r : Reason) (s : State) : State × Verdict :=
  (sguRefuse p.side (writeFree e s),
    plainVerdict .refuse r p.card.balance (lowCue s p.card p.card.balance))

/-- UNREADABLE (R35, R39; log 32). -/
def refuseUnreadable (p : Shown) (condition : Nat) (s : State) : State × Verdict :=
  (sguRefuse p.side (writeFree
      { shownEntry s p .refusal .unreadable with balance := 0, extra := condition } s),
    plainVerdict .refuse .unreadable 0 false)

/-- TAMPERED (R35). -/
def refuseTampered (p : Shown) (s : State) : State × Verdict :=
  refuseWith p (shownEntry s p .refusal .tampered) .tampered (raiseStation .tamper s)

/-- A refusal that SCU records as R98 gives. -/
def refuseSeen (p : Shown) (e : Entry) (r : Reason) (s : State) : State × Verdict :=
  refuseWith p e r (sightRefusal p.card.number p.card.seq p.card.tag s)

/-- The pending-tear of a card. -/
def State.tearOf (s : State) (card : Nat) : Option Tear :=
  match s.sighting card with
  | some e => e.tear
  | none => none

/-- BLOCKED, after a pending-tear has been compared and resolved (R35, R54; log 27). -/
def refuseBlocked (p : Shown) (s : State) : State × Verdict :=
  let t :=
    match s.tearOf p.card.number with
    | some tear =>
      resolveRow p.card.number tear (tearRow tear p.side p.card.seq p.card.tag) p.card.seq p.card.tag s
    | none => s
  refuseSeen p (shownEntry t p .refusal .blocked) .blocked t

/-- CONCURRENT (R36, R157). -/
def refuseConcurrent (p : Shown) (other : Slot) (s : State) : State × Verdict :=
  refuseSeen p { shownEntry s p .cloneSuspect .concurrent with extra := other.newTag.toNat } .concurrent s

/-- CLONE (R37, R88, R92, R98). -/
def refuseClone (p : Shown) (held : Word16) (s : State) : State × Verdict :=
  let r := localAdd p.card.number s
  let t := sightTouch p.card.number r.1
  refuseWith p { shownEntry t p .clone .clone with extra := cloneExtra r.2 held } .clone
    (raiseStation .clone t)

/-- PASSBACK (R39, R42). -/
def refusePassback (p : Shown) (s : State) : State × Verdict :=
  refuseSeen p { shownEntry s p .refusal .passback with extra := entryAge s p.card } .passback s

/-- LOW_BALANCE with its detail (R39, R43, R45). -/
def refuseLow (p : Shown) (charge detail : Nat) (s : State) : State × Verdict :=
  refuseSeen p { shownEntry s p .refusal .lowBalance with amount := charge, extra := detail }
    .lowBalance s

/-! ## Verdicts that issue an image (R38, R40) -/

/-- What a write verdict fixes beyond the presentation. -/
structure Issue where
  kind : WriteKind
  reason : Reason
  charge : Nat
  balance : Int
  entryStation : Nat
  event : SightEvent
  audit : Bool
  content : Card
  deriving DecidableEq, Repr

/-- The state in which RCK issues the image: 3 places reserved, W incremented (R13, R15, R40). -/
def issueState (s : State) : State := bumpW (reserve 3 s)

/-- The issued card (R15). -/
def Issue.card (i : Issue) (s : State) : Card := issuedCard (issueState s) i.content

/-- The slot's record (R31). -/
def Issue.slot (i : Issue) (p : Shown) (s : State) : Slot :=
  { card := p.card.number, oldSeq := p.card.seq, oldTag := p.card.tag, kind := i.kind
    reason := i.reason, charge := i.charge, newBalance := i.balance, newSeq := (i.card s).seq
    newTag := (i.card s).tag, entryStation := i.entryStation, audit := i.audit
    tick := s.svc.tickCount }

/-- The in-flight record (R89). -/
def Issue.flight (i : Issue) (p : Shown) (s : State) : InFlight :=
  { side := p.side, oldSeq := p.card.seq, oldTag := p.card.tag, newSeq := (i.card s).seq
    newTag := (i.card s).tag }

/-- A write verdict taken: reservations, image, slot, write wait, sighting (R40, R96). -/
def issue (p : Shown) (i : Issue) (s : State) : State :=
  sightIssue p.card.number i.event (i.flight p s)
    (chanStart (writeOf p.side) s.setup.writeTimeout 0
      (setSlot p.side (some (i.slot p s)) (issueState s)))

/-- The issued image (R15, R41). -/
def Issue.image (i : Issue) (s : State) : List Byte := imageOf (issueState s) (i.card s)

/-- REFUSE_AND_WRITE, reason DENIED (R38). -/
def deniedIssue (p : Shown) : Issue :=
  { kind := .refuseAndWrite, reason := .denied, charge := 0, balance := p.card.balance
    entryStation := 0, event := .refused, audit := false
    content := { p.card with flags := p.card.flags ||| 2 } }

def refuseAndWrite (p : Shown) (s : State) : State × Verdict :=
  (sguRefuse p.side (issue p (deniedIssue p) s),
    { kind := .refuseAndWrite, reason := .denied, charge := 0, balance := p.card.balance
      cue := lowCue s p.card p.card.balance, image := (deniedIssue p).image s })

/-- The content of the image an accept issues (R43, R45). -/
def acceptContent (p : Shown) (k : Classified) (s : State) : Card :=
  match p.side with
  | .u => entryContent s p.card k
  | .p => exitContent s p.card k

def acceptIssue (p : Shown) (k : Classified) (s : State) : Issue :=
  { kind := .accept, reason := k.reason, charge := k.rating.charge
    balance := k.rating.newBalance, entryStation := k.entryStation, event := acceptEvent p.side
    audit := auditArmed s, content := acceptContent p k s }

/-- ACCEPT (R40, R41, R170). -/
def accept (p : Shown) (k : Classified) (s : State) : State × Verdict :=
  (auditOffer (verdictPart s p.card p.side .accept k.reason k.rating)
      (issue p (acceptIssue p k s) s),
    { kind := .accept, reason := k.reason, charge := k.rating.charge
      balance := k.rating.newBalance, cue := lowCue s p.card k.rating.newBalance
      image := (acceptIssue p k s).image s })

/-! ## Verdicts without a write (R40, R97) -/

/-- The sample an ACCEPT_NO_WRITE opens: verdict part and write part, NO_WRITE (R172). -/
def noWriteSample (s : State) (p : Shown) (r : Reason) : Sample :=
  { verdictPart s p.card p.side .acceptNoWrite r .nothing with
    writeResult := some .noWrite, tone := sampleTone s .accept }

/-- The credit of an ACCEPT_NO_WRITE created, with its tag, and the ACCEPT tone (R40, R110, R148, R170). -/
def acceptNoWrite (p : Shown) (kind : CreditKind) (r : Reason) (creator : Word32) (s : State) : State :=
  toneAccept (createCredit p.side
    { kind := kind, card := some p.card.number, creator := creator, tick := s.svc.tickCount
      audit := auditArmed s }
    (auditOffer (noWriteSample s p r) s))

/-- The verdict of an ACCEPT_NO_WRITE (R41). -/
def noWriteVerdict (p : Shown) (r : Reason) (s : State) : Verdict :=
  plainVerdict .acceptNoWrite r p.card.balance (lowCue s p.card p.card.balance)

/-- The sighting of a re-open (R93, R97; log 35). -/
def sightReopen (p : Shown) (s : State) : State :=
  let t := dropMark p.card.number s
  match t.sighting p.card.number with
  | some e => touchSighting (e.setLocal t e.seq e.tag (acceptEvent p.side)) t
  | none => t

/-- ACCEPT_NO_WRITE, reason REOPEN (R37, R40, R93; log 20). -/
def reopen (p : Shown) (s : State) : State × Verdict :=
  let t := sightReopen p s
  (acceptNoWrite p .reopen .reopen t.rjn.nextSeq
      (reserve 1 (writeFree (shownEntry t p .reopen .reopen) t)),
    noWriteVerdict p .reopen s)

/-- The sighting of a TEAR_COMPLETED (R97): event, day and seconds alone; station, lane and origin stay as they stood
(DEDUCED, unsafe, log 43). -/
def sightCompleted (p : Shown) (s : State) : State :=
  match s.sighting p.card.number with
  | some e =>
    touchSighting { e with event := acceptEvent p.side, day := s.svc.day, secs := s.svc.secs } s
  | none => s

/-- ACCEPT_NO_WRITE, reason TEAR_COMPLETED: row 2 of an ACCEPT tear (R40, R54, R55; log 20). -/
def tearCompleted (p : Shown) (tear : Tear) (s : State) : State × Verdict :=
  let t := sightCompleted p (resolveTear p.card.number tear true s)
  (acceptNoWrite p .tearCompleted .tearCompleted t.rjn.nextSeq
      (writeFree { shownEntry t p .tearCompleted .tearCompleted with extra := tear.tearSeq.toNat } t),
    noWriteVerdict p .tearCompleted s)

/-! ## Screening (R33) -/

/-- Steps 8 and 9 at slot U (R42, R43). -/
def entrySteps (p : Shown) (s : State) : State × Verdict :=
  if isPassback s p.card then refusePassback p s
  else
    let k := classifyEntry s p.card
    match entryPurse s p.card k with
    | some detail => refuseLow p k.rating.charge detail s
    | none => accept p k s

/-- Steps 8 and 9 at slot P (R44, R45). -/
def exitSteps (p : Shown) (s : State) : State × Verdict :=
  let k := classifyExit s p.card
  if k.rating.passed then accept p k s else refuseLow p k.rating.charge 2 s

/-- From the re-open test on: steps 6 (R93), 7, 8 and 9. -/
def screenFresh (p : Shown) (s : State) : State × Verdict :=
  if openMark s p.card.number p.side then reopen p s
  else if (denyMatch s.scu.deny p.card.number).isSome then refuseAndWrite p s
  else
    match p.side with
    | .u => entrySteps p s
    | .p => exitSteps p s

/-- Step 6 of a card whose entry holds a pending-tear (R54, R55; log 28). -/
def screenTear (p : Shown) (e : Sighting) (tear : Tear) (s : State) : State × Verdict :=
  let row := tearRow tear p.side p.card.seq p.card.tag
  match row with
  | .cloneEqual => refuseClone p e.tag s
  | .cloneBehind => refuseClone p e.tag s
  | .newSameSide =>
    if tear.kind = .accept then tearCompleted p tear s
    else screenFresh p (resolveRow p.card.number tear row p.card.seq p.card.tag s)
  | .oldImage => screenFresh p (resolveRow p.card.number tear row p.card.seq p.card.tag s)
  | .newOtherSide => screenFresh p (resolveRow p.card.number tear row p.card.seq p.card.tag s)
  | .lostToOther => screenFresh p (resolveRow p.card.number tear row p.card.seq p.card.tag s)
  | .writtenAgain => screenFresh p (resolveRow p.card.number tear row p.card.seq p.card.tag s)

/-- Whether a presented sequence and tag are consistent with an entry without a pending-tear (R92). -/
def consistent (e : Sighting) (q t : Word16) : Bool :=
  match seqOrder q e.seq with
  | .equal => t == e.tag
  | .ahead => true
  | .behind => false

/-- Step 6 onward (R37, R92). -/
def screenSighting (p : Shown) (s : State) : State × Verdict :=
  match s.sighting p.card.number with
  | none => screenFresh p s
  | some e =>
    match e.tear with
    | some tear => screenTear p e tear s
    | none =>
      if consistent e p.card.seq p.card.tag then screenFresh p s else refuseClone p e.tag s

/-- The other slot's transaction when it is of the presented card (R36). -/
def otherSlotOf (s : State) (p : Shown) : Option Slot :=
  match s.slot (Side.other p.side) with
  | some sl => if sl.card = p.card.number then some sl else none
  | none => none

/-- The nine steps (R33). -/
def present (x : Side) (im : List Byte) (s : State) : State × Verdict :=
  match availability s x with
  | some r => refuseEarly x r s
  | none =>
    let p : Shown := { side := x, card := readCard im }
    match formFault p.card with
    | some n => refuseUnreadable p n s
    | none =>
      if !recordPasses s im then refuseTampered p s
      else if p.card.blocked then refuseBlocked p s
      else
        match otherSlotOf s p with
        | some other => refuseConcurrent p other s
        | none => screenSighting p s

/-! ## Settling a slot (R46 to R51) -/

/-- The outcome entry of a DONE (R48). -/
def doneEntry (s : State) (x : Side) (sl : Slot) : Entry :=
  { s.entry
      (match sl.kind, x with
        | .refuseAndWrite, _ => .blockWritten
        | .accept, .u => .entry
        | .accept, .p => .exit) sl.reason (some x) with
    card := sl.card, amount := sl.charge, balance := sl.newBalance, cardSeq := sl.newSeq
    tag := sl.newTag, extra := if sl.kind = .accept then sl.entryStation else 0 }

/-- Why a credit made at a DONE is cancelled at its creation (R49). -/
def cancelAtDone (s : State) (x : Side) : Option Reason :=
  if s.effMode = .free then some .free
  else if !s.permits x then some .mode
  else if s.lfc.leaf = .fault then some .fault
  else none

/-- ADS takes the outcome of a tagged slot: its write part (R173). -/
def auditOutcome (sl : Slot) (r : WriteResult) (tone : SampleTone) (s : State) : State :=
  if sl.audit then auditWrite r sl.tick tone s else s

/-- The credit of a DONE: it stands, with the ACCEPT tone, or is cancelled at its creation (R48 step 2, R49, R148,
R173; log 30). -/
def doneCredit (x : Side) (sl : Slot) (creator : Word32) (s : State) : State :=
  let c : Credit :=
    { kind := .paid, card := some sl.card, creator := creator, tick := s.svc.tickCount
      audit := sl.audit }
  match cancelAtDone s x with
  | some r => cancelCredit x r c (auditOutcome sl .done .absent s)
  | none => toneAccept (createCredit x c (auditOutcome sl .done (sampleTone s .accept) s))

/-- The slot returns to FREE (R31). -/
def freeSlot (x : Side) (s : State) : State := setSlot x none s

/-- A DONE (R48). -/
def settleDone (x : Side) (sl : Slot) (s : State) : State :=
  let t := writeReserved (doneEntry s x sl) s
  let t := if sl.kind = .accept then doneCredit x sl s.rjn.nextSeq t else release1 t
  freeSlot x (release1 (sightDone sl.card x sl.oldSeq sl.oldTag sl.newSeq sl.newTag t))

/-- The entry of a NOT_WRITTEN (R50): the presented balance is the new balance and the charge together. -/
def notWrittenEntry (s : State) (x : Side) (sl : Slot) : Entry :=
  { s.entry .refusal .writeFailed (some x) with
    card := sl.card, balance := sl.newBalance + sl.charge, cardSeq := sl.oldSeq, tag := sl.oldTag
    extra := sl.newTag.toNat }

/-- A NOT_WRITTEN (R50). -/
def settleNotWritten (x : Side) (sl : Slot) (s : State) : State :=
  let t := release1 (release1 (writeReserved (notWrittenEntry s x sl) s))
  let t := freeSlot x (sightNotWritten sl.card t)
  let t := auditOutcome sl .notWritten (sampleTone s .refuse) t
  sguRefuse x (if sl.audit then auditComplete .writeFailed t else t)

/-- The TEAR entry (R51; log 19). -/
def tearEntry (s : State) (x : Side) (sl : Slot) : Entry :=
  { s.entry .tear sl.reason (some x) with
    card := sl.card, amount := sl.charge, balance := sl.newBalance, cardSeq := sl.newSeq
    tag := sl.newTag, extra := sl.oldTag.toNat }

/-- The pending-tear a slot becomes, its TEAR entry taking the next sequence (R52). -/
def tearRecord (s : State) (x : Side) (sl : Slot) : Tear :=
  { side := x, kind := sl.kind, oldSeq := sl.oldSeq, oldTag := sl.oldTag, newSeq := sl.newSeq
    newTag := sl.newTag, charge := sl.charge, newBalance := sl.newBalance
    tearSeq := s.rjn.nextSeq, deadline := s.now.plus (s.setup.tearHold * 60) }

/-- An UNCERTAIN, with the outcome of a tagged transaction's sample (R51, R56). A slot whose card had no sighting
entry, which no run reaches, releases the two reservations (log 29). -/
def settleUncertain (outcome : AuditOutcome) (x : Side) (sl : Slot) (s : State) : State :=
  let t := displaceTear s
  let v := writeReserved (tearEntry t x sl) t
  let v := if (v.sighting sl.card).isSome then sightTear sl.card (tearRecord t x sl) v
    else release1 (release1 v)
  let v := auditOutcome sl .uncertain .absent (freeSlot x v)
  if sl.audit then auditComplete outcome v else v

/-- A slot settled by an outcome, its write wait stopped (R46). -/
def settleSlot (r : WriteResult) (x : Side) (sl : Slot) (s : State) : State :=
  let t := chanStop (writeOf x) s
  match r with
  | .done => settleDone x sl t
  | .notWritten => settleNotWritten x sl t
  | .uncertain => settleUncertain .tear x sl t
  | .noWrite => s

/-- The write-wait underflow of a slot (R47). -/
def writeWaitEnds (x : Side) (s : State) : State :=
  match s.slot x with
  | some sl => settleUncertain .tear x sl s
  | none => s

/-- A slot settled by a start (R56). -/
def tearSlot (x : Side) (s : State) : State :=
  match s.slot x with
  | some sl => settleUncertain .aborted x sl (chanStop (writeOf x) s)
  | none => s

/-- Both slots settled by a start: U, then P (R56). -/
def tearSlots (s : State) : State := tearSlot .p (tearSlot .u s)

/-- The answer to a WRITE OUTCOME whose fields are in their sets, and the state it leaves (R46). -/
def takeOutcome (x : Side) (r : WriteResult) (tag : Word16) (s : State) : State × Result :=
  match s.slot x with
  | some sl => if sl.newTag = tag then (settleSlot r x sl s, .ok) else (s, .noTransaction)
  | none => (s, .noTransaction)

/-! ## STAFF PASS (R111) -/

/-- The tests of R111, in order: the refusal, or none. -/
def staffRefusal (s : State) (d : Side) : Option Result :=
  if !s.permits d then some .notPermitted
  else if !s.room d then some .laneBusy
  else if s.lfc.leaf = .fault ∨ s.free < 2 then some .notReady
  else none

/-- A STAFF PASS that passes: its entry, one reservation, a STAFF credit (R110, R111). -/
def staffCredit (d : Side) (s : State) : State :=
  createCredit d
    { kind := .staff, card := none, creator := s.rjn.nextSeq, tick := s.svc.tickCount
      audit := false }
    (reserve 1 (writeFree (s.entry .staffPass .staff (some d)) s))

end Sys2Proof.Machine
end

