-- ==== Sys2Proof/Machine/Clock.lean ====
section
/-! DEFINITION. The divider, the day clock and the events of the timer channels (R17 to R21, R104, R114 to R118, R146,
R151). Each event row acts when its event is due (log 4, log 5) and while VDD is present. -/

namespace Sys2Proof.Machine

/-! ## Divider and day clock -/

/-- The divider's tick: the lane tick count, and the part that counts to the next second (R17, R18, R20). -/
def dividerTick (s : State) : State :=
  s.setSvc { s.svc with
    tickCount := s.svc.tickCount + 1
    phase := if s.svc.phase = 63 then 0 else s.svc.phase + 1
    secondsDue := if s.svc.phase = 63 then s.svc.secondsDue + 1 else s.svc.secondsDue }

/-- The day clock a second on (R19). -/
def DayTime.next (t : DayTime) : DayTime :=
  if t.secs + 1 < 86400 then { t with secs := t.secs + 1 }
  else { day := if t.day < 65534 then t.day + 1 else t.day, secs := 0 }

/-- The day clock replaced. -/
def setClock (t : DayTime) (s : State) : State :=
  s.setSvc { s.svc with day := t.day, secs := t.secs }

/-- A second or a set handed to FRU and to SCU (R19). -/
def handSecond (s : State) : State :=
  (s.setFru { s.fru with secondHanded := true }).setScu
    { s.scu with marksHanded := true, tearsHanded := true }

/-- FRU and then SCU take what has been handed to them (R19, R20). -/
def takeHanded (s : State) : State := tearsTake (marksTake (fruTakes s))

/-- The second output taken (R19): an earlier second still handed is taken first; a known clock advances and the
second is handed on. -/
def secondTaken (s : State) : State :=
  let t := takeHanded s
  let t := t.setSvc { t.svc with secondsDue := t.svc.secondsDue - 1 }
  if t.svc.timeKnown then handSecond (setClock t.now.next t) else t

/-- The second output while VDD is absent: the retained clock alone runs (R17, R19; log 36). -/
def secondRetained (s : State) : State :=
  let t := s.setSvc { s.svc with secondsDue := s.svc.secondsDue - 1 }
  if t.svc.timeKnown then setClock t.now.next t else t

/-- The step of a CLOCK SET in seconds (R20). -/
def clockStep (old new : DayTime) : Int :=
  ((new.day : Int) - old.day) * 86400 + ((new.secs : Int) - old.secs)

/-- The TIME_STEP entry (R21). -/
def timeStepEntry (old new : DayTime) : Entry :=
  { entryAt new .timeStep (if 0 < clockStep old new then .forward else .backward) none with
    cardSeq := BitVec.ofNat 16 old.day, extra := old.secs }

/-- The TIME_STEP entry of a set that moves a known clock by more than 300 s (R20 step 1, R21). -/
def noteStep (new : DayTime) (s : State) : State :=
  if s.svc.timeKnown ∧ (300 < clockStep s.now new ∨ clockStep s.now new < -300) then
    writeFree (timeStepEntry s.now new) s
  else s

/-- A CLOCK SET that is not refused (R20; log 6). A second already handed on is taken first, against the clock that
handed it (R19, R64, R95; log 5). -/
def clockSet (new : DayTime) (s : State) : State :=
  let t := noteStep new (takeHanded s)
  let t := setClock new (t.setSvc { t.svc with phase := 0, secondsDue := 0 })
  let t := setNoTime false (t.setSvc { t.svc with timeKnown := true })
  takeHanded (handSecond t)

/-! ## Rows -/

/-- An event taken while VDD is present, with its end (R29, R152, R181). -/
def event (f : State → State) (s : State) : State := if s.powered then finish (f s) else s

/-- A channel's compare event is due (R104). -/
def compareDue (i : ChanId) (s : State) : Bool := s.powered && (s.chan i).compareDue

/-- A channel's underflow is due (R104). -/
def underflowDue (i : ChanId) (s : State) : Bool := s.powered && (s.chan i).underflowDue

/-- A refusal flash has lapsed: the lane tick count has reached its deadline, or passed it by a forward distance of up to
2,147,483,647 (R151; DEDUCED, unsafe: TICK leaves the flash and this row removes it, log 41). -/
def flashLapsed (x : Side) (s : State) : Bool :=
  match s.flash x with
  | some deadline => s.powered && stampDist deadline s.svc.tickCount ≤ 2147483647
  | none => false

/-- A refusal flash removed. -/
def clearFlash (x : Side) (s : State) : State :=
  match x with
  | .u => s.setSgu { s.sgu with flashU := none }
  | .p => s.setSgu { s.sgu with flashP := none }

/-- SIGNAL's underflow (R146). -/
def signalEnds (s : State) : State :=
  if 1 < s.sgu.pulses then s.setSgu { s.sgu with pulses := s.sgu.pulses - 1, toneOn := true }
  else chanStop .signal (s.setSgu { s.sgu with tone := none, pulses := 0, toneOn := false })

/-- TICK (R17, R18, R104): the divider runs on VDD or VBAK; the channels run while VDD is present. -/
def execTick (s : State) : Host.Outcome State Fault Refusal :=
  .next (if s.powered then (dividerTick s).setLtu s.ltu.ticked else dividerTick s)

/-- SECOND (R19). -/
def execSecond (s : State) : Host.Outcome State Fault Refusal :=
  .next (if s.svc.secondsDue = 0 then s
    else if s.powered then finish (secondTaken s) else secondRetained s)

/-- TIMED_FARE_SWITCH (R64): FRU takes the second handed to it. -/
def execTimedFareSwitch (s : State) : Host.Outcome State Fault Refusal :=
  .next (if s.fru.secondHanded then event fruTakes s else s)

/-- MARK_EXPIRY (R95): SCU takes the second for the marks, after FRU (R19). -/
def execMarkExpiry (s : State) : Host.Outcome State Fault Refusal :=
  .next (if s.scu.marksHanded then event (fun t => marksTake (fruTakes t)) s else s)

/-- TEAR_DEADLINE (R53, R95): SCU takes the second for the pending-tears, after FRU (R19). -/
def execTearDeadline (s : State) : Host.Outcome State Fault Refusal :=
  .next (if s.scu.tearsHanded then event (fun t => tearsTake (fruTakes t)) s else s)

/-- EMERG_CHANGE (R25): the pin stands at the level, and the filtered level takes it. -/
def execEmergChange (asserted : Bool) (s : State) : Host.Outcome State Fault Refusal :=
  .next (event (fun t => takeEmerg asserted (pinLevel .emerg asserted t)) s)

/-- BEAM_CHANGE (R121, R124): the pin stands at the level, and the filtered level takes it. -/
def execBeamChange (beam : Beam) (blocked : Bool) (s : State) : Host.Outcome State Fault Refusal :=
  .next (event (fun t => beamChanged beam blocked (pinLevel (.beam beam) blocked t)) s)

/-- SWITCH_CHANGE (R121, R130): the pin stands at the level, and the filtered level takes it. -/
def execSwitchChange (leaf : Leaf) (sw : Switch) (made : Bool) (s : State) :
    Host.Outcome State Fault Refusal :=
  .next (event (fun t => switchChanged leaf sw made (pinLevel (.switch leaf sw) made t)) s)

/-- CURRENT_SAMPLE (R137). -/
def execCurrentSample (value : BitVec 10) (s : State) : Host.Outcome State Fault Refusal :=
  .next (if converting s then event (sampleTaken value.toNat) s else s)

/-- PASSAGE_WARNING (R114, R150). -/
def execPassageWarning (dir : Side) (s : State) : Host.Outcome State Fault Refusal :=
  .next (if compareDue (windowOf dir) s then
    finish (setHurry dir true (takeCompare (windowOf dir) s)) else s)

/-- CREDIT_EXPIRY (R115). -/
def execCreditExpiry (dir : Side) (s : State) : Host.Outcome State Fault Refusal :=
  .next (if underflowDue (windowOf dir) s then
    finish (expireHead dir (takeUnderflow (windowOf dir) s)) else s)

/-- WRITE_WAIT_UNDERFLOW (R47). -/
def execWriteWaitUnderflow (side : Side) (s : State) : Host.Outcome State Fault Refusal :=
  .next (if underflowDue (writeOf side) s then
    finish (writeWaitEnds side (takeUnderflow (writeOf side) s)) else s)

/-- LEAF_HOLD_UNDERFLOW (R135, R139). -/
def execLeafHoldUnderflow (s : State) : Host.Outcome State Fault Refusal :=
  .next (if underflowDue .leafHold s then finish (holdEnds (takeUnderflow .leafHold s)) else s)

/-- LEAF_MOVE_UNDERFLOW (R131). -/
def execLeafMoveUnderflow (s : State) : Host.Outcome State Fault Refusal :=
  .next (if underflowDue .leafMove s then finish (moveTimeout (takeUnderflow .leafMove s)) else s)

/-- OCCUPANCY_UNDERFLOW (R118). -/
def execOccupancyUnderflow (s : State) : Host.Outcome State Fault Refusal :=
  .next (if underflowDue .occupancy s then
    finish (raiseLane .occupiedLong (takeUnderflow .occupancy s)) else s)

/-- SIGNAL_COMPARE (R146). -/
def execSignalCompare (s : State) : Host.Outcome State Fault Refusal :=
  .next (if compareDue .signal s then
    let t := takeCompare .signal s
    finish (t.setSgu { t.sgu with toneOn := false })
  else s)

/-- SIGNAL_UNDERFLOW (R146). -/
def execSignalUnderflow (s : State) : Host.Outcome State Fault Refusal :=
  .next (if underflowDue .signal s then finish (signalEnds (takeUnderflow .signal s)) else s)

/-- REFUSAL_FLASH_LAPSE (R151). -/
def execRefusalFlashLapse (side : Side) (s : State) : Host.Outcome State Fault Refusal :=
  .next (if flashLapsed side s then finish (clearFlash side s) else s)

end Sys2Proof.Machine
end

