-- ==== Sys2Proof/Machine/Starts.lean ====
section
/-! DEFINITION. The starts: cold start, warm start, lane restart (R30, R56, R120, R127, R144, R153, R164, R177, R189,
R194) and the loss of VDD (R17). -/

namespace Sys2Proof.Machine

/-! ## Parts of a start -/

/-- The START entry (R157, R164). -/
def writeStart (r : Reason) (s : State) : State :=
  writeFree { s.entry .start r none with extra := s.rck.w.toNat } s

/-- SGU at a start: arbiter idle, SIGNAL stopped, hurry flags and refusal flashes cleared (R153). -/
def resetSignals (s : State) : State :=
  chanStop .signal (s.setSgu { s.sgu with
    tone := none, pulses := 0, toneOn := false, hurryUp := false, hurryPu := false, flashU := none
    flashP := none })

/-- The lane hold cleared, with its reason (R24). -/
def clearHold (s : State) : State := setHoldReason false (s.setSvc { s.svc with laneHold := false })

/-- The ports at a cold or warm start, notice sets emptied (R183, R194). -/
def resetPorts (addr : BitVec 6) (rate : BitVec 2) (s : State) : State :=
  (s.setLpt
    { ready := false, requestSlot := [], requestCount := 0, responseSlot := none
      notices := noticesOf laneCauses, attn := false, lsdo := [] }).setStl
    { ownAddr := addr, rate := rate, rx := .hunting, rxBuf := [], replyTurn := none, sde := false
      tx := [], notices := noticesOf stationCauses }

/-- The switch filters unset, as at a cold or warm start (R121, R144; log 31). -/
def unsetSwitches (s : State) : State :=
  s.setLfc { s.lfc with swLC := none, swLO := none, swRC := none, swRO := none }

/-- The reason set as the conditions stand, after a warm start (R30). -/
def standingReasons (s : State) : Reasons :=
  { noKey := s.rck.current.isNone, noFare := !s.activeBank.valid, noTime := !s.svc.timeKnown
    noSetup := s.setup.stationCode == 0, journalStop := s.rjn.stop, leafFault := false
    laneHold := false, modeClosed := s.effMode == .closed }

/-- A cause's count back to 0. -/
def forget (c : Cause) (ns : List Notice) : List Notice :=
  ns.map fun n => if n.cause = c then { n with count := 0 } else n

/-- The conditions a warm start finds standing raise no notice (R161, R194; log 18). -/
def forgetSpace (s : State) : State :=
  s.setStl { s.stl with notices := forget .journalLow (forget .journalStop s.stl.notices) }

/-- Slots into tears, credits cancelled, the tracker cleared, and a sample in CLOSING completed (R56, R120, R127,
R177). -/
def settleLane (r : Reason) (s : State) : State :=
  auditStart (clearTracker (chanStop .occupancy (cancelBoth r (tearSlots s))))

/-! ## The three starts -/

/-- A cold start: every state takes its initial value; the straps are read (R194). The queue of commands and the levels
at the pins are kept, every filter's count is 0 (R121). -/
def coldStarted (addr : BitVec 6) (rate : BitVec 2) (s : State) : State :=
  clearFilters (((State.reset.setStl { State.reset.stl with ownAddr := addr, rate := rate }).setInp s.inp).setPending
    s.pending)

/-- The free period at a warm start: closed with its entry, reopened when the mode formed is FREE (R120). -/
def warmFree (s : State) : State :=
  let t := if s.pcu.freePeriod.isOpen then closeFree s else s
  if t.effMode = .free then openFree .stationFree t else t

/-- The service state a warm start forms: EMERG released, hold cleared, reasons as the conditions stand, with no
SERVICE_CHANGED (R24, R25, R30). -/
def warmService (s : State) : State :=
  s.setSvc { s.svc with
    laneHold := false, reasons := standingReasons s, serviceTouched := false }

/-- A warm start, in the order of R194, R164, R56, R120, R144, R30, R177 and R153. -/
def warmStarted (addr : BitVec 6) (rate : BitVec 2) (s : State) : State :=
  let t := clearFilters (resetPorts addr rate (s.setPowered true))
  let t := writeStart .warm (t.setSvc { t.svc with emerg := false })
  let t := warmFree (settleLane .warmStart t)
  let t := resetSignals ((commandLeaves 0 (unsetSwitches t)).setLtu .reset)
  let t := warmService (forgetSpace (judgeSpace t))
  formAttn (formLamps (raiseBoth .restarted t))

/-- LFC at a lane restart (R143, R144): FREE_OPEN stands as it is; otherwise FAULT is left and the leaves are
commanded. -/
def restartLeaves (s : State) : State :=
  if s.lfc.leaf = .freeOpen then s
  else commandLeaves 0 (setLeafFault false (chanStop .leafMove (chanStop .leafHold s)))

/-- A lane restart, in the order of R189. -/
def laneRestarted (r : Reason) (s : State) : State :=
  let t := settleLane .restart (writeStart r (clearBeamFilters s))
  let t := settleFree (restartLeaves t)
  raiseBoth .restarted (resetSignals (clearHold t))

/-- VDD goes away (R17; log 16). -/
def vddLost (s : State) : State := s.setPowered false

end Sys2Proof.Machine
end

