-- ==== Sys2Proof/Machine/Requests.lean ====
section
/-! DEFINITION. The requests (R186): for each kind its code, ports, body length, and what its owner does with it. -/

namespace Sys2Proof.Machine

/-- A result with the reply data of the owning rule (R186). -/
structure Answer where
  result : Result
  data : List Byte
  deriving DecidableEq, Repr

/-- How a request arrived: on the lane port, by own address, or by a group or all-lanes address (R184). -/
inductive Port where
  | lane
  | own
  | broadcast
  deriving DecidableEq, Repr

/-- A request kind of R186: its code, the ports that may carry it, whether a broadcast may, the body lengths it
allows, and its owner's rule. -/
structure Request where
  code : Byte
  lane : Bool
  station : Bool
  broadcast : Bool
  lengthOk : Nat → Bool
  run : Port → List Byte → State → State × Answer

/-- OK without data. -/
def okay : Answer := { result := .ok, data := [] }

/-- A refusal that carries its result alone. -/
def refusal (r : Result) : Answer := { result := r, data := [] }

/-- A byte of a body. -/
def byteAt (b : List Byte) (i : Nat) : Byte := b.getD i 0

/-- Exactly `n` bytes. -/
def exactly (n : Nat) : Nat → Bool := fun len => len == n

/-! ## Lane port requests -/

/-- CARD PRESENT (R33). -/
def cardPresentRun (b : List Byte) (s : State) : State × Answer :=
  match sideOf (byteAt b 0) with
  | some x =>
    let r := present x (b.drop 1) s
    (r.1, { result := .ok, data := r.2.bytes })
  | none => (s, refusal .badField)

/-- WRITE OUTCOME (R46). -/
def writeOutcomeRun (b : List Byte) (s : State) : State × Answer :=
  match sideOf (byteAt b 0), outcomeOf (byteAt b 1) with
  | some x, some r =>
    let o := takeOutcome x r (BitVec.ofNat 16 (field b 2 2)) s
    (o.1, refusal o.2)
  | _, _ => (s, refusal .badField)

/-- LANE HOLD (R24). -/
def laneHoldRun (s : State) : State × Answer :=
  (setHoldReason true (s.setSvc { s.svc with laneHold := true }), okay)

/-- LANE RELEASE (R24). -/
def laneReleaseRun (s : State) : State × Answer := (clearHold s, okay)

/-- STAFF PASS (R111). -/
def staffPassRun (b : List Byte) (s : State) : State × Answer :=
  match sideOf (byteAt b 0) with
  | some d =>
    match staffRefusal s d with
    | some r => (s, refusal r)
    | none => (staffCredit d s, okay)
  | none => (s, refusal .badField)

/-- CUE TONE (R149): PLAYED 1, DROPPED 2. -/
def cueToneRun (b : List Byte) (s : State) : State × Answer :=
  let n := (byteAt b 0).toNat
  if n = 0 ∨ 8 < n then (s, refusal .badField)
  else (requestTone .cue n s, { result := .ok, data := [if toneStarts s .cue then 1 else 2] })

def reqCardPresent : Request :=
  { code := 0x01, lane := true, station := false, broadcast := false, lengthOk := exactly 49
    run := fun _ b s => cardPresentRun b s }

def reqWriteOutcome : Request :=
  { code := 0x02, lane := true, station := false, broadcast := false, lengthOk := exactly 4
    run := fun _ b s => writeOutcomeRun b s }

def reqLaneHold : Request :=
  { code := 0x03, lane := true, station := false, broadcast := false, lengthOk := exactly 0
    run := fun _ _ s => laneHoldRun s }

def reqLaneRelease : Request :=
  { code := 0x04, lane := true, station := false, broadcast := false, lengthOk := exactly 0
    run := fun _ _ s => laneReleaseRun s }

def reqStaffPass : Request :=
  { code := 0x05, lane := true, station := false, broadcast := false, lengthOk := exactly 1
    run := fun _ b s => staffPassRun b s }

def reqCueTone : Request :=
  { code := 0x06, lane := true, station := false, broadcast := false, lengthOk := exactly 1
    run := fun _ b s => cueToneRun b s }

/-! ## Requests of both ports -/

/-- A slot's state and card number (R188). -/
def slotBytes : Option Slot → List Byte
  | none => [0] ++ toBE 4 0
  | some sl => [1] ++ toBE 4 sl.card

/-- A queue's four fields (R188). A STAFF head answers its kind code with the card number 0 (DEDUCED, unsafe; log 34). -/
def queueBytes (s : State) (d : Side) : List Byte :=
  toBE 1 (s.queue d).length ++ [boolByte (s.claim d)]
    ++ match s.queue d with
      | [] => [0] ++ toBE 4 0
      | c :: _ => [c.kind.code] ++ toBE 4 (c.card.getD 0)

/-- The bank fields of both reports (R188, R193). -/
def bankBytes (s : State) : List Byte :=
  [s.fru.active.code] ++ toBE 4 s.fru.bankA.imageId ++ toBE 4 s.fru.bankB.imageId
    ++ [boolByte s.standbyBank.valid]

/-- The pending switch fields of both reports (R188, R193). -/
def switchBytes (s : State) : List Byte :=
  match s.fru.pendingSwitch with
  | some t => [1] ++ toBE 2 t.day ++ toBE 3 t.secs
  | none => [0, 0, 0, 0, 0, 0]

/-- The status record, 77 bytes (R188; log 34). -/
def statusRecord (s : State) : List Byte :=
  [s.effMode.code, s.svc.stationMode.code, boolByte s.svc.laneHold, boolByte s.svc.emerg,
      s.svc.reasons.toByte, boolByte s.svc.timeKnown]
    ++ toBE 2 s.svc.day ++ toBE 3 s.svc.secs ++ toBE 4 s.svc.tickCount.toNat
    ++ slotBytes s.txu.slotU ++ slotBytes s.txu.slotP ++ queueBytes s .u ++ queueBytes s .p
    ++ [s.lfc.leaf.code, sideCode s.lfc.leaf.dir, sideCode s.lfc.grant, sideCode s.lfc.openSide]
    ++ toBE 1 s.lfc.reversalCount ++ [boolByte s.lfc.paused]
    ++ [boolByte s.pcu.episode, sideCode s.pcu.episodeDir]
    ++ [boolByte s.pcu.freePeriod.isOpen, s.pcu.freePeriod.reason.code]
    ++ toBE 2 s.pcu.freePeriod.up ++ toBE 2 s.pcu.freePeriod.pu
    ++ [toneCode s.sgu.tone] ++ toBE 1 s.sgu.pulses
    ++ [s.sgu.lampUG.code, s.sgu.lampUR.code, s.sgu.lampPG.code, s.sgu.lampPR.code]
    ++ toBE 2 s.free ++ bankBytes s ++ switchBytes s

/-- The notice set of the port a request arrived on (R190). -/
def State.noticesOf (s : State) : Port → List Notice
  | .lane => s.lpt.notices
  | .own => s.stl.notices
  | .broadcast => s.stl.notices

def setNotices (p : Port) (ns : List Notice) (s : State) : State :=
  match p with
  | .lane => s.setLpt { s.lpt with notices := ns }
  | .own => s.setStl { s.stl with notices := ns }
  | .broadcast => s.setStl { s.stl with notices := ns }

/-- The cause is in a fetched group (R192). -/
def inGroups (mask : Byte) (n : Notice) : Bool := mask.getLsbD n.cause.group

/-- A recorded cause of the fetched groups (R192). -/
def fetched (mask : Byte) (n : Notice) : Bool := n.recorded && inGroups mask n

/-- The group mask of a NOTICE FETCH body: none when refused (R192). -/
def fetchMask : List Byte → Option Byte
  | [] => some 0x1F
  | m :: _ => if m = 0 ∨ m &&& 0xE0 ≠ 0 then none else some m

/-- The reply data of a NOTICE FETCH (R192). -/
def fetchData (mask : Byte) (ns : List Notice) : List Byte :=
  let out := ns.filter (fetched mask)
  recordedSummary ns :: BitVec.ofNat 8 out.length
    :: out.flatMap fun n => [BitVec.ofNat 8 n.cause.code, BitVec.ofNat 8 n.count]

/-- A set after a fetch (R192). -/
def clearFetched (mask : Byte) (ns : List Notice) : List Notice :=
  ns.map fun n => if fetched mask n then { n with count := 0 } else n

/-- NOTICE FETCH (R192). -/
def noticeFetchRun (p : Port) (b : List Byte) (s : State) : State × Answer :=
  match fetchMask b with
  | some mask =>
    (setNotices p (clearFetched mask (s.noticesOf p)) s,
      { result := .ok, data := fetchData mask (s.noticesOf p) })
  | none => (s, refusal .badField)

/-- A pair of a NOTICE MASK is in the port's set (R191). -/
def pairOk (ns : List Notice) (pr : Byte × Byte) : Bool :=
  (ns.any fun n => n.cause.code == pr.1.toNat) && (settingOf pr.2).isSome

/-- A cause that takes a setting (R191). -/
def Notice.set (n : Notice) (v : Setting) : Notice :=
  { n with setting := v, count := if v = .hidden then 0 else n.count }

/-- One pair applied (R191). -/
def applyPair (ns : List Notice) (pr : Byte × Byte) : List Notice :=
  match settingOf pr.2 with
  | some v => ns.map fun n => if n.cause.code = pr.1.toNat then n.set v else n
  | none => ns

/-- NOTICE MASK (R191). -/
def noticeMaskRun (p : Port) (b : List Byte) (s : State) : State × Answer :=
  let pairs := readPairs b
  if pairs.all (pairOk (s.noticesOf p)) then
    let ns := pairs.foldl applyPair (s.noticesOf p)
    (setNotices p ns s, { result := .ok, data := [unmaskedSummary ns] })
  else (s, refusal .badField)

/-- A NOTICE MASK body: 1..16 pairs (R186). -/
def maskLength (len : Nat) : Bool := len % 2 == 0 && 2 ≤ len && len ≤ 32

/-- LANE RESTART's START reason (R189). -/
def restartReason : Port → Reason
  | .lane => .lane
  | .own => .station
  | .broadcast => .station

def reqLaneStatus : Request :=
  { code := 0x10, lane := true, station := true, broadcast := false, lengthOk := exactly 0
    run := fun _ _ s => (s, { result := .ok, data := statusRecord s }) }

def reqNoticeFetch : Request :=
  { code := 0x11, lane := true, station := true, broadcast := false
    lengthOk := fun len => decide (len ≤ 1), run := noticeFetchRun }

def reqNoticeMask : Request :=
  { code := 0x12, lane := true, station := true, broadcast := false, lengthOk := maskLength
    run := noticeMaskRun }

def reqLaneRestart : Request :=
  { code := 0x13, lane := true, station := true, broadcast := false, lengthOk := exactly 0
    run := fun p _ s => (laneRestarted (restartReason p) s, okay) }

/-! ## Station requests: reports and journal -/

/-- The poll record, 46 bytes (R193). -/
def pollRecord (s : State) : List Byte :=
  [unmaskedSummary s.stl.notices, s.svc.reasons.toByte, s.effMode.code, s.svc.stationMode.code]
    ++ toBE 4 s.rjn.oldest.toNat ++ toBE 4 s.rjn.newest.toNat ++ toBE 2 s.free
    ++ toBE 2 s.rjn.overrun ++ [boolByte s.rjn.low ||| (boolByte s.rjn.stop <<< 1)]
    ++ toBE 4 s.scu.denyVersion.toNat ++ toBE 2 s.scu.deny.length ++ bankBytes s ++ switchBytes s
    ++ [boolByte s.svc.timeKnown] ++ toBE 2 s.svc.day ++ toBE 3 s.svc.secs ++ [s.ads.phase.code]

/-- A journal entry as 30 bytes (R198). -/
def entryBytes (e : Entry) : List Byte :=
  toBE 4 e.seq.toNat ++ [e.kind.code, e.reason.code, sideCode e.side] ++ toBE 2 e.day
    ++ toBE 3 e.secs ++ toBE 4 e.card ++ toBE 2 e.amount ++ toBE32s e.balance
    ++ toBE 2 e.cardSeq.toNat ++ toBE 2 e.tag.toNat ++ toBE 4 e.extra

/-- Where a sequence stands (R155): at a distance from the oldest, before it, or beyond the newest. -/
inductive Place where
  | at (d : Nat)
  | before
  | beyond
  deriving DecidableEq, Repr

def Rjn.locate (r : Rjn) (x : Word32) : Place :=
  let d := stampDist r.oldest x
  if d < r.journal.length then .at d else if d ≤ 2147483647 then .beyond else .before

/-- The entries a fetch returns (R165). -/
def fetchEntries (r : Rjn) (x : Word32) (count : Nat) : List Entry :=
  match r.locate x with
  | .at d => (r.journal.drop d).take count
  | .before => r.journal.take count
  | .beyond => []

/-- JOURNAL FETCH (R165). -/
def journalFetchRun (b : List Byte) (s : State) : State × Answer :=
  let count := (byteAt b 4).toNat
  if count = 0 ∨ 7 < count then (s, refusal .badField)
  else
    let out := fetchEntries s.rjn (BitVec.ofNat 32 (field b 0 4)) count
    (s, { result := .ok
          data := toBE 4 s.rjn.oldest.toNat ++ toBE 4 s.rjn.newest.toNat ++ toBE 1 out.length
            ++ out.flatMap entryBytes })

/-- How many entries a release takes (R166). -/
def releaseCount (r : Rjn) (x : Word32) : Nat :=
  match r.locate x with
  | .at d => d + 1
  | .beyond => r.journal.length
  | .before => 0

/-- Entries released from the oldest end; LOW and STOP judged; OVERRUN written if due (R163, R166). -/
def releaseEntries (j : Nat) (s : State) : State :=
  overrunEntry s.free (judgeSpace (s.setRjn { s.rjn with journal := s.rjn.journal.drop j }))

/-- JOURNAL RELEASE (R166). -/
def journalReleaseRun (b : List Byte) (s : State) : State × Answer :=
  let j := releaseCount s.rjn (BitVec.ofNat 32 (field b 0 4))
  let t := if j = 0 then s else releaseEntries j s
  (t, { result := .ok, data := toBE 2 j ++ toBE 4 t.rjn.oldest.toNat })

def reqStationPoll : Request :=
  { code := 0x20, lane := false, station := true, broadcast := false, lengthOk := exactly 0
    run := fun _ _ s => (s, { result := .ok, data := pollRecord s }) }

def reqJournalFetch : Request :=
  { code := 0x21, lane := false, station := true, broadcast := false, lengthOk := exactly 5
    run := fun _ b s => journalFetchRun b s }

def reqJournalRelease : Request :=
  { code := 0x22, lane := false, station := true, broadcast := false, lengthOk := exactly 4
    run := fun _ b s => journalReleaseRun b s }

/-! ## Station requests: screening -/

/-- The result of a DENY DELTA and the list it leaves: none when it is refused (R83). -/
def deltaCheck (b : List Byte) (s : State) : Result × Option DenyWork :=
  let n := (byteAt b 8).toNat
  if b.length < 9 ∨ 24 < n ∨ b.length ≠ 9 + 7 * n then (.badLength, none)
  else if !(readDenyOps n (b.drop 9)).all DenyOp.fieldsOk then (.badField, none)
  else if BitVec.ofNat 32 (field b 0 4) ≠ s.scu.denyVersion then (.versionMismatch, none)
  else
    match denyApplyAll s.now (readDenyOps n (b.drop 9)) s.denyWork with
    | some w => (.ok, some w)
    | none => (.tableFull, none)

/-- A delta applied: the list and its version (R84). -/
def deltaApplied (version : Word32) (w : DenyWork) (s : State) : State :=
  let t := setDeny w s
  t.setScu { t.scu with denyVersion := version }

/-- A refused delta: DENY_STALE for a broadcast that was not of a wrong length (R85). -/
def deltaRefused (p : Port) (r : Result) (s : State) : State :=
  if p = .broadcast ∧ r ≠ .badLength then raiseStation .denyStale s else s

/-- DENY DELTA (R83 to R85). -/
def denyDeltaRun (p : Port) (b : List Byte) (s : State) : State × Answer :=
  match deltaCheck b s with
  | (_, some w) =>
    let t := deltaApplied (BitVec.ofNat 32 (field b 4 4)) w s
    (t, { result := .ok, data := toBE 4 t.scu.denyVersion.toNat ++ toBE 1 w.evicted })
  | (r, none) =>
    (deltaRefused p r s,
      { result := r
        data := if r = .versionMismatch then toBE 4 s.scu.denyVersion.toNat else [] })

/-- DENY WIPE (R86). -/
def denyWipeRun (s : State) : State × Answer :=
  (denyWiped s, { result := .ok, data := toBE 2 (s.scu.deny.length - s.localCount) })

/-- The entry field of a DENY PROBE reply (R186). -/
def denyBytes : Option DenyEntry → List Byte
  | some e =>
    [(1 : Byte)] ++ toBE 4 e.base ++ toBE 1 e.width ++ [e.reason.code, e.origin.code] ++ toBE 2 e.day
      ++ toBE 3 e.secs
  | none => [(0 : Byte)] ++ toBE 4 0 ++ toBE 1 0 ++ [0, 0] ++ toBE 2 0 ++ toBE 3 0

/-- The sighting fields of a DENY PROBE reply (R87, R186, R198). -/
def probeSighting : Option Sighting → List Byte
  | some e =>
    [(1 : Byte)] ++ sightBytes e ++ [e.origin.code]
      ++ [boolByte e.inFlight.isSome ||| (boolByte e.tear.isSome <<< 1)
        ||| (boolByte e.mark.isSome <<< 2)]
  | none => [(0 : Byte)] ++ toBE 17 0 ++ [0, 0]

/-- A card number a request may name (R87, R99). -/
def cardOk (c : Nat) : Bool := c != 0 && c != 4294967295

/-- DENY PROBE (R87). -/
def denyProbeRun (b : List Byte) (s : State) : State × Answer :=
  let c := field b 0 4
  if cardOk c then
    (s, { result := .ok
          data := denyBytes (denyMatch s.scu.deny c) ++ toBE 4 s.scu.denyVersion.toNat
            ++ toBE 2 s.scu.deny.length ++ toBE 2 s.localCount ++ probeSighting (s.sighting c) })
  else (s, refusal .badField)

/-- SIGHTING (R99). -/
def sightingRun (b : List Byte) (s : State) : State × Answer :=
  let body := readSightBody b
  match sightEventOf body.event with
  | some ev =>
    if !body.inRange then (s, refusal .badField)
    else if isOwnSighting s body then (s, { result := .ok, data := [MergeResult.ignored.code] })
    else
      let r := mergeSighting body ev s
      (r.1, { result := .ok, data := [r.2.code] })
  | none => (s, refusal .badField)

/-- A DENY DELTA judges its own length (R83, R186). -/
def reqDenyDelta : Request :=
  { code := 0x23, lane := false, station := true, broadcast := true, lengthOk := fun _ => true
    run := denyDeltaRun }

def reqDenyWipe : Request :=
  { code := 0x24, lane := false, station := true, broadcast := true, lengthOk := exactly 0
    run := fun _ _ s => denyWipeRun s }

def reqDenyProbe : Request :=
  { code := 0x25, lane := false, station := true, broadcast := false, lengthOk := exactly 4
    run := fun _ b s => denyProbeRun b s }

def reqSighting : Request :=
  { code := 0x26, lane := false, station := true, broadcast := true, lengthOk := exactly 17
    run := fun _ b s => sightingRun b s }

/-! ## Station requests: fares, clock, key, mode, setup -/

/-- FARE CHUNK (R59). -/
def fareChunkRun (b : List Byte) (s : State) : State × Answer :=
  let off := field b 0 2
  let data := b.drop 2
  if data = [] then (s, refusal .badLength)
  else if 704 < off + data.length then (s, refusal .badField)
  else (writeChunk off data s, okay)

/-- FARE CLOSE (R60). -/
def fareCloseRun (b : List Byte) (s : State) : State × Answer :=
  match closeFault s.standbyBank.buffer (field b 0 2) (BitVec.ofNat 32 (field b 2 4)) with
  | some (stage, off) =>
    (failClose s, { result := .badImage, data := [stage.code] ++ toBE 2 off })
  | none => (passClose s, { result := .ok, data := [ImageStage.none.code] ++ toBE 2 0 })

/-- FARE SWITCH (R63): form 0 is NOW, form 1 a target. -/
def fareSwitchRun (b : List Byte) (s : State) : State × Answer :=
  let target := readDayTime b 1
  if byteAt b 0 = 0 then
    if s.standbyBank.valid then (swapBanks .now (setPendingSwitch none s), okay)
    else (s, refusal .notReady)
  else if byteAt b 0 = 1 then
    if !target.inRange then (s, refusal .badField)
    else if s.standbyBank.valid then (setPendingSwitch (some target) s, okay)
    else (s, refusal .notReady)
  else (s, refusal .badField)

/-- CLOCK SET (R20). -/
def clockSetRun (b : List Byte) (s : State) : State × Answer :=
  let t := readDayTime b 0
  if t.inRange then (clockSet t s, okay) else (s, refusal .badField)

/-- KEY LOAD (R9, R10). -/
def keyLoadRun (b : List Byte) (s : State) : State × Answer :=
  (loadKey { word := BitVec.ofNat 32 (field b 0 4), label := BitVec.ofNat 16 (field b 4 2) } s, okay)

/-- LANE MODE (R23). -/
def laneModeRun (b : List Byte) (s : State) : State × Answer :=
  match modeOf (byteAt b 0) with
  | some m => (takeLaneMode m s, okay)
  | none => (s, refusal .badField)

/-- LANE SETUP (R187). -/
def laneSetupRun (b : List Byte) (s : State) : State × Answer :=
  (setNoSetup ((readSetup b).stationCode == 0) (s.setSetup (readSetup b)),
    { result := .ok, data := toBE 2 (clampedMask b) })

/-- A FARE CHUNK body: an offset and 0..237 data bytes (R186). -/
def chunkLength (len : Nat) : Bool := 2 ≤ len && len ≤ 239

def reqFareChunk : Request :=
  { code := 0x27, lane := false, station := true, broadcast := true, lengthOk := chunkLength
    run := fun _ b s => fareChunkRun b s }

def reqFareClose : Request :=
  { code := 0x28, lane := false, station := true, broadcast := true, lengthOk := exactly 6
    run := fun _ b s => fareCloseRun b s }

def reqFareSwitch : Request :=
  { code := 0x29, lane := false, station := true, broadcast := true, lengthOk := exactly 6
    run := fun _ b s => fareSwitchRun b s }

def reqClockSet : Request :=
  { code := 0x2A, lane := false, station := true, broadcast := true, lengthOk := exactly 5
    run := fun _ b s => clockSetRun b s }

def reqKeyLoad : Request :=
  { code := 0x2B, lane := false, station := true, broadcast := true, lengthOk := exactly 6
    run := fun _ b s => keyLoadRun b s }

def reqLaneMode : Request :=
  { code := 0x2C, lane := false, station := true, broadcast := true, lengthOk := exactly 1
    run := fun _ b s => laneModeRun b s }

def reqLaneSetup : Request :=
  { code := 0x2D, lane := false, station := true, broadcast := false, lengthOk := exactly 15
    run := fun _ b s => laneSetupRun b s }

/-! ## Station requests: audit -/

/-- AUDIT SETUP (R169); the clamped-fields byte names a clamped interval in bit 0 (log 38). -/
def auditSetupRun (b : List Byte) (s : State) : State × Answer :=
  match onOffOf (byteAt b 0), onOffOf (byteAt b 3) with
  | some enable, some randomise =>
    let n := field b 1 2
    (auditSettings enable n randomise s,
      { result := .ok, data := toBE 1 (bitAt (decide (n < 16)) 0) })
  | _, _ => (s, refusal .badField)

/-- AUDIT READ (R175). -/
def auditReadRun (s : State) : State × Answer :=
  match s.ads.phase, s.ads.sample with
  | .valid, some m => (s, { result := .ok, data := auditReport s m })
  | _, _ => (s, { result := .notReady, data := auditNotReady s })

/-- AUDIT RELEASE (R176). -/
def auditReleaseRun (s : State) : State × Answer :=
  if s.ads.phase = .valid then (auditReleased s, okay) else (s, refusal .notReady)

/-- AUDIT TAG (R171). -/
def auditTagRun (s : State) : State × Answer :=
  if s.ads.phase = .idle then (auditTagged s, okay) else (s, refusal .notReady)

def reqAuditSetup : Request :=
  { code := 0x2E, lane := false, station := true, broadcast := false, lengthOk := exactly 4
    run := fun _ b s => auditSetupRun b s }

def reqAuditRead : Request :=
  { code := 0x2F, lane := false, station := true, broadcast := false, lengthOk := exactly 0
    run := fun _ _ s => auditReadRun s }

def reqAuditRelease : Request :=
  { code := 0x30, lane := false, station := true, broadcast := false, lengthOk := exactly 0
    run := fun _ _ s => auditReleaseRun s }

def reqAuditTag : Request :=
  { code := 0x31, lane := false, station := true, broadcast := false, lengthOk := exactly 0
    run := fun _ _ s => auditTagRun s }

/-! ## The permission table (R186) -/

/-- Every request kind with an assigned code (R186). -/
def allRequests : List Request :=
  [reqCardPresent, reqWriteOutcome, reqLaneHold, reqLaneRelease, reqStaffPass, reqCueTone,
    reqLaneStatus, reqNoticeFetch, reqNoticeMask, reqLaneRestart, reqStationPoll,
    reqJournalFetch, reqJournalRelease, reqDenyDelta, reqDenyWipe, reqDenyProbe, reqSighting,
    reqFareChunk, reqFareClose, reqFareSwitch, reqClockSet, reqKeyLoad, reqLaneMode,
    reqLaneSetup, reqAuditSetup, reqAuditRead, reqAuditRelease, reqAuditTag]

/-- The kind of a code that a port allows (R179, R184). -/
def laneKind (code : Byte) : Option Request := allRequests.find? fun r => r.lane && r.code == code
def stationKind (code : Byte) : Option Request :=
  allRequests.find? fun r => r.station && r.code == code

end Sys2Proof.Machine
end

