-- ==== Sys2Proof/Machine/LanePort.lean ====
section
/-! DEFINITION. The lane port LPT (R178 to R181, R195) and the rows it takes. A transfer is one event, taken at the
rising edge of LCS (log 9). -/

namespace Sys2Proof.Machine

/-- The port takes transfers: VDD is present and LCS has been seen high since the last start (R178; log 11). -/
def laneLive (s : State) : Bool := s.powered && s.lpt.ready

/-- The frame of a lane request (R195). -/
def laneFrame (code : Byte) (body : List Byte) : List Byte :=
  let head := code :: BitVec.ofNat 8 body.length :: body
  head ++ toBE 2 (crc16 head).toNat

/-- A request transfer's bytes in the request slot, and what LSDO carried meanwhile (R178, R179). -/
def recordTransfer (bytes : List Byte) (s : State) : State :=
  s.setLpt { s.lpt with
    requestSlot := bytes.take 254, requestCount := bytes.length
    lsdo := portByte s :: List.replicate (bytes.length - 1) 0 }

/-- A response placed in the response slot (R179). -/
def respond (kind : Byte) (a : Answer) (s : State) : State :=
  s.setLpt { s.lpt with
    responseSlot := some { kind := kind, body := a.result.code :: a.data, overrun := false } }

/-- A request transfer taken: ignored with OVERRUN while a response waits, else judged (R179, R180). -/
def laneTake (bytes : List Byte) (judge : State → State) (s : State) : State :=
  match s.lpt.responseSlot with
  | some r =>
    let t := recordTransfer bytes s
    t.setLpt { t.lpt with responseSlot := some { r with overrun := true } }
  | none => judge (recordTransfer bytes s)

/-- Stages 4 and 5: the body length, then the owner (R179). -/
def laneAct (rq : Request) (body : List Byte) (s : State) : State :=
  if rq.lengthOk body.length then respond (rq.code + 0x80) (rq.run .lane body s).2 (rq.run .lane body s).1
  else respond (rq.code + 0x80) (refusal .badLength) s

/-- A body that no lane frame can carry is a form fault (R179 stage 1, R195). -/
def laneJudge (rq : Request) (body : List Byte) (s : State) : State :=
  if 250 < body.length then respond 0xFF (refusal .badLength) s else laneAct rq body s

/-- A whole, right request frame taken by the lane port (log 10). -/
def laneRequest (rq : Request) (body : List Byte) (s : State) : State :=
  if laneLive s then finish (laneTake (laneFrame rq.code body) (laneJudge rq body) s) else s

/-- The length byte of a frame. -/
def frameLength (bytes : List Byte) : Nat := (byteAt bytes 1).toNat

/-- Stage 1 fails (R179). -/
def badForm (bytes : List Byte) (ragged : Bool) : Bool :=
  bytes.length < 4 || ragged || 250 < frameLength bytes || bytes.length != frameLength bytes + 4

/-- Stage 2 fails (R179). -/
def badCheck (bytes : List Byte) : Bool :=
  crc16 (bytes.take (2 + frameLength bytes)) != BitVec.ofNat 16 (field bytes (2 + frameLength bytes) 2)

/-- A request frame judged by the five stages (R179). A refused kind of 0x80 or more plus 0x80 is taken modulo 256
(DEDUCED, unsafe, log 44). -/
def judgeFrame (bytes : List Byte) (ragged : Bool) (s : State) : State :=
  if badForm bytes ragged then respond 0xFF (refusal .badLength) s
  else if badCheck bytes then respond 0xFF (refusal .checkError) s
  else
    match laneKind (byteAt bytes 0) with
    | some rq => laneAct rq ((bytes.drop 2).take (frameLength bytes)) s
    | none => respond (byteAt bytes 0 + 0x80) (refusal .notPermitted) s

/-! ## Reads (R178, R180) -/

/-- The status byte of a response, formed when the read begins (R180). -/
def statusByte (s : State) (r : Response) : Byte :=
  boolByte r.overrun ||| (boolByte s.noticeBit <<< 1)

/-- A head with its CRC-16. -/
def withCrc (head : List Byte) : List Byte := head ++ toBE 2 (crc16 head).toNat

/-- The bytes of the response in the slot, or of an empty response (R180, R195). -/
def responseBytes (s : State) : List Byte :=
  match s.lpt.responseSlot with
  | some r => withCrc (statusByte s r :: r.kind :: BitVec.ofNat 8 r.body.length :: r.body)
  | none => withCrc [0, 0, 0]

/-- What a response read of some bytes shifts out: the port byte, the response, zeros (R178, R180). -/
def readOut (clocked : Nat) (s : State) : List Byte :=
  (portByte s :: responseBytes s ++ List.replicate clocked 0).take clocked

/-- A response read (R180): the response goes when its last byte has been shifted out. -/
def readResponse (clocked : Nat) (s : State) : State :=
  let whole := 1 + (responseBytes s).length ≤ clocked
  s.setLpt { s.lpt with
    lsdo := readOut clocked s
    responseSlot := if whole then none else s.lpt.responseSlot }

/-- A poll: the port byte, and nothing changes (R178). -/
def pollPort (s : State) : State := s.setLpt { s.lpt with lsdo := [portByte s] }

/-- A transfer, whatever its bytes (R178): nothing before eight clocks; one whole byte is a poll; 0x7F begins a
response read; anything else is a request frame (log 12). -/
def laneTransfer (bytes : List Byte) (ragged : Bool) (s : State) : State :=
  match bytes with
  | [] => s
  | first :: rest =>
    if !laneLive s then s
    else if rest = [] ∧ !ragged then pollPort s
    else if first = 0x7F then finish (readResponse bytes.length s)
    else finish (laneTake bytes (judgeFrame bytes ragged) s)

/-! ## Rows -/

/-- CARD_PRESENT (R33). -/
def execCardPresent (body : List Byte) (s : State) : Host.Outcome State Fault Refusal :=
  .next (laneRequest reqCardPresent body s)

/-- WRITE_OUTCOME (R46). -/
def execWriteOutcome (body : List Byte) (s : State) : Host.Outcome State Fault Refusal :=
  .next (laneRequest reqWriteOutcome body s)

/-- LANE_HOLD (R24). -/
def execLaneHold (body : List Byte) (s : State) : Host.Outcome State Fault Refusal :=
  .next (laneRequest reqLaneHold body s)

/-- LANE_RELEASE (R24). -/
def execLaneRelease (body : List Byte) (s : State) : Host.Outcome State Fault Refusal :=
  .next (laneRequest reqLaneRelease body s)

/-- STAFF_PASS (R111). -/
def execStaffPass (body : List Byte) (s : State) : Host.Outcome State Fault Refusal :=
  .next (laneRequest reqStaffPass body s)

/-- CUE_TONE (R149). -/
def execCueTone (body : List Byte) (s : State) : Host.Outcome State Fault Refusal :=
  .next (laneRequest reqCueTone body s)

/-- RESPONSE_READ (R180). A further byte that LCS cuts short shifts out no whole byte. -/
def execResponseRead (clocked : Nat) (_ragged : Bool) (s : State) : Host.Outcome State Fault Refusal :=
  .next (if laneLive s && clocked != 0 then finish (readResponse clocked s) else s)

/-- PORT_POLL (R178). -/
def execPortPoll (_first : Byte) (s : State) : Host.Outcome State Fault Refusal :=
  .next (if laneLive s then pollPort s else s)

/-- LANE_FRAME_FAULT (R179): a transfer as its bytes are. -/
def execLaneFrameFault (bytes : List Byte) (ragged : Bool) (s : State) :
    Host.Outcome State Fault Refusal :=
  .next (laneTransfer bytes ragged s)

/-- LCS_SEEN_HIGH (R178). -/
def execLcsSeenHigh (s : State) : Host.Outcome State Fault Refusal :=
  .next (if s.powered then s.setLpt { s.lpt with ready := true } else s)

end Sys2Proof.Machine
end

