-- ==== Sys2Proof/Machine/StationLink.lean ====
section
/-! DEFINITION. The station link STL (R182 to R185, R195), the rows it takes, and the rows of both ports. -/

namespace Sys2Proof.Machine

/-- STL takes characters: VDD is present, the link is enabled and SDE is low (R182, R185; log 15). -/
def linkLive (s : State) : Bool := s.powered && s.stl.ownAddr != 0 && !s.stl.sde

/-- The class of an address character; none when the frame is for another (R183). -/
def classOf (s : State) (addr : Byte) : Option AddrClass :=
  if addr.toNat = s.stl.ownAddr.toNat then some .own
  else if addr = 255 then some .all
  else if addr.toNat = s.setup.group then some .group
  else none

/-- HUNTING with an empty buffer (R183; log 14). -/
def hunt (s : State) : State := s.setStl { s.stl with rx := .hunting, rxBuf := [] }

/-- An address character taken: a reply in turnaround abandoned, a frame in progress discarded, the address judged
(R183, R185). -/
def addressTaken (addr : Byte) (s : State) : State :=
  let t := s.setStl { s.stl with replyTurn := none, rxBuf := [] }
  t.setStl { t.stl with
    rx := match classOf s addr with
      | some cls => .receiving cls addr
      | none => .hunting }

/-! ## Replies (R185, R195) -/

/-- The bytes of a reply frame before its CRC: address 0, own address, kind, length, request source, result, data. -/
def replyHead (own : Byte) (kind src : Byte) (a : Answer) : List Byte :=
  0 :: own :: kind :: BitVec.ofNat 8 (a.data.length + 2) :: src :: a.result.code :: a.data

/-- A byte as a data character, and an address character. -/
def dataChar (b : Byte) : BitVec 9 := b.setWidth 9
def addrChar (b : Byte) : BitVec 9 := dataChar b ||| 0x100

/-- The characters of a reply frame: the first is an address character (R195). -/
def replyChars (own kind src : Byte) (a : Answer) : List (BitVec 9) :=
  match withCrc (replyHead own kind src a) with
  | [] => []
  | first :: rest => addrChar first :: rest.map dataChar

/-- The own address as a byte. -/
def State.ownByte (s : State) : Byte := s.stl.ownAddr.setWidth 8

/-- A reply placed in turnaround (R185). -/
def reply (kind src : Byte) (a : Answer) (s : State) : State :=
  s.setStl { s.stl with replyTurn := some (replyChars s.ownByte kind src a) }

/-! ## Frames (R184) -/

/-- The port a frame of a class arrives on. -/
def portOf : AddrClass → Port
  | .own => .own
  | .group => .broadcast
  | .all => .broadcast

/-- A refusal of STL itself: answered by own address, dropped for a broadcast (R184). -/
def linkRefuse (cls : AddrClass) (kind src : Byte) (r : Result) (s : State) : State :=
  match cls with
  | .own => reply kind src (refusal r) s
  | .group => s
  | .all => s

/-- Stages 3 and 4 and the owner, for a kind the link allows (R184). -/
def stationAct (cls : AddrClass) (src : Byte) (rq : Request) (body : List Byte) (s : State) : State :=
  if portOf cls = .broadcast ∧ !rq.broadcast then s
  else if !rq.lengthOk body.length then linkRefuse cls (rq.code + 0x80) src .badLength s
  else
    match portOf cls with
    | .broadcast => (rq.run .broadcast body s).1
    | p => reply (rq.code + 0x80) src (rq.run p body s).2 (rq.run p body s).1

/-- A complete frame judged by the four stages (R184). A refused kind of 0x80 or more plus 0x80 is taken modulo 256
(DEDUCED, unsafe, log 44). -/
def stationJudge (cls : AddrClass) (addr src kind : Byte) (body : List Byte) (crc : Word16) (s : State) :
    State :=
  if crc16 (addr :: src :: kind :: BitVec.ofNat 8 body.length :: body) ≠ crc then
    linkRefuse cls 0xFF src .checkError s
  else
    match stationKind kind with
    | some rq => stationAct cls src rq body s
    | none => linkRefuse cls (kind + 0x80) src .notPermitted s

/-- A whole frame arriving: its address character first; a frame of another address, or with a length above 240, is
discarded (R183; log 13, log 14). -/
def frameArrives (addr : Byte) (body : List Byte) (take : AddrClass → State → State) (s : State) : State :=
  if linkLive s then
    let t := hunt (addressTaken addr s)
    match classOf s addr with
    | some cls => if 240 < body.length then t else finish (take cls t)
    | none => t
  else s

/-- A whole, right request frame taken by the station link (log 10). -/
def stationRequest (rq : Request) (addr src : Byte) (body : List Byte) (s : State) : State :=
  frameArrives addr body (fun cls t => stationAct cls src rq body t) s

/-! ## Characters (R183) -/

/-- The characters the frame in the buffer has when it is complete, once its length is known. -/
def wholeLength (buf : List Byte) : Nat := (byteAt buf 2).toNat + 5

/-- The frame in the buffer taken (R184). -/
def bufferTaken (cls : AddrClass) (addr : Byte) (buf : List Byte) (s : State) : State :=
  let len := (byteAt buf 2).toNat
  stationJudge cls addr (byteAt buf 0) (byteAt buf 1) ((buf.drop 3).take len)
    (BitVec.ofNat 16 (field buf (3 + len) 2)) s

/-- A data character placed in the buffer (R183). -/
def dataTaken (cls : AddrClass) (addr data : Byte) (s : State) : State :=
  let buf := s.stl.rxBuf ++ [data]
  if buf.length = 3 ∧ 240 < data.toNat then hunt s
  else if 3 ≤ buf.length ∧ wholeLength buf ≤ buf.length then finish (bufferTaken cls addr buf (hunt s))
  else s.setStl { s.stl with rxBuf := buf }

/-- A character taken by STL (R183, R185; log 13). -/
def characterTaken (ninth : Bool) (data : Byte) (stop : Bool) (s : State) : State :=
  if !stop then hunt s
  else if ninth then addressTaken data s
  else
    match s.stl.rx with
    | .receiving cls addr => dataTaken cls addr data s
    | .hunting => s

/-! ## Rows of both ports (R186) -/

/-- A request of either port. -/
def viaRequest (rq : Request) (via : Via) (body : List Byte) (s : State) : State :=
  match via with
  | .lane => laneRequest rq body s
  | .station addr src => stationRequest rq addr src body s

/-- LANE_STATUS (R188). -/
def execLaneStatus (via : Via) (body : List Byte) (s : State) : Host.Outcome State Fault Refusal :=
  .next (viaRequest reqLaneStatus via body s)

/-- NOTICE_FETCH (R192). -/
def execNoticeFetch (via : Via) (body : List Byte) (s : State) : Host.Outcome State Fault Refusal :=
  .next (viaRequest reqNoticeFetch via body s)

/-- NOTICE_MASK (R191). -/
def execNoticeMask (via : Via) (body : List Byte) (s : State) : Host.Outcome State Fault Refusal :=
  .next (viaRequest reqNoticeMask via body s)

/-- LANE_RESTART (R189). -/
def execLaneRestart (via : Via) (body : List Byte) (s : State) : Host.Outcome State Fault Refusal :=
  .next (viaRequest reqLaneRestart via body s)

/-! ## Station rows -/

/-- STATION_POLL (R193). -/
def execStationPoll (addr src : Byte) (body : List Byte) (s : State) : Host.Outcome State Fault Refusal :=
  .next (stationRequest reqStationPoll addr src body s)

/-- JOURNAL_FETCH (R165). -/
def execJournalFetch (addr src : Byte) (body : List Byte) (s : State) : Host.Outcome State Fault Refusal :=
  .next (stationRequest reqJournalFetch addr src body s)

/-- JOURNAL_RELEASE (R166). -/
def execJournalRelease (addr src : Byte) (body : List Byte) (s : State) : Host.Outcome State Fault Refusal :=
  .next (stationRequest reqJournalRelease addr src body s)

/-- DENY_DELTA (R83). -/
def execDenyDelta (addr src : Byte) (body : List Byte) (s : State) : Host.Outcome State Fault Refusal :=
  .next (stationRequest reqDenyDelta addr src body s)

/-- DENY_WIPE (R86). -/
def execDenyWipe (addr src : Byte) (body : List Byte) (s : State) : Host.Outcome State Fault Refusal :=
  .next (stationRequest reqDenyWipe addr src body s)

/-- DENY_PROBE (R87). -/
def execDenyProbe (addr src : Byte) (body : List Byte) (s : State) : Host.Outcome State Fault Refusal :=
  .next (stationRequest reqDenyProbe addr src body s)

/-- SIGHTING (R99). -/
def execSighting (addr src : Byte) (body : List Byte) (s : State) : Host.Outcome State Fault Refusal :=
  .next (stationRequest reqSighting addr src body s)

/-- FARE_CHUNK (R59). -/
def execFareChunk (addr src : Byte) (body : List Byte) (s : State) : Host.Outcome State Fault Refusal :=
  .next (stationRequest reqFareChunk addr src body s)

/-- FARE_CLOSE (R60). -/
def execFareClose (addr src : Byte) (body : List Byte) (s : State) : Host.Outcome State Fault Refusal :=
  .next (stationRequest reqFareClose addr src body s)

/-- FARE_SWITCH (R63). -/
def execFareSwitch (addr src : Byte) (body : List Byte) (s : State) : Host.Outcome State Fault Refusal :=
  .next (stationRequest reqFareSwitch addr src body s)

/-- CLOCK_SET (R20). -/
def execClockSet (addr src : Byte) (body : List Byte) (s : State) : Host.Outcome State Fault Refusal :=
  .next (stationRequest reqClockSet addr src body s)

/-- KEY_LOAD (R9). -/
def execKeyLoad (addr src : Byte) (body : List Byte) (s : State) : Host.Outcome State Fault Refusal :=
  .next (stationRequest reqKeyLoad addr src body s)

/-- LANE_MODE (R23). -/
def execLaneMode (addr src : Byte) (body : List Byte) (s : State) : Host.Outcome State Fault Refusal :=
  .next (stationRequest reqLaneMode addr src body s)

/-- LANE_SETUP (R187). -/
def execLaneSetup (addr src : Byte) (body : List Byte) (s : State) : Host.Outcome State Fault Refusal :=
  .next (stationRequest reqLaneSetup addr src body s)

/-- AUDIT_SETUP (R169). -/
def execAuditSetup (addr src : Byte) (body : List Byte) (s : State) : Host.Outcome State Fault Refusal :=
  .next (stationRequest reqAuditSetup addr src body s)

/-- AUDIT_READ (R175). -/
def execAuditRead (addr src : Byte) (body : List Byte) (s : State) : Host.Outcome State Fault Refusal :=
  .next (stationRequest reqAuditRead addr src body s)

/-- AUDIT_RELEASE (R176). -/
def execAuditRelease (addr src : Byte) (body : List Byte) (s : State) : Host.Outcome State Fault Refusal :=
  .next (stationRequest reqAuditRelease addr src body s)

/-- AUDIT_TAG (R171). -/
def execAuditTag (addr src : Byte) (body : List Byte) (s : State) : Host.Outcome State Fault Refusal :=
  .next (stationRequest reqAuditTag addr src body s)

/-- STATION_FRAME_FAULT (R184): a complete frame as it is. -/
def execStationFrameFault (addr src kind : Byte) (body : List Byte) (crc : Word16) (s : State) :
    Host.Outcome State Fault Refusal :=
  .next (frameArrives addr body (fun cls t => stationJudge cls addr src kind body crc t) s)

/-- FRAME_GAP_TIMEOUT (R183). -/
def execFrameGapTimeout (s : State) : Host.Outcome State Fault Refusal :=
  .next (if linkLive s then hunt s else s)

/-- STATION_REPLY (R185). -/
def execStationReply (s : State) : Host.Outcome State Fault Refusal :=
  .next (match s.powered, s.stl.replyTurn with
    | true, some chars => s.setStl { s.stl with replyTurn := none, sde := true, tx := chars }
    | _, _ => s)

/-- STATION_CHARACTER (R183). -/
def execStationCharacter (ninth : Bool) (data : Byte) (stop : Bool) (s : State) :
    Host.Outcome State Fault Refusal :=
  .next (if linkLive s then characterTaken ninth data stop s else s)

/-- REPLY_END (R185). -/
def execReplyEnd (s : State) : Host.Outcome State Fault Refusal :=
  .next (if s.powered then s.setStl { s.stl with sde := false, tx := [] } else s)

/-! ## Starts and supplies -/

/-- COLD_START (R194). -/
def execColdStart (addr : BitVec 6) (rate : BitVec 2) (s : State) : Host.Outcome State Fault Refusal :=
  .next (coldStarted addr rate s)

/-- WARM_START (R194). -/
def execWarmStart (addr : BitVec 6) (rate : BitVec 2) (s : State) : Host.Outcome State Fault Refusal :=
  .next (warmStarted addr rate s)

/-- VDD_LOSS (R17). -/
def execVddLoss (s : State) : Host.Outcome State Fault Refusal := .next (vddLost s)

end Sys2Proof.Machine
end

