-- ==== Sys2Proof/Machine/Dispatch.lean ====
section
/-! DEFINITION. The dispatch: one arm per command. -/

namespace Sys2Proof.Machine

def exec (i : Instr) (s : State) : Host.Outcome State Fault Refusal :=
  match i with
  | .coldStart addr rate => Sys2Proof.Machine.execColdStart addr rate s
  | .warmStart addr rate => Sys2Proof.Machine.execWarmStart addr rate s
  | .cardPresent body => Sys2Proof.Machine.execCardPresent body s
  | .writeOutcome body => Sys2Proof.Machine.execWriteOutcome body s
  | .writeWaitUnderflow side => Sys2Proof.Machine.execWriteWaitUnderflow side s
  | .laneHold body => Sys2Proof.Machine.execLaneHold body s
  | .laneRelease body => Sys2Proof.Machine.execLaneRelease body s
  | .staffPass body => Sys2Proof.Machine.execStaffPass body s
  | .cueTone body => Sys2Proof.Machine.execCueTone body s
  | .laneStatus via body => Sys2Proof.Machine.execLaneStatus via body s
  | .noticeFetch via body => Sys2Proof.Machine.execNoticeFetch via body s
  | .noticeMask via body => Sys2Proof.Machine.execNoticeMask via body s
  | .laneRestart via body => Sys2Proof.Machine.execLaneRestart via body s
  | .responseRead clocked ragged => Sys2Proof.Machine.execResponseRead clocked ragged s
  | .portPoll first => Sys2Proof.Machine.execPortPoll first s
  | .laneFrameFault bytes ragged => Sys2Proof.Machine.execLaneFrameFault bytes ragged s
  | .stationPoll addr src body => Sys2Proof.Machine.execStationPoll addr src body s
  | .journalFetch addr src body => Sys2Proof.Machine.execJournalFetch addr src body s
  | .journalRelease addr src body => Sys2Proof.Machine.execJournalRelease addr src body s
  | .denyDelta addr src body => Sys2Proof.Machine.execDenyDelta addr src body s
  | .denyWipe addr src body => Sys2Proof.Machine.execDenyWipe addr src body s
  | .denyProbe addr src body => Sys2Proof.Machine.execDenyProbe addr src body s
  | .sighting addr src body => Sys2Proof.Machine.execSighting addr src body s
  | .fareChunk addr src body => Sys2Proof.Machine.execFareChunk addr src body s
  | .fareClose addr src body => Sys2Proof.Machine.execFareClose addr src body s
  | .fareSwitch addr src body => Sys2Proof.Machine.execFareSwitch addr src body s
  | .timedFareSwitch => Sys2Proof.Machine.execTimedFareSwitch s
  | .clockSet addr src body => Sys2Proof.Machine.execClockSet addr src body s
  | .keyLoad addr src body => Sys2Proof.Machine.execKeyLoad addr src body s
  | .laneMode addr src body => Sys2Proof.Machine.execLaneMode addr src body s
  | .laneSetup addr src body => Sys2Proof.Machine.execLaneSetup addr src body s
  | .auditSetup addr src body => Sys2Proof.Machine.execAuditSetup addr src body s
  | .auditRead addr src body => Sys2Proof.Machine.execAuditRead addr src body s
  | .auditRelease addr src body => Sys2Proof.Machine.execAuditRelease addr src body s
  | .auditTag addr src body => Sys2Proof.Machine.execAuditTag addr src body s
  | .stationFrameFault addr src kind body crc => Sys2Proof.Machine.execStationFrameFault addr src kind body crc s
  | .frameGapTimeout => Sys2Proof.Machine.execFrameGapTimeout s
  | .stationReply => Sys2Proof.Machine.execStationReply s
  | .second => Sys2Proof.Machine.execSecond s
  | .markExpiry => Sys2Proof.Machine.execMarkExpiry s
  | .tearDeadline => Sys2Proof.Machine.execTearDeadline s
  | .emergChange asserted => Sys2Proof.Machine.execEmergChange asserted s
  | .beamChange beam blocked => Sys2Proof.Machine.execBeamChange beam blocked s
  | .switchChange leaf sw made => Sys2Proof.Machine.execSwitchChange leaf sw made s
  | .currentSample value => Sys2Proof.Machine.execCurrentSample value s
  | .passageWarning dir => Sys2Proof.Machine.execPassageWarning dir s
  | .creditExpiry dir => Sys2Proof.Machine.execCreditExpiry dir s
  | .leafHoldUnderflow => Sys2Proof.Machine.execLeafHoldUnderflow s
  | .leafMoveUnderflow => Sys2Proof.Machine.execLeafMoveUnderflow s
  | .occupancyUnderflow => Sys2Proof.Machine.execOccupancyUnderflow s
  | .signalCompare => Sys2Proof.Machine.execSignalCompare s
  | .signalUnderflow => Sys2Proof.Machine.execSignalUnderflow s
  | .refusalFlashLapse side => Sys2Proof.Machine.execRefusalFlashLapse side s
  | .tick => Sys2Proof.Machine.execTick s
  | .stationCharacter ninth data stop => Sys2Proof.Machine.execStationCharacter ninth data stop s
  | .replyEnd => Sys2Proof.Machine.execReplyEnd s
  | .lcsSeenHigh => Sys2Proof.Machine.execLcsSeenHigh s
  | .vddLoss => Sys2Proof.Machine.execVddLoss s

end Sys2Proof.Machine
end

