-- ==== Sys2Proof/Machine/Step.lean ====
section
/-! DEFINITION. One step: the command at the front of the queue, or a sense tick on an empty queue (log 1, log 40). -/

namespace Sys2Proof.Machine

/-- The command at the front of the queue is taken and executed with the queue's rest. On an empty queue a sense tick
passes while VDD is present (R121), and nothing happens while it is absent (DESIGN CHOICE, log 1, log 40). -/
def step (s : State) : Host.Outcome State Fault Refusal :=
  match s.pending with
  | [] => .next (if s.powered then senseTick s else s)
  | c :: rest => exec c (s.setPending rest)

/-- The command a word spells, put at the front of the queue; `s` where the word spells none. -/
def State.withFetchWord (s : State) (nbits w : Nat) : State :=
  match decodeTableWord nbits w with
  | some c => s.setPending (c :: s.pending)
  | none => s

end Sys2Proof.Machine
end

