-- ==== Sys2Proof/Safety.lean ====
section
/-! DEFINITION. What counts as a safe state and a safe run of the part, in the terms the claims use. -/

namespace Sys2Proof.Machine

/-! ## The journal (R154, R155, R158, R159, R161) -/

/-- The sequences of a run of entries end just below the next sequence and rise by 1 (R154, R155). -/
def endsAt (next : Word32) : List Entry → Prop
  | [] => True
  | e :: rest => e.seq = next - BitVec.ofNat 32 (rest.length + 1) ∧ endsAt next rest

/-- The uncollected entries form one run in sequence order, up to the newest (R154). -/
def State.journalRun (s : State) : Prop := endsAt s.rjn.nextSeq s.rjn.journal

/-- Uncollected and reserved places fit in the 4,096 of the journal (R158). -/
def State.spaceFits (s : State) : Prop := s.rjn.journal.length + s.rjn.reserved ≤ 4096

/-- LOW and STOP stand exactly as the free count says, and JOURNAL_STOP with STOP (R161). -/
def State.spaceJudged (s : State) : Prop :=
  s.rjn.low = decide (s.free < 256) ∧ s.rjn.stop = decide (s.free < 64)
    ∧ s.svc.reasons.journalStop = s.rjn.stop

/-- What a slot holds of the journal (R159). -/
def slotHeld : Option Slot → Nat
  | some _ => slotReservations
  | none => 0

/-- The reservations held by the slots, the credits and the pending-tears (R159). -/
def State.held (s : State) : Nat :=
  slotHeld s.txu.slotU + slotHeld s.txu.slotP
    + creditReservations * (s.pcu.queueUp.length + s.pcu.queuePu.length)
    + tearReservations * s.tears.length

/-- The reserved counter is the sum of what its holders hold (R159). -/
def State.reservedHeld (s : State) : Prop := s.rjn.reserved = s.held

/-! ## Slots, queues and the sighting table (R32, R36, R52, R89, R108) -/

/-- A queue and its slot's claim hold at most 4 places (R32, R108). -/
def State.queuesFit (s : State) : Prop :=
  ∀ d, (s.queue d).length + (s.claim d).toNat ≤ 4

/-- The two slots never hold one card (R36). -/
def State.slotsApart (s : State) : Prop :=
  ∀ a b, s.txu.slotU = some a → s.txu.slotP = some b → a.card ≠ b.card

/-- No card stands in two sighting entries, and the table holds at most 512 (R89). -/
def State.sightingsKeyed (s : State) : Prop :=
  (s.scu.sightings.map Sighting.card).Nodup ∧ s.scu.sightings.length ≤ 512

/-- A card in a slot has a sighting entry with its in-flight record and without a pending-tear (R36, R52, R89). -/
def State.slotSeen (s : State) : Prop :=
  ∀ x sl, s.slot x = some sl →
    ∃ e, s.sighting sl.card = some e ∧ e.inFlight.isSome ∧ e.tear = none

/-- At most 32 pending-tears stand (R52). -/
def State.tearsFit (s : State) : Prop := s.tears.length ≤ 32

/-- Every in-flight record belongs to a slot that awaits the write of its card (R89, R90). -/
def State.flightsOwned (s : State) : Prop :=
  ∀ e ∈ s.scu.sightings, e.inFlight.isSome → ∃ x sl, s.slot x = some sl ∧ sl.card = e.card

/-- The order of the marks names each card that holds one, once, and at most 8 stand (R90, R94). -/
def State.marksListed (s : State) : Prop :=
  s.scu.markOrder.Nodup ∧ s.scu.markOrder.length ≤ 8
    ∧ ∀ c, c ∈ s.scu.markOrder ↔ ∃ e ∈ s.scu.sightings, e.card = c ∧ e.mark.isSome

/-- A slot's tag. -/
def slotTag : Option Slot → Nat
  | some sl => sl.audit.toNat
  | none => 0

/-- The tags that stand on slots and credits (R171). -/
def State.tags (s : State) : Nat :=
  slotTag s.txu.slotU + slotTag s.txu.slotP + ((s.pcu.queueUp ++ s.pcu.queuePu).filter Credit.audit).length

/-- The sampler holds a sample: TRACKING, CLOSING or VALID (R168). -/
def AuditState.holdsSample : AuditState → Bool
  | .idle => false
  | .armed _ => false
  | .tracking => true
  | .closing => true
  | .valid => true

/-- One tag is outstanding in TRACKING and none in any other state; a tagged slot holds an ACCEPT; a sample stands in
TRACKING, CLOSING and VALID alone (R168, R170, R171). -/
def State.tagKept (s : State) : Prop :=
  s.tags = (if s.ads.phase = .tracking then 1 else 0) ∧ s.ads.sample.isSome = s.ads.phase.holdsSample
    ∧ ∀ x sl, s.slot x = some sl → sl.audit = true → sl.kind = .accept

/-- The books of the lane: every journal place is accounted for, every reservation and every tag has its holder, and the
records that hold them keep their bounds (R32, R36, R52, R89, R90, R108, R158, R159, R161, R168). -/
def State.books (s : State) : Prop :=
  s.spaceFits ∧ s.spaceJudged ∧ s.reservedHeld ∧ s.queuesFit ∧ s.slotsApart ∧ s.sightingsKeyed ∧ s.slotSeen
    ∧ s.flightsOwned ∧ s.tearsFit ∧ s.marksListed ∧ s.tagKept

/-! ## Fare banks and readiness (R28, R57, R61 to R64) -/

/-- A bank: 704 bytes; when VALID its fields are in range and it keeps its maxima; when INVALID it keeps none. -/
def Bank.ok (b : Bank) : Prop :=
  b.buffer.length = 704 ∧ (b.valid = true → fieldFault b.buffer = none ∧ b.maxima = some (maximaOf b.buffer))
    ∧ (b.valid = false → b.maxima = none)

/-- Both banks are so, and a pending switch has a VALID STANDBY bank behind it (R64). -/
def State.banksOk (s : State) : Prop :=
  s.fru.bankA.ok ∧ s.fru.bankB.ok ∧ (s.fru.pendingSwitch.isSome → s.standbyBank.valid = true)

/-- The set of out-of-service reasons is what the conditions of R28 give. -/
def State.reasonsTold (s : State) : Prop :=
  s.svc.reasons =
    { noKey := s.rck.current.isNone, noFare := !s.activeBank.valid, noTime := !s.svc.timeKnown
      noSetup := s.setup.stationCode == 0, journalStop := s.rjn.stop
      leafFault := s.lfc.leaf == .fault, laneHold := s.svc.laneHold
      modeClosed := s.effMode == .closed }

/-- What readiness rests on. -/
def State.readinessOk (s : State) : Prop := s.reasonsTold ∧ s.spaceJudged ∧ s.banksOk

/-! ## The deny list (R81) -/

/-- The list in ascending order of base and then width, so that no two entries have the same of both. -/
def denySorted : List DenyEntry → Prop
  | [] => True
  | e :: rest => (∀ x ∈ rest, e.before x = true) ∧ denySorted rest

/-- At most 2,048 entries, in order, each base aligned to its width (R81). -/
def State.denyListed (s : State) : Prop :=
  s.scu.deny.length ≤ 2048 ∧ denySorted s.scu.deny
    ∧ ∀ e ∈ s.scu.deny, e.width ≤ 16 ∧ e.base % 2 ^ e.width = 0

/-- The LOCAL add order names each LOCAL entry once, and every LOCAL entry has width 0 and reason LOCAL_CLONE
(R81, R88). -/
def State.localsListed (s : State) : Prop :=
  s.scu.denyLocal.Nodup
    ∧ (∀ e ∈ s.scu.deny, e.origin = .localOrigin → e.width = 0 ∧ e.reason = .localClone)
    ∧ ∀ b, b ∈ s.scu.denyLocal ↔ ∃ e ∈ s.scu.deny, e.base = b ∧ e.width = 0 ∧ e.origin = .localOrigin

/-- The deny list as R81 and R88 keep it. -/
def State.denyOk (s : State) : Prop := s.denyListed ∧ s.localsListed

/-! ## Outputs and channels (R104, R150 to R152, R181) -/

/-- The four lamps are what their inputs give (R150, R151, R152). -/
def State.lampsFormed (s : State) : Prop :=
  s.sgu.lampUG = greenLamp s .u ∧ s.sgu.lampPG = greenLamp s .p ∧ s.sgu.lampUR = redLamp s .u
    ∧ s.sgu.lampPR = redLamp s .p

/-- ATTN is what its inputs give (R181). -/
def State.attnFormed (s : State) : Prop := s.lpt.attn = attnLevel s

/-- Between events the outputs stand as formed, and no change of the reason set waits for its notice (R29). -/
def State.formed (s : State) : Prop :=
  s.lampsFormed ∧ s.attnFormed ∧ s.svc.serviceTouched = false

/-- A channel's count is within its reload, its compare below it, and a stopped channel has count 0 (R103). -/
def Channel.ok (c : Channel) : Prop :=
  c.count ≤ c.reload ∧ (c.reload = 0 ∨ c.compare < c.reload) ∧ (c.state = .stopped → c.count = 0)
    ∧ (c.state ≠ .stopped → 0 < c.count)

/-- Every channel is so. -/
def State.channelsOk (s : State) : Prop := ∀ i, (s.chan i).ok

/-- The setup record as a LANE SETUP stores it (R107, R122, R187). -/
def Setup.ok (x : Setup) : Prop :=
  x.zone ≤ 15 ∧ (64 ≤ x.group ∧ x.group ≤ 254) ∧ (2 ≤ x.window ∧ x.window ≤ 30) ∧ x.warning ≤ x.window
    ∧ (16 ≤ x.leafHold ∧ x.leafHold ≤ 192) ∧ (32 ≤ x.writeTimeout ∧ x.writeTimeout ≤ 320)
    ∧ (10 ≤ x.occupancy ∧ x.occupancy ≤ 120)
    ∧ (4 ≤ x.beamWidth ∧ x.beamWidth ≤ 120 ∧ x.beamWidth % 4 = 0) ∧ x.threshold ≤ 1023
    ∧ (1 ≤ x.reopenGrace ∧ x.reopenGrace ≤ 30) ∧ (5 ≤ x.tearHold ∧ x.tearHold ≤ 120)

/-- The divider and the day clock in their ranges; an unknown time reads 0 and 0 (R17, R19). -/
def State.clockOk (s : State) : Prop :=
  s.svc.phase < 64 ∧ s.svc.secs ≤ 86399 ∧ s.svc.day ≤ 65534
    ∧ (s.svc.timeKnown = false → s.svc.day = 0 ∧ s.svc.secs = 0)

/-- An episode is open while a beam is blocked (R123, R124). -/
def State.trackerOk (s : State) : Prop := s.pcu.episode = s.anyBeam

/-- Every filter's count is below the length of the widest filter, 30 sense ticks (R121, R122). -/
def State.filtersOk (s : State) : Prop := ∀ i, (s.inp.of i).count < 30

/-- The settings, the channels, the clock, the tracker and the filters. -/
def State.timesOk (s : State) : Prop :=
  s.setup.ok ∧ s.channelsOk ∧ s.clockOk ∧ s.trackerOk ∧ s.filtersOk

/-! ## The leaves (R128 to R130, R138, R139, R144) -/

/-- The grant direction stands only with the states R128 gives it: D in OPENING(D) and OPEN(D), D or none in
CLOSING, none in every other state. -/
def State.grantOk (s : State) : Prop :=
  match s.lfc.leaf with
  | .opening d => s.lfc.grant = some d
  | .opened d => s.lfc.grant = some d
  | .closing => True
  | .closed => s.lfc.grant = none
  | .forced => s.lfc.grant = none
  | .fault => s.lfc.grant = none
  | .freeOpen => s.lfc.grant = none

/-- The reversal count is 0..3, and 3 only in FAULT (R128, R138, R139). -/
def State.reversalsOk (s : State) : Prop :=
  s.lfc.reversalCount ≤ 3 ∧ (s.lfc.reversalCount = 3 → s.lfc.leaf = .fault)

/-- The reversal flag stands in OPENING and OPEN alone, the paused flag in a CLOSING without a grant
(R128, R139; log 25). -/
def State.flagsOk (s : State) : Prop :=
  (s.lfc.reversal = true → ∃ d, s.lfc.leaf.towards d = true)
    ∧ (s.lfc.paused = true → s.lfc.leaf = .closing ∧ s.lfc.grant = none)

/-- Until every switch is taken the leaves are CLOSING without a grant or in FAULT (R144). -/
def State.untakenOk (s : State) : Prop :=
  s.lfc.allTaken = false → (s.lfc.leaf = .closing ∧ s.lfc.grant = none) ∨ s.lfc.leaf = .fault

/-- Both drives are among some. -/
def Lfc.drivesIn (l : Lfc) (ds : List Drive) : Prop := l.driveL ∈ ds ∧ l.driveR ∈ ds

/-- The drives as the table of R129 gives them, RELEASED while a switch is untaken (R144). -/
def State.drivesOk (s : State) : Prop :=
  match s.lfc.leaf with
  | .opening d => s.lfc.drivesIn [openSwing d, .brake]
  | .freeOpen => s.lfc.drivesIn [.swingU, .brake]
  | .closing =>
    if s.lfc.allTaken = false then s.lfc.drivesIn [.released]
    else if s.lfc.paused = true then s.lfc.drivesIn [.released, .brake]
    else s.lfc.drivesIn [closeSwing s.lfc.openSide, .brake]
  | .closed => s.lfc.drivesIn [.brake]
  | .opened _ => s.lfc.drivesIn [.brake]
  | .forced => s.lfc.drivesIn [.brake]
  | .fault => s.lfc.drivesIn [.released]

/-- The law of R129: the leaves open toward D only while D holds a credit or a close is being reversed, and stand in
FREE_OPEN only while the effective mode is FREE (R142). -/
def State.openCause (s : State) : Prop :=
  (∀ d, s.lfc.leaf = .opening d → s.queue d ≠ [] ∨ s.lfc.reversal = true)
    ∧ (s.lfc.leaf = .freeOpen → s.effMode = .free)

/-- The leaf pair record as R128 to R144 keep it. -/
def State.leavesOk (s : State) : Prop :=
  s.grantOk ∧ s.reversalsOk ∧ s.flagsOk ∧ s.untakenOk ∧ s.drivesOk ∧ s.openCause

/-! ## Words of the statements: parts kept, ports -/

/-- The parts of the state. -/
inductive Part where
  | powered
  | pending
  | lpt
  | stl
  | setup
  | rck
  | svc
  | txu
  | fru
  | scu
  | ltu
  | pcu
  | lfc
  | sgu
  | rjn
  | ads
  | inp
  deriving DecidableEq, Repr

/-- A part of two states is the same. -/
def Part.same (s t : State) : Part → Prop
  | .powered => t.powered = s.powered
  | .pending => t.pending = s.pending
  | .lpt => t.lpt = s.lpt
  | .stl => t.stl = s.stl
  | .setup => t.setup = s.setup
  | .rck => t.rck = s.rck
  | .svc => t.svc = s.svc
  | .txu => t.txu = s.txu
  | .fru => t.fru = s.fru
  | .scu => t.scu = s.scu
  | .ltu => t.ltu = s.ltu
  | .pcu => t.pcu = s.pcu
  | .lfc => t.lfc = s.lfc
  | .sgu => t.sgu = s.sgu
  | .rjn => t.rjn = s.rjn
  | .ads => t.ads = s.ads
  | .inp => t.inp = s.inp

/-- Every part outside some is unchanged: the frame of an event. -/
def keepsBut (ps : List Part) (s t : State) : Prop := ∀ p, p ∉ ps → Part.same s t p

/-- The filters after a change event of one input: its pin at the level, its count 0 (R121; log 40). -/
def State.pinned (s : State) (i : Input) (v : Bool) : Inputs := s.inp.put i { raw := v, count := 0 }

/-- A signal record with the lamps a state gives (R150, R151). -/
def State.lampsOn (t : State) (g : Sgu) : Sgu :=
  { g with
    lampUG := greenLamp t .u, lampUR := redLamp t .u, lampPG := greenLamp t .p
    lampPR := redLamp t .p }

/-- A lane port record with the ATTN level a state gives (R181). -/
def State.attnOn (t : State) (p : Lpt) : Lpt := { p with attn := attnLevel t }

/-- A notice set after an event between two states: SERVICE_CHANGED raised when the reason set differs (R29). -/
def toldOf (s t : State) (ns : List Notice) : List Notice :=
  if t.svc.reasons = s.svc.reasons then ns else raiseIn .serviceChanged ns

/-- A cause of a set raised once between two sets, whatever else was raised (R190). -/
def raisedOnce (c : Cause) (before after : List Notice) : Prop :=
  (after.filter fun n => n.cause == c) = (before.filter fun n => n.cause == c).map Notice.raised

/-- The first entry an event writes: `e` with the next sequence, after the standing entries (R155). -/
def firstEntry (e : Entry) (s t : State) : Prop :=
  ∃ es, t.rjn.journal = s.rjn.journal ++ { e with seq := s.rjn.nextSeq } :: es

/-- The one entry an event writes. -/
def onlyEntry (e : Entry) (s t : State) : Prop :=
  t.rjn.journal = s.rjn.journal ++ [{ e with seq := s.rjn.nextSeq }]

/-- The leaves have entered FAULT with a cause, from a leaf number and a reversal count (R141). -/
def enteredFault (cause : Reason) (leaf count : Nat) (s t : State) : Prop :=
  t.lfc.leaf = .fault ∧ t.lfc.grant = none ∧ t.lfc.driveL = .released ∧ t.lfc.driveR = .released
    ∧ t.lfc.reversalCount = count ∧ t.lfc.openSide = s.lfc.openSide
    ∧ (t.chan .leafMove).state = .stopped ∧ (t.chan .leafHold).state = .stopped
    ∧ t.queue .u = [] ∧ t.queue .p = [] ∧ t.pcu.freePeriod.isOpen = true
    ∧ t.svc.reasons.leafFault = true ∧ t.sgu.tone = some .alarm
    ∧ raisedOnce .leafFault s.lpt.notices t.lpt.notices ∧ raisedOnce .leafFault s.stl.notices t.stl.notices
    ∧ (0 < s.free → firstEntry { s.entry .leafFault cause s.lfc.grant with extra := leaf * 65536 + count } s t)

/-- The parts a movement of the leaves, a passage or a cancellation can change. -/
def leafParts : List Part := [.lfc, .ltu, .sgu, .rjn, .svc, .lpt, .stl, .pcu, .scu, .ads]

/-- The lane port takes requests and no response waits (R178, R179). -/
def State.laneOpen (s : State) : Prop := laneLive s = true ∧ s.lpt.responseSlot = none

/-- A lane port record after a request frame with its response (R178, R179, R195). -/
def State.laneTaken (s : State) (code : Byte) (body : List Byte) (a : Answer) (p : Lpt) : Lpt :=
  { p with
    requestSlot := laneFrame code body
    requestCount := body.length + 4
    lsdo := portByte s :: List.replicate (body.length + 3) 0
    responseSlot := some { kind := code + 0x80, body := a.result.code :: a.data, overrun := false } }

/-- The station link hands a frame of a kind at an address to its owner: its own address, or a broadcast the kind
allows (R183, R184). -/
def State.hears (s : State) (rq : Request) (addr : Byte) : Prop :=
  linkLive s = true ∧ (classOf s addr = some .own ∨ (rq.broadcast = true ∧ (classOf s addr).isSome = true))

/-- A station link record after a frame: HUNTING, and a reply in turnaround for the own address alone (R183 to
R185). -/
def State.linkTaken (s : State) (rq : Request) (addr src : Byte) (a : Answer) (x : Stl) : Stl :=
  { x with
    rx := .hunting, rxBuf := []
    replyTurn :=
      if classOf s addr = some .own then some (replyChars s.ownByte (rq.code + 0x80) src a) else none }

/-- A request of either port can be taken. -/
def State.hearsVia (s : State) (rq : Request) : Via → Prop
  | .lane => s.laneOpen
  | .station addr _ => s.hears rq addr

/-- The lane port record after a request of either port. -/
def State.lptVia (s : State) (rq : Request) (body : List Byte) (a : Answer) (p : Lpt) : Via → Lpt
  | .lane => s.laneTaken rq.code body a p
  | .station _ _ => p

/-- The station link record after a request of either port. -/
def State.stlVia (s : State) (rq : Request) (a : Answer) (x : Stl) : Via → Stl
  | .lane => x
  | .station addr src => s.linkTaken rq addr src a x

/-- The notice set of the port a request came by (R190). -/
def State.noticesVia (s : State) : Via → List Notice
  | .lane => s.lpt.notices
  | .station _ _ => s.stl.notices

/-- A lane request row: its kind and its body. -/
def laneForm : Instr → Option (Request × List Byte)
  | .cardPresent b => some (reqCardPresent, b)
  | .writeOutcome b => some (reqWriteOutcome, b)
  | .laneHold b => some (reqLaneHold, b)
  | .laneRelease b => some (reqLaneRelease, b)
  | .staffPass b => some (reqStaffPass, b)
  | .cueTone b => some (reqCueTone, b)
  | .laneStatus .lane b => some (reqLaneStatus, b)
  | .noticeFetch .lane b => some (reqNoticeFetch, b)
  | .noticeMask .lane b => some (reqNoticeMask, b)
  | .laneRestart .lane b => some (reqLaneRestart, b)
  | _ => none

/-- The frame of a station request row. -/
structure LinkFrame where
  request : Request
  addr : Byte
  src : Byte
  body : List Byte

/-- A station request row as a frame. -/
def linkForm : Instr → Option LinkFrame
  | .laneStatus (.station a c) b => some ⟨reqLaneStatus, a, c, b⟩
  | .noticeFetch (.station a c) b => some ⟨reqNoticeFetch, a, c, b⟩
  | .noticeMask (.station a c) b => some ⟨reqNoticeMask, a, c, b⟩
  | .laneRestart (.station a c) b => some ⟨reqLaneRestart, a, c, b⟩
  | .stationPoll a c b => some ⟨reqStationPoll, a, c, b⟩
  | .journalFetch a c b => some ⟨reqJournalFetch, a, c, b⟩
  | .journalRelease a c b => some ⟨reqJournalRelease, a, c, b⟩
  | .denyDelta a c b => some ⟨reqDenyDelta, a, c, b⟩
  | .denyWipe a c b => some ⟨reqDenyWipe, a, c, b⟩
  | .denyProbe a c b => some ⟨reqDenyProbe, a, c, b⟩
  | .sighting a c b => some ⟨reqSighting, a, c, b⟩
  | .fareChunk a c b => some ⟨reqFareChunk, a, c, b⟩
  | .fareClose a c b => some ⟨reqFareClose, a, c, b⟩
  | .fareSwitch a c b => some ⟨reqFareSwitch, a, c, b⟩
  | .clockSet a c b => some ⟨reqClockSet, a, c, b⟩
  | .keyLoad a c b => some ⟨reqKeyLoad, a, c, b⟩
  | .laneMode a c b => some ⟨reqLaneMode, a, c, b⟩
  | .laneSetup a c b => some ⟨reqLaneSetup, a, c, b⟩
  | .auditSetup a c b => some ⟨reqAuditSetup, a, c, b⟩
  | .auditRead a c b => some ⟨reqAuditRead, a, c, b⟩
  | .auditRelease a c b => some ⟨reqAuditRelease, a, c, b⟩
  | .auditTag a c b => some ⟨reqAuditTag, a, c, b⟩
  | _ => none

/-! ## Presentations (R33 to R41) -/

/-- A verdict in the response slot (R41, R186). -/
def verdictBytes (k r : Byte) (charge : Nat) (balance : Int) (cue : Bool) (image : List Byte) : List Byte :=
  [k, r] ++ toBE 2 charge ++ toBE32s balance ++ [boolByte cue] ++ image

/-- The lane stands ready for a presentation at a side: step 1 passes (R34). -/
def Presentable (s : State) (x : Side) : Prop :=
  s.laneOpen ∧ s.formed ∧ s.books ∧ s.readinessOk ∧ s.effMode ≠ .free ∧ s.svc.reasons.empty = true
    ∧ s.permits x = true ∧ s.slot x = none ∧ (s.queue x).length < 4

/-- The image passes the form check and the record check: steps 2 and 3 (R3, R7, R35). -/
def Readable (s : State) (image : List Byte) : Prop :=
  image.length = 48 ∧ formFault (readCard image) = none ∧ recordPasses s image = true

/-- The image is sound, is not BLOCKED and names a card that the other slot does not hold: steps 2 to 5 pass (R33 to
R36). -/
def Sound (s : State) (x : Side) (image : List Byte) : Prop :=
  Readable s image ∧ (readCard image).flags.getLsbD 1 = false
    ∧ ∀ sl, s.slot (Side.other x) = some sl → sl.card ≠ (readCard image).number

/-- A presented sequence and tag are consistent with an entry without a pending-tear (R92). -/
def Consistent (c : Card) (e : Sighting) : Prop :=
  (c.seq = e.seq ∧ c.tag = e.tag) ∨ seqOrder c.seq e.seq = .ahead

/-- The image is sound, and its card has no sighting entry or a consistent one without a pending-tear or a mark: steps 2
to 6 pass (R33 to R37). -/
def Screened (s : State) (x : Side) (image : List Byte) : Prop :=
  Sound s x image ∧ ∀ e, s.sighting (readCard image).number = some e →
    e.tear = none ∧ e.mark = none ∧ Consistent (readCard image) e

/-- No deny entry covers a card (R82). -/
def State.allows (s : State) (c : Card) : Prop :=
  ∀ e ∈ s.scu.deny, ¬(e.base ≤ c.number ∧ c.number < e.base + 2 ^ e.width)

/-- What the rows of R54 settle for a presented sequence and tag: WRITTEN, NOT_WRITTEN, or none at rows 6 and 7. -/
def tearVerdict (r : Tear) (q t : Word16) : Option Bool :=
  if q = r.oldSeq ∧ t = r.oldTag then some false
  else if q = r.newSeq then some (t == r.newTag)
  else if seqOrder q r.newSeq = .ahead then some true
  else none

/-- The TEAR_RESOLVED entry of a presentation's resolution (R55); its side is log 19's. -/
def State.resolution (s : State) (card : Nat) (r : Tear) (written : Bool) : Entry :=
  { s.entry .tearResolved (if written then .written else .notWritten) (some r.side) with
    card := card, amount := if written then r.charge else 0, balance := if written then r.newBalance else 0
    cardSeq := r.newSeq, tag := r.newTag, extra := r.tearSeq.toNat }

/-- An entry of a presentation at a side, with the presented card, balance, sequence and tag (R39). -/
def State.shows (s : State) (x : Side) (c : Card) (k : EntryKind) (r : Reason) : Entry :=
  { s.entry k r (some x) with card := c.number, balance := c.balance, cardSeq := c.seq, tag := c.tag }

/-- The parts that a refusal at steps 4 to 9 can change. -/
def refusalParts : List Part := [.lpt, .sgu, .ltu, .rjn, .stl, .svc, .scu]

/-- A refusal at steps 4 to 9 but for its entries: the verdict REFUSE with a reason code, charge 0 and the presented
balance, the refusal flash, and no slot, W, credit or leaf touched (R39, R41, R151). -/
def refused (s t : State) (x : Side) (c : Card) (code : Byte) : Prop :=
  keepsBut refusalParts s t ∧ t.flash x = some (s.svc.tickCount + 64)
    ∧ t.lpt.responseSlot = some { kind := 0x81, overrun := false
                                  body := 0 :: verdictBytes 3 code 0 c.balance (lowCue s c c.balance) [] }

/-- How a refusal BLOCKED, CONCURRENT, PASSBACK or LOW_BALANCE is recorded by SCU (R98). -/
def refusalSeen (s t : State) (c : Card) : Prop :=
  t.scu.sightings.getLast? = t.sighting c.number ∧ t.scu.deny = s.scu.deny
    ∧ match s.sighting c.number with
      | none => t.sighting c.number = some (localSighting s c.number c.seq c.tag .refused)
      | some e => t.sighting c.number = some (
          if (c.seq = e.seq ∧ c.tag = e.tag) ∨ seqOrder c.seq e.seq = .ahead then
            { e with
              seq := c.seq, tag := c.tag, event := .refused, day := s.svc.day, secs := s.svc.secs
              station := s.setup.stationCode, lane := s.laneAddr, origin := .localOrigin }
          else e)

/-- A local add of a card number, with the code of its result in a CLONE entry (R88, R98). -/
def locallyAdded (s t : State) (n code : Nat) : Prop :=
  let listed := ∃ d ∈ s.scu.deny, d.base = n ∧ d.width = 0
  let placed := { base := n, width := 0, reason := .localClone, origin := .localOrigin, day := s.svc.day,
                  secs := s.svc.secs } ∈ t.scu.deny
  let kept := t.scu.deny = s.scu.deny ∧ t.scu.denyLocal = s.scu.denyLocal
  (listed → code = 2 ∧ kept)
    ∧ (¬listed → s.scu.deny.length < 2048 → code = 1 ∧ placed
        ∧ t.scu.denyLocal = s.scu.denyLocal ++ [n] ∧ ∀ d ∈ s.scu.deny, d ∈ t.scu.deny)
    ∧ (¬listed → 2048 ≤ s.scu.deny.length → s.scu.denyLocal = [] → code = 3 ∧ kept)
    ∧ (¬listed → 2048 ≤ s.scu.deny.length → ∀ b rest, s.scu.denyLocal = b :: rest → code = 1 ∧ placed
        ∧ t.scu.denyLocal = rest ++ [n] ∧ ∀ d ∈ s.scu.deny, (d.base ≠ b ∨ d.width ≠ 0) → d ∈ t.scu.deny)

/-- How ADS takes the offer of an accepted verdict, and whether that verdict is tagged (R170 to R172). -/
def auditOffered (s t : State) (c : Card) (x : Side) (kind : VerdictKind) (r : Reason) (rating : Rating)
    (tagged : Bool) : Prop :=
  (tagged = true ↔ ∃ b, s.ads.phase = .armed b)
    ∧ (tagged = true → t.ads.phase = .tracking ∧ t.ads.counter = s.ads.counter
        ∧ ∃ m, t.ads.sample = some m ∧ m.card = c.number ∧ m.side = x ∧ m.kind = kind ∧ m.reason = r
          ∧ m.rating = rating ∧ m.bankImage = s.activeBank.imageId ∧ m.day = s.svc.day ∧ m.secs = s.svc.secs
          ∧ m.outcome = none)
    ∧ (s.ads.phase = .idle → s.ads.enable = true → t.ads = { s.ads with
        counter := min 65535 (s.ads.counter + 1)
        phase := if s.ads.interval ≤ min 65535 (s.ads.counter + 1) then .armed .counter else .idle })
    ∧ (tagged = false → (s.ads.phase ≠ .idle ∨ s.ads.enable = false) →
        t.ads.phase = s.ads.phase ∧ t.ads.counter = s.ads.counter ∧ (s.ads.phase ≠ .tracking → t.ads = s.ads))

/-- The sighting entries as a warm start leaves them: each keeps what was last seen; the marks stand where no credit
is cancelled, and every record where there is none to settle either (R89, R94). -/
def sightingsKept (s t : State) : Prop :=
  let queued := s.queue .u ≠ [] ∨ s.queue .p ≠ []
  let awaited := s.slot .u ≠ none ∨ s.slot .p ≠ none
  (∀ e ∈ s.scu.sightings, ∃ e' ∈ t.scu.sightings,
      { e' with inFlight := e.inFlight, tear := e.tear, mark := e.mark } = e
      ∧ (¬queued → e'.mark = e.mark) ∧ (¬awaited → e'.tear = e.tear))
    ∧ (¬queued → t.scu.markOrder = s.scu.markOrder) ∧ (¬queued → ¬awaited → t.scu = s.scu)

/-- The fields of a status record at their offsets (R188). -/
def State.statusFields (s : State) (b : List Byte) : Prop :=
  let slotAt (x : Side) (off : Nat) : Prop := match s.slot x with
    | none => field b off 5 = 0
    | some sl => byteAt b off = 1 ∧ (sl.card < 4294967296 → field b (off + 1) 4 = sl.card)
  let queueAt (d : Side) (off : Nat) : Prop :=
    ((s.queue d).length ≤ 4 → field b off 1 = (s.queue d).length) ∧ field b (off + 1) 1 = (s.claim d).toNat
    ∧ match s.queue d with
      | [] => field b (off + 2) 5 = 0
      | c :: _ => byteAt b (off + 2) = c.kind.code
        ∧ (c.card.getD 0 < 4294967296 → field b (off + 3) 4 = c.card.getD 0)
  byteAt b 0 = s.effMode.code ∧ byteAt b 1 = s.svc.stationMode.code ∧ field b 2 1 = s.svc.laneHold.toNat
    ∧ field b 3 1 = s.svc.emerg.toNat ∧ byteAt b 4 = s.svc.reasons.toByte ∧ field b 5 1 = s.svc.timeKnown.toNat
    ∧ (s.clockOk → field b 6 2 = s.svc.day ∧ field b 8 3 = s.svc.secs) ∧ field b 11 4 = s.svc.tickCount.toNat
    ∧ slotAt .u 15 ∧ slotAt .p 20 ∧ queueAt .u 25 ∧ queueAt .p 32
    ∧ byteAt b 39 = s.lfc.leaf.code ∧ byteAt b 40 = sideCode s.lfc.leaf.dir ∧ byteAt b 41 = sideCode s.lfc.grant
    ∧ byteAt b 42 = sideCode s.lfc.openSide ∧ (s.lfc.reversalCount ≤ 3 → field b 43 1 = s.lfc.reversalCount)
    ∧ field b 44 1 = s.lfc.paused.toNat ∧ field b 45 1 = s.pcu.episode.toNat
    ∧ byteAt b 46 = sideCode s.pcu.episodeDir ∧ field b 47 1 = s.pcu.freePeriod.isOpen.toNat
    ∧ byteAt b 48 = s.pcu.freePeriod.reason.code
    ∧ (s.pcu.freePeriod.up ≤ 65535 → field b 49 2 = s.pcu.freePeriod.up)
    ∧ (s.pcu.freePeriod.pu ≤ 65535 → field b 51 2 = s.pcu.freePeriod.pu)
    ∧ byteAt b 53 = toneCode s.sgu.tone ∧ (s.sgu.pulses ≤ 255 → field b 54 1 = s.sgu.pulses)
    ∧ byteAt b 55 = s.sgu.lampUG.code ∧ byteAt b 56 = s.sgu.lampUR.code ∧ byteAt b 57 = s.sgu.lampPG.code
    ∧ byteAt b 58 = s.sgu.lampPR.code ∧ field b 59 2 = s.free
    ∧ field b 61 1 = (if s.fru.active = .a then 0 else 1) ∧ field b 62 4 = s.fru.bankA.imageId
    ∧ field b 66 4 = s.fru.bankB.imageId ∧ field b 70 1 = s.standbyBank.valid.toNat
    ∧ match s.fru.pendingSwitch with
      | none => field b 71 6 = 0
      | some m => byteAt b 71 = 1 ∧ (m.day < 65536 → field b 72 2 = m.day)
        ∧ (m.secs < 16777216 → field b 74 3 = m.secs)

/-- What every verdict that issues an image does (R13 to R15, R31, R40, R96): W goes up by 1; the issued image keeps
card number, kind and class, takes the presented sequence plus 1, the tag of the new W, the own station code as last
writer, passes the record check under CURRENT and the form check; the slot awaits its write with three reservations
and the write timeout running; the sighting entry shows the presented image with the in-flight record. -/
def imageIssued (s t : State) (x : Side) (c n : Card) (image : List Byte) (k : WriteKind) : Prop :=
  t.rck = { s.rck with w := s.rck.w + 1 }
    ∧ readCard image = n ∧ image.length = 48 ∧ formFault n = none
    ∧ (∀ key, s.rck.current = some key → (crc32 key.word (image.take 44)).toNat = field image 44 4)
    ∧ n.number = c.number ∧ n.kindCode = c.kindCode ∧ n.cls = c.cls ∧ n.seq = c.seq + 1
    ∧ n.tag = writeTag (s.rck.w + 1) s.laneAddr ∧ n.writer = s.setup.stationCode
    ∧ t.rjn.reserved = s.rjn.reserved + 3 ∧ t.rjn.journal = s.rjn.journal
    ∧ t.chan (writeOf x) = .start s.setup.writeTimeout 0
    ∧ (∃ sl, t.slot x = some sl ∧ sl.card = c.number ∧ sl.oldSeq = c.seq ∧ sl.oldTag = c.tag ∧ sl.kind = k
        ∧ sl.newSeq = n.seq ∧ sl.newTag = n.tag ∧ sl.newBalance = n.balance ∧ sl.tick = s.svc.tickCount)
    ∧ t.slot (Side.other x) = s.slot (Side.other x)
    ∧ ∃ e, t.sighting c.number = some e ∧ e.seq = c.seq ∧ e.tag = c.tag ∧ e.origin = .localOrigin
      ∧ e.event = (if k = .refuseAndWrite then .refused else if x = .u then .entry else .exit)
      ∧ e.tear = none ∧ e.mark = none
      ∧ e.day = s.svc.day ∧ e.secs = s.svc.secs ∧ e.station = s.setup.stationCode ∧ e.lane = s.laneAddr
      ∧ e.inFlight = some { side := x, oldSeq := c.seq, oldTag := c.tag, newSeq := n.seq, newTag := n.tag }

/-! ## Runs -/

/-- Some steps lead from one state to another. -/
inductive Reaches : State → State → Prop where
  | refl (s : State) : Reaches s s
  | step (s t u : State) : Reaches s t → step t = .next u → Reaches s u

/-- Some commands executed one after the other. -/
inductive Runs : List Instr → State → State → Prop where
  | done (s : State) : Runs [] s s
  | more (c : Instr) (cs : List Instr) (s t u : State) :
      exec c s = .next t → Runs cs t u → Runs (c :: cs) s u

/-- The characters of a station request frame, as the row of a character takes them (R183, R195). -/
def frameCharacters (addr src kind : Byte) (body : List Byte) (crc : Word16) : List Instr :=
  .stationCharacter true addr true
    :: (src :: kind :: BitVec.ofNat 8 body.length :: body ++ toBE 2 crc.toNat).map fun b =>
      .stationCharacter false b true

/-- The CRC of a station request frame (R195). -/
def frameCrc (addr src kind : Byte) (body : List Byte) : Word16 :=
  crc16 (addr :: src :: kind :: BitVec.ofNat 8 body.length :: body)

end Sys2Proof.Machine
end

