-- ==== Sys2Proof/Certificates/Slice0/Obligations.lean ====
section
/-! DEFINITION. The statements for the provers, from the numbered rules of the manual. -/

open Sys2Proof
open Sys2Proof.Machine

/-! ## Steps, power, starts -/

/-- A step executes the command at the front of the queue with the queue's rest; without VDD the step of an empty queue
changes nothing. The queue is the model's (log 1). -/
def Obligations.StepTakesFront : Prop :=
  (∀ (c : Instr) (rest : List Instr) (s : State),
    s.pending = c :: rest → step s = exec c (s.setPending rest))
  ∧ ∀ s : State, s.pending = [] → s.powered = false → step s = .next s

/-- The step of an empty queue with VDD present is one sense tick (R25, R121, R122; that it is the step of an empty queue
is the model's choice, log 40). An input whose raw level is its filtered level has count 0 after it; a differing level
counts one more tick below the filter's length; at the length the count returns to 0 and the change event, as the row
of the input's owner, is handed on once, as are no others. A switch that is unset differs from either level. -/
def Obligations.SenseTickFilters : Prop :=
  ∀ s : State, s.pending = [] → s.powered = true → ∃ t, step s = .next t ∧ keepsBut [.inp, .pending] s t
    ∧ (∀ c ∈ t.pending, ∃ i, c = changeEvent (s.inp.of i).raw i)
    ∧ ∀ i : Input,
      let f := s.inp.of i
      let length := match i with
        | .beam _ => s.setup.beamWidth / 4
        | .switch _ _ => 2
        | .emerg => 2
      (s.level i = some f.raw → t.inp.of i = { raw := f.raw, count := 0 } ∧ changeEvent f.raw i ∉ t.pending)
      ∧ (s.level i ≠ some f.raw → f.count + 1 < length →
          t.inp.of i = { raw := f.raw, count := f.count + 1 } ∧ changeEvent f.raw i ∉ t.pending)
      ∧ (s.level i ≠ some f.raw → length ≤ f.count + 1 →
          t.inp.of i = { raw := f.raw, count := 0 } ∧ t.pending.count (changeEvent f.raw i) = 1)

/-- While VDD is absent no command but a tick, a second and a start has an effect (log 16). -/
def Obligations.NothingWithoutVdd : Prop :=
  ∀ (c : Instr) (s : State), s.powered = false →
    c ≠ .tick → c ≠ .second → (∀ a r, c ≠ .coldStart a r) → (∀ a r, c ≠ .warmStart a r) →
    exec c s = .next s

/-- The state after reset, which is the state after a cold start (log 3), meets every invariant that the statements
below say a step keeps. -/
def Obligations.ResetMeetsInvariants : Prop :=
  State.reset.formed ∧ State.reset.journalRun ∧ State.reset.books ∧ State.reset.readinessOk
    ∧ State.reset.leavesOk ∧ State.reset.timesOk ∧ State.reset.denyOk

/-- A cold start from every state: the straps as read, and each block as its table of initial values states (R8, R13,
R30, R31, R57, R81, R89, R103, R119, R121, R123, R128, R154, R164, R168, R187, R194). Every input filter counts from 0,
with the level at its pin as it stands (log 40). Until the switches are taken the leaves are CLOSING with the drives
released. -/
def Obligations.ColdStartSetsInitialValues : Prop :=
  ∀ (addr : BitVec 6) (rate : BitVec 2) (s : State), ∃ t, exec (.coldStart addr rate) s = .next t
    ∧ t.stl.ownAddr = addr ∧ t.stl.rate = rate ∧ t.powered = true ∧ t.pending = s.pending
    ∧ (∀ i, t.inp.of i = { raw := (s.inp.of i).raw, count := 0 })
    ∧ t.stl.rx = .hunting ∧ t.stl.rxBuf = [] ∧ t.stl.replyTurn = none ∧ t.stl.sde = false
    ∧ t.lpt.ready = false ∧ t.lpt.responseSlot = none ∧ t.lpt.requestSlot = [] ∧ t.lpt.attn = true
    ∧ (∀ n ∈ t.lpt.notices, n.setting = .unmasked ∧ n.count = if n.cause = .restarted then 1 else 0)
    ∧ (∀ n ∈ t.stl.notices, n.setting = .unmasked ∧ n.count = if n.cause = .coldStart then 1 else 0)
    ∧ t.lpt.notices.map Notice.cause = laneCauses ∧ t.stl.notices.map Notice.cause = stationCauses
    ∧ t.rck = { current := none, previous := none, w := 0 }
    ∧ t.svc.tickCount = 0 ∧ t.svc.phase = 0 ∧ t.svc.timeKnown = false ∧ t.svc.day = 0 ∧ t.svc.secs = 0
    ∧ t.svc.stationMode = .closed ∧ t.svc.laneHold = false ∧ t.svc.emerg = false
    ∧ t.svc.reasons = { noKey := true, noFare := true, noTime := true, noSetup := true, journalStop := false
                        leafFault := false, laneHold := false, modeClosed := true }
    ∧ t.slot .u = none ∧ t.slot .p = none ∧ t.queue .u = [] ∧ t.queue .p = []
    ∧ t.fru.active = .a ∧ t.fru.pendingSwitch = none
    ∧ (∀ i : BankId, t.fru.bank i = { buffer := List.replicate 704 0, valid := false, maxima := none })
    ∧ t.scu.deny = [] ∧ t.scu.denyVersion = 0 ∧ t.scu.denyLocal = [] ∧ t.scu.sightings = []
    ∧ (∀ i, (t.chan i).state = .stopped ∧ (t.chan i).count = 0 ∧ (t.chan i).reload = 0
        ∧ (t.chan i).compare = 0)
    ∧ t.pcu.freePeriod.isOpen = false ∧ t.pcu.freePeriod.up = 0 ∧ t.pcu.freePeriod.pu = 0
    ∧ t.pcu.episode = false ∧ t.pcu.episodeDir = none ∧ t.pcu.farClears = 0 ∧ t.anyBeam = false
    ∧ t.lfc.leaf = .closing ∧ t.lfc.grant = none ∧ t.lfc.openSide = none ∧ t.lfc.reversalCount = 0
    ∧ t.lfc.driveL = .released ∧ t.lfc.driveR = .released ∧ (∀ l w, t.lfc.sw l w = none)
    ∧ t.sgu.tone = none ∧ t.sgu.pulses = 0 ∧ t.sgu.toneOn = false
    ∧ t.sgu.lampUG = .off ∧ t.sgu.lampPG = .off ∧ t.sgu.lampUR = .steady ∧ t.sgu.lampPR = .steady
    ∧ t.rjn.journal = [{ seq := 1, kind := .start, reason := .cold, side := none, day := 0, secs := 0
                         card := 0, amount := 0, balance := 0, cardSeq := 0, tag := 0, extra := 0 }]
    ∧ t.rjn.reserved = 0 ∧ t.rjn.nextSeq = 2 ∧ t.rjn.overrun = 0 ∧ t.free = 4095
    ∧ t.ads.enable = false ∧ t.ads.interval = 256 ∧ t.ads.randomise = false ∧ t.ads.counter = 0
    ∧ t.ads.phase = .idle ∧ t.ads.sample = none
    ∧ t.setup = { stationCode := 0, zone := 0, group := 64, window := 8, warning := 3, leafHold := 32
                  writeTimeout := 128, occupancy := 30, beamWidth := 20, threshold := 700
                  reopenGrace := 10, tearHold := 30 }

/-- A warm start from every state that keeps its books: the retained fields stand (keys, W, setup, banks, day clock,
station mode, deny list, the uncollected entries and the overrun count, what each sighting entry last saw with its
marks and tears (moved by a merge during a write wait or not: the model's reading, log 42), the sampler's settings,
counter, armed tag and VALID sample), the straps are read, the ports and their notice sets start afresh, slots and
queues are empty, every channel is stopped, every filter counts from 0 and the switches are unset; a tagged slot or
credit completes its sample ABORTED, and the reserved counter is twice the number of the pending-tears (R8, R13, R23 to
R25, R30, R57, R81, R89, R120, R121, R123, R128, R144, R153, R154, R159, R168, R177, R187, R194). -/
def Obligations.WarmStartKeepsRetained : Prop :=
  ∀ (addr : BitVec 6) (rate : BitVec 2) (s : State), s.books → ∃ t, exec (.warmStart addr rate) s = .next t
    ∧ t.powered = true ∧ keepsBut [.powered, .lpt, .stl, .svc, .txu, .scu, .ltu, .pcu, .lfc, .sgu, .rjn, .ads, .inp] s t
    ∧ (∀ i, t.inp.of i = { raw := (s.inp.of i).raw, count := 0 })
    ∧ t.stl.ownAddr = addr ∧ t.stl.rate = rate ∧ t.stl.rx = .hunting ∧ t.stl.rxBuf = []
    ∧ t.stl.replyTurn = none ∧ t.stl.sde = false ∧ t.lpt.ready = false ∧ t.lpt.responseSlot = none
    ∧ t.lpt.requestSlot = [] ∧ t.lpt.attn = true
    ∧ (∀ n ∈ t.lpt.notices, n.setting = .unmasked ∧ n.count = if n.cause = .restarted then 1 else 0)
    ∧ (∀ n ∈ t.stl.notices, n.setting = .unmasked ∧ (n.cause = .restarted → n.count = 1))
    ∧ t.svc.tickCount = s.svc.tickCount ∧ t.svc.phase = s.svc.phase ∧ t.svc.timeKnown = s.svc.timeKnown
    ∧ t.svc.day = s.svc.day ∧ t.svc.secs = s.svc.secs ∧ t.svc.stationMode = s.svc.stationMode
    ∧ t.svc.laneHold = false ∧ t.svc.emerg = false ∧ t.effMode = s.svc.stationMode
    ∧ t.reasonsTold
    ∧ t.slot .u = none ∧ t.slot .p = none ∧ t.queue .u = [] ∧ t.queue .p = []
    ∧ t.rjn.reserved = 2 * t.tears.length
    ∧ t.scu.deny = s.scu.deny ∧ t.scu.denyVersion = s.scu.denyVersion ∧ t.scu.denyLocal = s.scu.denyLocal
    ∧ (∀ i, (t.chan i).state = .stopped)
    ∧ t.pcu.episode = false ∧ t.pcu.episodeDir = none ∧ t.pcu.farClears = 0 ∧ t.anyBeam = false
    ∧ (t.pcu.freePeriod.isOpen = true ↔ s.svc.stationMode = .free)
    ∧ t.lfc.leaf = .closing ∧ t.lfc.grant = none ∧ t.lfc.openSide = s.lfc.openSide
    ∧ t.lfc.reversalCount = 0 ∧ t.lfc.driveL = .released ∧ t.lfc.driveR = .released
    ∧ (∀ l w, t.lfc.sw l w = none)
    ∧ t.sgu.tone = none ∧ t.sgu.hurryUp = false ∧ t.sgu.hurryPu = false ∧ t.sgu.flashU = none
    ∧ t.sgu.flashP = none ∧ t.formed
    ∧ sightingsKept s t
    ∧ (∃ es, t.rjn.journal = s.rjn.journal ++ es ∧ t.rjn.nextSeq = s.rjn.nextSeq + BitVec.ofNat 32 es.length)
    ∧ (4 ≤ s.free → t.rjn.overrun = s.rjn.overrun)
    ∧ t.ads.enable = s.ads.enable ∧ t.ads.interval = s.ads.interval ∧ t.ads.randomise = s.ads.randomise
    ∧ t.ads.counter = s.ads.counter ∧ (s.ads.phase ≠ .tracking → s.ads.phase ≠ .closing → t.ads = s.ads)
    ∧ (s.ads.phase = .tracking → t.ads.phase = .valid ∧ ∃ m, t.ads.sample = some m ∧ m.outcome = some .aborted)
    ∧ (s.ads.phase = .closing → t.ads.phase = .valid ∧ ∃ m, t.ads.sample = some m ∧ m.outcome = some .passed)
    ∧ (s.free = 0 ∨ firstEntry { s.entry .start .warm none with extra := s.rck.w.toNat } s t)

/-- A lane restart on either port from every state that keeps its books: setup, keys, fares, deny list, station mode,
time, EMERG and the switch filters stand; slots and queues are empty, OCCUPANCY, the windows and SIGNAL are stopped, the tracker and
the beam filters are cleared, the hold and FAULT are gone, the reserved counter is twice the number of the pending-tears, RESTARTED is
raised in both sets, and the request is answered OK (R24, R56, R120, R121, R127, R143, R153, R159, R189, R194). -/
def Obligations.LaneRestartSettlesLane : Prop :=
  ∀ (via : Via) (s : State), s.books → s.hearsVia reqLaneRestart via →
    ∃ t, exec (.laneRestart via []) s = .next t
    ∧ keepsBut [.lpt, .stl, .svc, .txu, .scu, .ltu, .pcu, .lfc, .sgu, .rjn, .ads, .inp] s t
    ∧ (∀ b, t.inp.of (.beam b) = { raw := (s.inp.of (.beam b)).raw, count := 0 })
    ∧ (∀ l w, t.inp.of (.switch l w) = s.inp.of (.switch l w)) ∧ t.inp.emerg = s.inp.emerg
    ∧ (∃ ns, t.lpt = t.attnOn (s.lptVia reqLaneRestart [] okay { s.lpt with notices := ns } via))
    ∧ (∃ ns, t.stl = s.stlVia reqLaneRestart okay { s.stl with notices := ns } via)
    ∧ raisedOnce .restarted s.lpt.notices t.lpt.notices ∧ raisedOnce .restarted s.stl.notices t.stl.notices
    ∧ t.svc.tickCount = s.svc.tickCount ∧ t.svc.phase = s.svc.phase ∧ t.svc.timeKnown = s.svc.timeKnown
    ∧ t.svc.day = s.svc.day ∧ t.svc.secs = s.svc.secs ∧ t.svc.stationMode = s.svc.stationMode
    ∧ t.svc.emerg = s.svc.emerg ∧ t.svc.laneHold = false
    ∧ t.svc.reasons.laneHold = false ∧ t.lfc.leaf ≠ .fault
    ∧ t.slot .u = none ∧ t.slot .p = none ∧ t.queue .u = [] ∧ t.queue .p = []
    ∧ t.rjn.reserved = 2 * t.tears.length
    ∧ t.scu.deny = s.scu.deny ∧ t.scu.denyVersion = s.scu.denyVersion
    ∧ (∀ d, (t.chan (windowOf d)).state = .stopped) ∧ (t.chan .occupancy).state = .stopped
    ∧ (t.chan .signal).state = .stopped ∧ (∀ x, s.slot x ≠ none → (t.chan (writeOf x)).state = .stopped)
    ∧ t.pcu.episode = false ∧ t.pcu.episodeDir = none ∧ t.pcu.farClears = 0 ∧ t.anyBeam = false
    ∧ (s.lfc.leaf = .freeOpen → t.lfc = s.lfc)
    ∧ t.sgu.tone = none ∧ t.sgu.hurryUp = false ∧ t.sgu.hurryPu = false ∧ t.sgu.flashU = none
    ∧ t.sgu.flashP = none ∧ t.formed
    ∧ (s.free = 0 ∨ firstEntry { s.entry .start (if via = .lane then .lane else .station) none with
        extra := s.rck.w.toNat } s t)

/-! ## The lane port -/

/-- The levels and signals the ports themselves act on: VDD away (R17; that every field then stands as it
stood, outputs included, is the model's reading, log 16), LCS seen high and a poll (R178), a frame gap
(R183), a reply's start and its end (R185). -/
def Obligations.PortSignalsAct : Prop :=
  (∀ s : State, ∃ t, exec .vddLoss s = .next t ∧ t.powered = false ∧ keepsBut [.powered] s t)
  ∧ (∀ s : State, s.powered = true → ∃ t, exec .lcsSeenHigh s = .next t
      ∧ t.lpt = { s.lpt with ready := true } ∧ keepsBut [.lpt] s t)
  ∧ (∀ (first : Byte) (s : State), laneLive s = true → ∃ t, exec (.portPoll first) s = .next t
      ∧ t.lpt = { s.lpt with lsdo := [portByte s] } ∧ keepsBut [.lpt] s t)
  ∧ (∀ s : State, linkLive s = true → ∃ t, exec .frameGapTimeout s = .next t
      ∧ t.stl = { s.stl with rx := .hunting, rxBuf := [] } ∧ keepsBut [.stl] s t)
  ∧ (∀ (s : State) (cs : List (BitVec 9)), s.powered = true → s.stl.replyTurn = some cs →
      ∃ t, exec .stationReply s = .next t
      ∧ t.stl = { s.stl with replyTurn := none, sde := true, tx := cs } ∧ keepsBut [.stl] s t)
  ∧ ∀ s : State, s.powered = true → ∃ t, exec .replyEnd s = .next t
      ∧ t.stl = { s.stl with sde := false, tx := [] } ∧ keepsBut [.stl] s t

/-- A response read shifts out the port byte, then status, kind, length, body and CRC of the waiting response, or of
an empty response, then zeros; the response goes when its last byte has been shifted out, and stays otherwise (R178,
R180, R195). -/
def Obligations.ResponseReadShiftsOut : Prop :=
  ∀ (n : Nat) (ragged : Bool) (s : State), laneLive s = true → 0 < n → s.formed →
    ∃ t, exec (.responseRead n ragged) s = .next t ∧ keepsBut [.lpt] s t ∧ t.attnFormed
    ∧ t.lpt.ready = s.lpt.ready ∧ t.lpt.requestSlot = s.lpt.requestSlot
    ∧ t.lpt.requestCount = s.lpt.requestCount ∧ t.lpt.notices = s.lpt.notices
    ∧ match s.lpt.responseSlot with
      | none =>
        t.lpt.responseSlot = none
        ∧ t.lpt.lsdo = ([portByte s, 0, 0, 0] ++ toBE 2 (crc16 [0, 0, 0]).toNat ++ List.replicate n 0).take n
      | some r =>
        let head := [boolByte r.overrun ||| (boolByte s.noticeBit <<< 1), r.kind, BitVec.ofNat 8 r.body.length]
          ++ r.body
        t.lpt.lsdo = ([portByte s] ++ head ++ toBE 2 (crc16 head).toNat ++ List.replicate n 0).take n
        ∧ t.lpt.responseSlot = if r.body.length + 6 ≤ n then none else some r

/-- What the lane port does with a request before any owner sees it: nothing while it takes no transfer (that the transfer
is then lost whole, slot and count included, is the model's reading: log 11, and log 16 without VDD); only OVERRUN
and the request slot while a response waits; BAD_LENGTH for a body length the kind does not allow (R178 to R180,
R186). -/
def Obligations.LanePortTurnsAway : Prop :=
  ∀ (c : Instr) (rq : Request) (body : List Byte), laneForm c = some (rq, body) → ∀ s : State,
    (laneLive s = false → exec c s = .next s)
    ∧ (laneLive s = true → s.formed → ∀ r, s.lpt.responseSlot = some r → ∃ t, exec c s = .next t
      ∧ t.lpt = t.attnOn { s.lpt with
          requestSlot := (laneFrame rq.code body).take 254, requestCount := body.length + 4
          lsdo := portByte s :: List.replicate (body.length + 3) 0
          responseSlot := some { r with overrun := true } }
      ∧ keepsBut [.lpt] s t)
    ∧ (s.laneOpen → s.formed → body.length ≤ 250 → rq.lengthOk body.length = false → ∃ t, exec c s = .next t
      ∧ t.lpt = t.attnOn (s.laneTaken rq.code body (refusal .badLength) s.lpt) ∧ keepsBut [.lpt] s t)

/-- A faulty lane frame: form faults are answered BAD_LENGTH and a wrong CRC CHECK_ERROR, both with kind 0xFF; a kind
the port does not allow is answered NOT_PERMITTED with the kind plus 0x80, modulo 256 (R179; log 44). A whole byte with a part of a second byte
is a request and BAD_LENGTH (the model's reading of R178, log 12). Nothing else changes. -/
def Obligations.LaneFrameFaultAnswered : Prop :=
  ∀ (bytes : List Byte) (ragged : Bool) (s : State), s.laneOpen → s.formed →
    bytes.head? ≠ some 0x7F → bytes ≠ [] → (1 < bytes.length ∨ ragged = true) →
    let len := (byteAt bytes 1).toNat
    let form := bytes.length < 4 ∨ ragged = true ∨ 250 < len ∨ bytes.length ≠ len + 4
    let check := (crc16 (bytes.take (2 + len))).toNat ≠ field bytes (2 + len) 2
    let answered (k : Byte) (r : Result) : Prop :=
      ∃ t, exec (.laneFrameFault bytes ragged) s = .next t ∧ keepsBut [.lpt] s t
        ∧ t.lpt = t.attnOn { s.lpt with
            requestSlot := bytes.take 254, requestCount := bytes.length
            lsdo := portByte s :: List.replicate (bytes.length - 1) 0
            responseSlot := some { kind := k, body := [r.code], overrun := false } }
    (form → answered 0xFF .badLength)
    ∧ (¬form → check → answered 0xFF .checkError)
    ∧ (¬form → ¬check → laneKind (byteAt bytes 0) = none → answered (byteAt bytes 0 + 0x80) .notPermitted)

/-- The bytes of a right frame of a lane request row, taken as a transfer, do what the row does (R178, R179, R195;
log 10). -/
def Obligations.LaneFrameIsItsRequest : Prop :=
  ∀ (c : Instr) (rq : Request) (body : List Byte) (s : State), laneForm c = some (rq, body) →
    body.length ≤ 250 → exec (.laneFrameFault (laneFrame rq.code body) false) s = exec c s

/-! ## The station link -/

/-- What the station link does with a frame before any owner sees it. It takes nothing while it takes no character (the
model's reading: log 15, and log 16 without VDD). A frame of another address only abandons a reply in turnaround
(R185; its fate on such a frame is log 15's). A broadcast of a kind that may not be broadcast is dropped; a body length
the kind does not allow is answered BAD_LENGTH at the own address and dropped otherwise (R182 to R184). A complete
frame with a wrong CRC is answered CHECK_ERROR with kind 0xFF, and one of a kind the link does not allow NOT_PERMITTED
with the kind plus 0x80, modulo 256 (log 44), at the own address; both are dropped at a group address or 255 (R184). -/
def Obligations.LinkTurnsAway : Prop :=
  (∀ (c : Instr) (f : LinkFrame), linkForm c = some f → f.body.length ≤ 240 → ∀ s : State,
    (linkLive s = false → exec c s = .next s)
    ∧ (linkLive s = true → s.formed →
        (classOf s f.addr = none
          ∨ ((classOf s f.addr = some .group ∨ classOf s f.addr = some .all)
            ∧ (f.request.broadcast = false ∨ f.request.lengthOk f.body.length = false))) →
        ∃ t, exec c s = .next t
        ∧ t.stl = { s.stl with rx := .hunting, rxBuf := [], replyTurn := none } ∧ keepsBut [.stl] s t)
    ∧ (linkLive s = true → s.formed → classOf s f.addr = some .own →
        f.request.lengthOk f.body.length = false → ∃ t, exec c s = .next t
        ∧ t.stl = s.linkTaken f.request f.addr f.src (refusal .badLength) s.stl ∧ keepsBut [.stl] s t))
  ∧ ∀ (addr src kind : Byte) (body : List Byte) (crc : Word16) (s : State),
    linkLive s = true → s.formed → body.length ≤ 240 → (classOf s addr).isSome = true →
    (frameCrc addr src kind body ≠ crc ∨ stationKind kind = none) →
    ∃ t, exec (.stationFrameFault addr src kind body crc) s = .next t ∧ keepsBut [.stl] s t
    ∧ t.stl = { s.stl with
        rx := .hunting, rxBuf := []
        replyTurn :=
          if classOf s addr ≠ some .own then none
          else if frameCrc addr src kind body ≠ crc then
            some (replyChars s.ownByte 0xFF src (refusal .checkError))
          else some (replyChars s.ownByte (kind + 0x80) src (refusal .notPermitted)) }

/-- What one character does (R183, R185): a stop bit of 0 ends the frame in progress; an address character abandons a
reply in turnaround and starts a frame of its class, or none (a broken address character, stop bit 0, does neither:
the model's choice, log 13; the buffer is emptied with the frame, log 14); data is ignored in HUNTING and, until the frame is
complete, joins the buffer in RECEIVING, where a length above 240 ends the frame. -/
def Obligations.CharacterTaken : Prop :=
  ∀ (data : Byte) (s : State), linkLive s = true →
    (∀ ninth, ∃ t, exec (.stationCharacter ninth data false) s = .next t
      ∧ t.stl = { s.stl with rx := .hunting, rxBuf := [] } ∧ keepsBut [.stl] s t)
    ∧ (∃ t, exec (.stationCharacter true data true) s = .next t
      ∧ t.stl = { s.stl with
          replyTurn := none, rxBuf := []
          rx := match classOf s data with
            | some cls => .receiving cls data
            | none => .hunting }
      ∧ keepsBut [.stl] s t)
    ∧ (s.stl.rx = .hunting → exec (.stationCharacter false data true) s = .next s)
    ∧ (∀ cls addr, s.stl.rx = .receiving cls addr →
      let buf := s.stl.rxBuf ++ [data]
      (buf.length = 3 → 240 < data.toNat → ∃ t, exec (.stationCharacter false data true) s = .next t
        ∧ t.stl = { s.stl with rx := .hunting, rxBuf := [] } ∧ keepsBut [.stl] s t)
      ∧ ((buf.length < 3 ∨ (buf.length = 3 ∧ data.toNat ≤ 240)
          ∨ (3 < buf.length ∧ buf.length < (byteAt buf 2).toNat + 5)) →
        ∃ t, exec (.stationCharacter false data true) s = .next t
        ∧ t.stl = { s.stl with rxBuf := buf } ∧ keepsBut [.stl] s t))

/-- A whole frame delivered character by character ends where the row of the complete frame ends; with the right CRC
and a kind the link allows that is where the request's own row ends (R183, R184, R195; log 10). -/
def Obligations.CharactersMakeTheFrame : Prop :=
  ∀ (addr src kind : Byte) (body : List Byte) (crc : Word16) (s : State),
    linkLive s = true → body.length ≤ 240 →
    (∀ t, exec (.stationFrameFault addr src kind body crc) s = .next t →
      Runs (frameCharacters addr src kind body crc) s t)
    ∧ ∀ (c : Instr) (f : LinkFrame), linkForm c = some f → f.addr = addr → f.src = src → f.body = body →
      f.request.code = kind → crc = frameCrc addr src kind body →
      exec (.stationFrameFault addr src kind body crc) s = exec c s

/-! ## Divider and day clock -/

/-- A tick with VDD present (R17, R18, R104): the lane tick count goes up by 1; every 64th tick makes a second due; a
RUNNING channel counts down by 1, hands its compare event at C above 0 and its underflow at 0, after which a one-shot
channel is STOPPED and SIGNAL alone reloads; a STOPPED or HELD channel is unchanged. That the events stand as due marks
which their rows take is the model's (log 4), as are the seconds due (log 5), and that no refusal flash goes at the
tick of its deadline (log 41). Without VDD a tick moves the tick count and the divider alone. A second that is due
(R19): an unknown time stays 0 and 0; a known time goes on by 1 s, over the boundary of the service day at 86,400 with
the day held at 65,534, and the second is handed to FRU and SCU; an earlier one still handed is taken first, a timed
switch among it (log 5). With none handed nothing else changes, and while VDD is absent the retained clock alone goes
on (R17; log 36). -/
def Obligations.TimeGoesOn : Prop :=
  (∀ s : State, s.powered = true → ∃ t, exec .tick s = .next t ∧ keepsBut [.svc, .ltu] s t
    ∧ t.svc = { s.svc with
        tickCount := s.svc.tickCount + 1
        phase := if s.svc.phase = 63 then 0 else s.svc.phase + 1
        secondsDue := if s.svc.phase = 63 then s.svc.secondsDue + 1 else s.svc.secondsDue }
    ∧ ∀ i,
      let c := s.chan i
      (c.state ≠ .running → t.chan i = c)
      ∧ (c.state = .running → 1 < c.count →
          t.chan i = { c with
            count := c.count - 1
            compareDue := c.compareDue || (0 < c.compare && c.count - 1 = c.compare) })
      ∧ (c.state = .running → c.count = 1 →
          t.chan i = if i = .signal then { c with count := c.reload, underflowDue := true }
            else { c with count := 0, state := .stopped, underflowDue := true }))
  ∧ (∀ s : State, s.powered = false → ∃ t, exec .tick s = .next t ∧ keepsBut [.svc] s t
    ∧ t.svc = { s.svc with
        tickCount := s.svc.tickCount + 1
        phase := if s.svc.phase = 63 then 0 else s.svc.phase + 1
        secondsDue := if s.svc.phase = 63 then s.svc.secondsDue + 1 else s.svc.secondsDue })
  ∧ (∀ s : State, s.powered = true → 0 < s.svc.secondsDue → ∃ t, exec .second s = .next t
    ∧ keepsBut [.svc, .fru, .scu, .rjn, .lpt, .stl, .sgu] s t ∧ t.svc.secondsDue + 1 = s.svc.secondsDue
    ∧ t.svc.timeKnown = s.svc.timeKnown
    ∧ t.svc.secs = (if s.svc.timeKnown = false then s.svc.secs
        else if s.svc.secs + 1 < 86400 then s.svc.secs + 1 else 0)
    ∧ t.svc.day = (if s.svc.timeKnown = false ∨ s.svc.secs + 1 < 86400 then s.svc.day
        else if s.svc.day < 65534 then s.svc.day + 1 else s.svc.day)
    ∧ t.fru.secondHanded = s.svc.timeKnown ∧ t.scu.marksHanded = s.svc.timeKnown
    ∧ t.scu.tearsHanded = s.svc.timeKnown
    ∧ (s.fru.secondHanded = true → ∀ d, s.fru.pendingSwitch = some d → s.reached d = true →
        t.fru.pendingSwitch = none ∧ t.fru.active = s.fru.active.other))
  ∧ ∀ s : State, s.formed → 0 < s.svc.secondsDue → s.fru.secondHanded = false → s.scu.marksHanded = false →
    s.scu.tearsHanded = false → ∃ t, exec .second s = .next t ∧ keepsBut [.svc, .fru, .scu] s t
    ∧ t.svc = { s.svc with
        secondsDue := s.svc.secondsDue - 1
        secs := if s.svc.timeKnown = false then s.svc.secs
          else if s.svc.secs + 1 < 86400 then s.svc.secs + 1 else 0
        day := if s.svc.timeKnown = false ∨ s.svc.secs + 1 < 86400 then s.svc.day
          else if s.svc.day < 65534 then s.svc.day + 1 else s.svc.day }
    ∧ t.fru = { s.fru with secondHanded := s.powered && s.svc.timeKnown }
    ∧ t.scu = { s.scu with
        marksHanded := s.powered && s.svc.timeKnown, tearsHanded := s.powered && s.svc.timeKnown }

/-- FRU and SCU take a second handed to them, by the rows of their hand-over marks (log 5). FRU (R64, R65): a pending
switch the clock has reached swaps the banks, is absent afterwards, is journaled with reason TIMED and raised to both
masters, and takes NO_FARE away; one not yet reached stays pending. SCU for the marks, FRU having taken its own (R94,
R95): every mark whose deadline the clock has reached goes, every other stays, and nothing is journaled or raised. SCU
for the pending-tears (R53, R95): none whose deadline the clock has reached stands afterwards, every other record of
every entry stands, its sequence and tag as they stand even where a merge moved them during the wait (the model's
reading, log 42), each due tear leaves one TEAR_RESOLVED entry with reason UNRESOLVED (its side is the model's reading,
log 19), and both its reservations are given up. -/
def Obligations.HandedSecondIsTaken : Prop :=
  (∀ s : State, s.formed → s.powered = true → s.fru.secondHanded = true →
    ∃ t, exec .timedFareSwitch s = .next t ∧ t.fru.bankA = s.fru.bankA ∧ t.fru.bankB = s.fru.bankB
    ∧ t.fru.secondHanded = false
    ∧ ((∀ d, s.fru.pendingSwitch = some d → s.reached d = false) →
        t.fru.active = s.fru.active ∧ t.fru.pendingSwitch = s.fru.pendingSwitch ∧ keepsBut [.fru] s t)
    ∧ (∀ d, s.fru.pendingSwitch = some d → s.reached d = true →
        t.fru.active = s.fru.active.other ∧ t.fru.pendingSwitch = none
        ∧ keepsBut [.fru, .rjn, .svc, .lpt, .stl, .sgu] s t
        ∧ t.svc.reasons.noFare = (s.svc.reasons.noFare && s.activeBank.valid)
        ∧ { t.svc with reasons := s.svc.reasons } = s.svc ∧ t.formed
        ∧ (∃ ns, t.lpt = t.attnOn { s.lpt with notices := ns }) ∧ raisedOnce .fareSwitched s.lpt.notices t.lpt.notices
        ∧ raisedOnce .fareSwitched s.stl.notices t.stl.notices
        ∧ (0 < s.free → onlyEntry { s.entry .fareSwitched .timed none with
            card := s.activeBank.imageId, extra := s.standbyBank.imageId } s t)
        ∧ (s.free = 0 → t.rjn.journal = s.rjn.journal ∧ t.rjn.overrun = min 65535 (s.rjn.overrun + 1))))
  ∧ (∀ s : State, s.formed → s.powered = true → s.fru.secondHanded = false → s.scu.marksHanded = true →
    s.sightingsKeyed → ∃ t, exec .markExpiry s = .next t ∧ keepsBut [.scu] s t
    ∧ t.scu.marksHanded = false ∧ t.scu.tearsHanded = s.scu.tearsHanded
    ∧ t.scu.deny = s.scu.deny ∧ t.scu.denyVersion = s.scu.denyVersion ∧ t.scu.denyLocal = s.scu.denyLocal
    ∧ t.scu.sightings = s.scu.sightings.map fun e =>
        { e with mark := e.mark.filter fun m => !s.reached m.deadline })
  ∧ ∀ s : State, s.formed → s.powered = true → s.fru.secondHanded = false → s.scu.tearsHanded = true →
    s.books → ∃ t, exec .tearDeadline s = .next t
    ∧ keepsBut [.scu, .rjn, .svc, .lpt, .stl, .sgu] s t
    ∧ t.scu.tearsHanded = false ∧ t.scu.deny = s.scu.deny ∧ t.scu.denyVersion = s.scu.denyVersion
    ∧ t.scu.markOrder = s.scu.markOrder
    ∧ t.scu.sightings = s.scu.sightings.map (fun e =>
        { e with tear := e.tear.filter fun x => !s.reached x.deadline })
    ∧ t.rjn.reserved + 2 * (s.tears.filter fun x => s.reached x.2.deadline).length = s.rjn.reserved
    ∧ (∀ x ∈ s.tears, s.reached x.2.deadline = true →
        ∃ e ∈ t.rjn.journal, e.kind = .tearResolved ∧ e.reason = .unresolved ∧ e.card = x.1
          ∧ e.amount = x.2.charge ∧ e.balance = x.2.newBalance ∧ e.cardSeq = x.2.newSeq
          ∧ e.tag = x.2.newTag ∧ e.extra = x.2.tearSeq.toNat ∧ e.side = some x.2.side)

/-! ## Discrete lines -/

/-- A change of the filtered EMERG level (R25 to R27, R142): EMERGENCY is raised to both masters; where the effective
mode changes, MODE_CHANGED is journaled with the cause and raised to the lane, entering FREE empties both queues, and
the leaves go to FREE_OPEN once their switches are taken, from every state but FAULT. The pin stands at the level with its
filter counting from 0 (log 40). A level already taken changes nothing else. -/
def Obligations.EmergencyChangesMode : Prop :=
  ∀ (level : Bool) (s : State), s.powered = true → s.formed →
    (s.svc.emerg = level → ∃ t, exec (.emergChange level) s = .next t ∧ keepsBut [.inp] s t
      ∧ t.inp = s.pinned .emerg level)
    ∧ (s.svc.emerg ≠ level → ∃ t, exec (.emergChange level) s = .next t
      ∧ keepsBut [.svc, .lpt, .stl, .rjn, .scu, .pcu, .lfc, .ltu, .sgu, .ads, .inp] s t ∧ t.formed
      ∧ t.inp = s.pinned .emerg level
      ∧ t.svc.emerg = level ∧ t.svc.stationMode = s.svc.stationMode ∧ t.svc.laneHold = s.svc.laneHold
      ∧ t.svc.day = s.svc.day ∧ t.svc.secs = s.svc.secs ∧ t.svc.tickCount = s.svc.tickCount
      ∧ t.effMode = (if level = true then .free else s.svc.stationMode)
      ∧ (∃ ns, t.lpt = t.attnOn { s.lpt with notices := ns })
      ∧ raisedOnce .emergency s.lpt.notices t.lpt.notices
      ∧ raisedOnce .emergency s.stl.notices t.stl.notices
      ∧ (t.effMode = s.effMode → t.pcu = s.pcu ∧ t.lfc = s.lfc ∧ t.rjn = s.rjn ∧ t.scu = s.scu)
      ∧ (t.effMode ≠ s.effMode → 0 < s.free → firstEntry
          { s.entry .modeChanged (if level = true then .emergencyOn else .emergencyOff) none with
            extra := s.effMode.code.toNat * 16777216 + t.effMode.code.toNat * 65536
              + s.svc.stationMode.code.toNat * 256 } s t)
      ∧ (t.effMode ≠ s.effMode → t.svc.reasons.modeClosed = decide (t.effMode = .closed)
          ∧ raisedOnce .modeChanged s.lpt.notices t.lpt.notices)
      ∧ (t.effMode = .free → s.effMode ≠ .free → t.queue .u = [] ∧ t.queue .p = []
          ∧ t.pcu.freePeriod.isOpen = true)
      ∧ (t.effMode = .free → s.effMode ≠ .free → s.lfc.leaf ≠ .fault → s.lfc.allTaken = true →
          t.lfc.leaf = .freeOpen ∧ t.lfc.grant = none ∧ t.lfc.reversalCount = 0)
      ∧ (t.effMode ≠ .free → s.effMode = .free → s.lfc.leaf = .freeOpen → t.lfc.leaf ≠ .freeOpen))

/-- A beam blocked or cleared (R113, R118, R123 to R126): the first block starts an episode with both windows held and
OCCUPANCY started; a block within an episode sets the direction at the first end beam; a clear that is not of the far
end and leaves another beam blocked changes the beam alone; a clear of the last beam that is not of the far end ends
the episode with both windows resumed and OCCUPANCY stopped. The pin stands at the level with its
filter counting from 0 (log 40). A level already taken changes nothing else. -/
def Obligations.BeamsMakeEpisodes : Prop :=
  ∀ (b : Beam) (s : State), s.powered = true → s.formed → s.trackerOk →
    (∀ v, s.pcu.beam b = v → ∃ t, exec (.beamChange b v) s = .next t ∧ keepsBut [.inp] s t
        ∧ t.inp = s.pinned (.beam b) v)
    ∧ (s.pcu.beam b = false → s.pcu.episode = false → ∃ t, exec (.beamChange b true) s = .next t
      ∧ keepsBut [.pcu, .ltu, .inp] s t ∧ t.inp = s.pinned (.beam b) true
      ∧ t.pcu = { s.pcu.setBeam true b with
          episode := true, farClears := 0
          episodeDir := match b with
            | .b1 => some .u
            | .b4 => some .p
            | .b2 => none
            | .b3 => none }
      ∧ t.chan .windowUp = (s.chan .windowUp).hold ∧ t.chan .windowPu = (s.chan .windowPu).hold
      ∧ t.chan .occupancy = .start (s.setup.occupancy * 64) 0
      ∧ ((∃ d, s.lfc.leaf = .opened d) → (t.chan .leafHold).state = .stopped)
      ∧ ∀ i, i ≠ .windowUp → i ≠ .windowPu → i ≠ .occupancy → i ≠ .leafHold → t.chan i = s.chan i)
    ∧ (s.pcu.beam b = false → s.pcu.episode = true → ∃ t, exec (.beamChange b true) s = .next t
      ∧ keepsBut [.pcu, .inp] s t ∧ t.inp = s.pinned (.beam b) true
      ∧ t.pcu = { s.pcu.setBeam true b with
          episodeDir := if s.pcu.episodeDir.isSome = true then s.pcu.episodeDir
            else match b with
              | .b1 => some .u
              | .b4 => some .p
              | .b2 => none
              | .b3 => none })
    ∧ (s.pcu.beam b = true → (∀ d, s.pcu.episodeDir = some d → b ≠ farBeam d) →
      (∃ o, o ≠ b ∧ s.pcu.beam o = true) → ∃ t, exec (.beamChange b false) s = .next t
      ∧ keepsBut [.pcu, .inp] s t ∧ t.inp = s.pinned (.beam b) false ∧ t.pcu = s.pcu.setBeam false b)
    ∧ (s.pcu.beam b = true → (∀ d, s.pcu.episodeDir = some d → b ≠ farBeam d) →
      (∀ o, o ≠ b → s.pcu.beam o = false) →
      ∃ t, exec (.beamChange b false) s = .next t ∧ keepsBut [.pcu, .ltu, .ads, .stl, .inp] s t
      ∧ t.inp = s.pinned (.beam b) false
      ∧ (s.ads.phase ≠ .closing → t.ads = s.ads ∧ t.stl = s.stl)
      ∧ (s.ads.phase = .closing → t.ads.phase = .valid)
      ∧ t.pcu = { s.pcu.setBeam false b with episode := false, episodeDir := none, farClears := 0 }
      ∧ t.chan .windowUp = (s.chan .windowUp).resume ∧ t.chan .windowPu = (s.chan .windowPu).resume
      ∧ (t.chan .occupancy).state = .stopped
      ∧ ∀ i, i ≠ .windowUp → i ≠ .windowPu → i ≠ .occupancy → i ≠ .leafHold → t.chan i = s.chan i)

/-- A far-end clear (R126) is counted. With the inner neighbour clear it is a passage in the episode's direction,
judged by the first row of R117 that holds: counted in FREE or FAULT, WRONG_WAY where the mode forbids the direction,
the head credit consumed with its PASSAGE entry where the grant is that direction's, UNPAID_PASSAGE otherwise. After a
consumption a following head has a whole new window while the leaves stand OPEN in its direction; without one the
window is stopped, an opening that is no reversal becomes a close (R134), and OPEN leaves are held until the lane is
empty, when LEAF_HOLD starts (R135). With another beam still blocked the episode goes on; a clear that leaves all four
beams clear is judged first and then ends the episode (R124): no window is held, OCCUPANCY is stopped, the record is
cleared. A tagged credit's consumption fixes PASSED with its grant-to-end ticks and the far-end clears, and the
episode's end completes the sample (R172 to R174). The pin stands clear with its filter counting from 0 (log 40). -/
def Obligations.FarEndClearIsJudged : Prop :=
  ∀ (d : Side) (s : State), s.powered = true → s.formed → s.books → s.pcu.episode = true →
    s.pcu.episodeDir = some d → s.pcu.beam (farBeam d) = true →
    let last := ∀ o, o ≠ farBeam d → s.pcu.beam o = false
    let clears := min 255 (s.pcu.farClears + 1)
    let ended (ps : List Part) (t : State) : Prop :=
      (¬last → keepsBut ps s t)
      ∧ (last → keepsBut (.ltu :: .ads :: .stl :: ps) s t
          ∧ (s.ads.phase ≠ .closing → t.ads = s.ads ∧ t.stl = s.stl)
          ∧ (s.ads.phase = .closing → t.ads.phase = .valid
            ∧ ∃ m, t.ads.sample = some m ∧ m.outcome = some .passed ∧ m.farClears = clears))
    let sameQueues (t : State) : Prop := t.queue .u = s.queue .u ∧ t.queue .p = s.queue .p
    ∃ t, exec (.beamChange (farBeam d) false) s = .next t
    ∧ keepsBut [.pcu, .rjn, .lpt, .stl, .svc, .scu, .sgu, .ltu, .lfc, .ads, .inp] s t ∧ t.formed
    ∧ t.inp = s.pinned (.beam (farBeam d)) false
    ∧ t.pcu.beam (farBeam d) = false ∧ (∀ o, o ≠ farBeam d → t.pcu.beam o = s.pcu.beam o)
    ∧ (¬last → t.pcu.episode = true ∧ t.pcu.episodeDir = some d ∧ t.pcu.farClears = clears)
    ∧ (last → t.pcu.episode = false ∧ t.pcu.episodeDir = none ∧ t.pcu.farClears = 0
        ∧ (t.chan .occupancy).state = .stopped ∧ ∀ x, (t.chan (windowOf x)).state ≠ .held)
    ∧ (s.pcu.beam (innerBeam d) = true → keepsBut [.pcu, .inp] s t ∧ sameQueues t
        ∧ t.pcu.freePeriod = s.pcu.freePeriod)
    ∧ (s.pcu.beam (innerBeam d) = false → (s.effMode = .free ∨ s.lfc.leaf = .fault) →
        ended [.pcu, .inp] t ∧ sameQueues t
        ∧ (s.pcu.freePeriod.isOpen = true → t.pcu.freePeriod =
            match d with
            | .u => { s.pcu.freePeriod with up := min 65535 (s.pcu.freePeriod.up + 1) }
            | .p => { s.pcu.freePeriod with pu := min 65535 (s.pcu.freePeriod.pu + 1) }))
    ∧ (s.pcu.beam (innerBeam d) = false → s.effMode ≠ .free → s.lfc.leaf ≠ .fault → s.permits d = false →
        sameQueues t ∧ t.lfc = s.lfc
        ∧ (0 < s.free → onlyEntry (s.entry .wrongWay .none (some d)) s t)
        ∧ raisedOnce .wrongWay s.lpt.notices t.lpt.notices
        ∧ t.sgu.tone = some .alarm)
    ∧ (s.pcu.beam (innerBeam d) = false → s.effMode ≠ .free → s.lfc.leaf ≠ .fault → s.permits d = true →
        (s.lfc.grant ≠ some d ∨ s.queue d = []) →
        sameQueues t ∧ t.lfc = s.lfc
        ∧ (0 < s.free → onlyEntry { s.entry .unpaidPassage .none (some d) with extra := (s.queue d).length } s t)
        ∧ raisedOnce .unpaid s.lpt.notices t.lpt.notices
        ∧ raisedOnce .unpaid s.stl.notices t.stl.notices
        ∧ t.sgu.tone = some .alarm)
    ∧ (s.pcu.beam (innerBeam d) = false → s.effMode ≠ .free → s.lfc.leaf ≠ .fault → s.permits d = true →
        s.lfc.grant = some d → ∀ c rest, s.queue d = c :: rest →
        t.queue d = rest ∧ t.queue (Side.other d) = s.queue (Side.other d)
        ∧ t.rjn.reserved + 1 = s.rjn.reserved
        ∧ onlyEntry { s.entry .passage c.kind.reason (some d) with
            card := c.card.getD 0, extra := c.creator.toNat } s t
        ∧ t.lpt.notices = s.lpt.notices ∧ t.sgu.tone = s.sgu.tone
        ∧ (rest = [] → (t.chan (windowOf d)).state = .stopped)
        ∧ (s.lfc.leaf = .opened d → t.lfc = s.lfc
          ∧ (rest ≠ [] → (last → t.chan (windowOf d) = .start (windowReload s) (windowCompare s))
            ∧ (¬last → t.chan (windowOf d) = .startHeld (windowReload s) (windowCompare s)))
          ∧ (choice t = some d → (t.chan .leafHold).state = .stopped)
          ∧ (choice t ≠ some d → last → t.chan .leafHold = .start s.setup.leafHold 0))
        ∧ (s.lfc.leaf = .opening d → rest = [] → s.lfc.reversal = false → s.lfc.bothMade .closedSw = false →
          t.lfc.leaf = .closing ∧ t.lfc.grant = some d ∧ t.chan .leafMove = .start 96 0
          ∧ ∀ l, t.lfc.drive l = if s.lfc.made l .closedSw = true then .brake else closeSwing s.lfc.openSide)
        ∧ (c.audit = true → ∃ m, s.ads.sample = some m ∧
            let passed : Sample := { m with
              grantToEnd := s.ads.grantTick.map fun g => min 65535 (s.svc.tickCount - g).toNat
              farClears := clears, outcome := some .passed }
            (¬last → t.ads = { s.ads with phase := .closing, sample := some passed })
            ∧ (last → t.ads = { s.ads with
                phase := .valid, grantTick := none
                sample := some { passed with doneDay := s.svc.day, doneSecs := s.svc.secs } }
              ∧ raisedOnce .auditReady s.stl.notices t.stl.notices)))

/-! ## Leaves -/

/-- A switch level taken (R121, R130, R134, R136, R140, R141, R144). The pin stands at the level with its filter
counting from 0 (log 40). A level already taken changes nothing else. In FAULT only the level changes. Both switches of
one leaf made is the switch fault. An OPEN switch in OPENING(D) and a CLOSED switch in a driven CLOSING brake their
leaf, and the second completes the move (a leaf once braked counts as there: the model's reading, log 37). A CLOSED
switch lost in CLOSED is a forced leaf. The last switch taken after a start commands the leaves, which stand RELEASED
until then (log 31); a close paused before it goes on with its reversal count (log 8). -/
def Obligations.SwitchesMoveLeaves : Prop :=
  ∀ (l : Leaf) (w : Switch) (v : Bool) (s : State), s.powered = true → s.formed → s.leavesOk →
    (s.lfc.sw l w = some v → ∃ t, exec (.switchChange l w v) s = .next t ∧ keepsBut [.inp] s t
      ∧ t.inp = s.pinned (.switch l w) v)
    ∧ (s.lfc.sw l w ≠ some v → ∃ t, exec (.switchChange l w v) s = .next t ∧ keepsBut (.inp :: leafParts) s t
      ∧ t.formed ∧ t.inp = s.pinned (.switch l w) v
      ∧ t.lfc.sw l w = some v ∧ (∀ l' w', (l', w') ≠ (l, w) → t.lfc.sw l' w' = s.lfc.sw l' w')
      ∧ (s.lfc.leaf = .fault → t.lfc = s.lfc.setSw l w (some v) ∧ keepsBut [.lfc, .inp] s t)
      ∧ (s.lfc.leaf ≠ .fault → t.lfc.made l .closedSw = true → t.lfc.made l .openSw = true →
          enteredFault .switchFault (leafNumber l) s.lfc.reversalCount s t)
      ∧ (s.lfc.leaf ≠ .fault → (t.lfc.made l .closedSw && t.lfc.made l .openSw) = false → s.lfc.allTaken = true →
          (∀ d, s.lfc.leaf = .opening d → w = .openSw → v = true →
            t.lfc.drive l = .brake ∧ t.lfc.grant = some d
            ∧ (s.lfc.drive (otherLeaf l) ≠ .brake → t.lfc.leaf = .opening d
                ∧ t.lfc.drive (otherLeaf l) = s.lfc.drive (otherLeaf l) ∧ t.chan .leafMove = s.chan .leafMove)
            ∧ (s.lfc.drive (otherLeaf l) = .brake → t.lfc.leaf = .opened d
                ∧ (t.chan .leafMove).state = .stopped
                ∧ (s.queue d ≠ [] → t.chan (windowOf d)
                    = if s.anyBeam = true then .startHeld (windowReload s) (windowCompare s)
                      else .start (windowReload s) (windowCompare s))))
          ∧ (s.lfc.leaf = .closing → s.lfc.paused = false → w = .closedSw → v = true →
            (s.lfc.drive (otherLeaf l) ≠ .brake → t.lfc.leaf = .closing ∧ t.lfc.drive l = .brake
                ∧ t.lfc.grant = s.lfc.grant ∧ t.chan .leafMove = s.chan .leafMove)
            ∧ (s.lfc.drive (otherLeaf l) = .brake → choice s = none → t.lfc.leaf = .closed
                ∧ t.lfc.grant = none ∧ t.lfc.reversalCount = 0 ∧ t.lfc.driveL = .brake
                ∧ t.lfc.driveR = .brake ∧ (t.chan .leafMove).state = .stopped)
            ∧ (s.lfc.drive (otherLeaf l) = .brake → ∀ d, choice s = some d → t.lfc.grant = some d
                ∧ t.lfc.leaf.towards d = true ∧ t.lfc.reversalCount = 0))
          ∧ (s.lfc.leaf = .closed → w = .closedSw → v = false → t.lfc.leaf = .forced
            ∧ t.lfc.driveL = .brake ∧ t.lfc.driveR = .brake ∧ t.sgu.tone = some .alarm
            ∧ raisedOnce .forced s.lpt.notices t.lpt.notices ∧ raisedOnce .forced s.stl.notices t.stl.notices
            ∧ (0 < s.free → onlyEntry { s.entry .leafForced .none none with extra := leafNumber l } s t))
          ∧ (s.lfc.leaf = .forced → w = .closedSw → t.lfc.bothMade .closedSw = true → choice s = none →
            t.lfc.leaf = .closed ∧ t.lfc.grant = none))
      ∧ (s.lfc.leaf ≠ .fault → (t.lfc.made l .closedSw && t.lfc.made l .openSw) = false →
          s.lfc.allTaken = false →
          (t.lfc.allTaken = false → keepsBut [.lfc, .inp] s t ∧ t.lfc = s.lfc.setSw l w (some v))
          ∧ (t.lfc.allTaken = true → s.effMode = .free → t.lfc.leaf = .freeOpen)
          ∧ (t.lfc.allTaken = true → s.effMode ≠ .free → t.lfc.bothMade .closedSw = true → choice s = none →
              t.lfc.leaf = .closed)
          ∧ (t.lfc.allTaken = true → s.effMode ≠ .free → t.lfc.bothMade .closedSw = false →
              t.lfc.leaf = .closing ∧ t.lfc.grant = none ∧ t.chan .leafMove = .start 96 0
              ∧ t.lfc.paused = false ∧ t.lfc.reversalCount = s.lfc.reversalCount
              ∧ (s.lfc.paused = true → (t.chan .leafHold).state = .stopped)
              ∧ ∀ l', t.lfc.drive l' = if t.lfc.made l' .closedSw = true then .brake
                  else closeSwing s.lfc.openSide)))

/-- A conversion of the current converter (R137 to R139). Outside CLOSING, and in a paused one, it changes nothing. In
CLOSING, driven or with a switch still untaken, a leaf already at its CLOSED switch is passed over (while the drives
stay RELEASED: where the switch is made, log 8). A sample at or below the threshold ends a run; the third above it in a
row is an obstruction: with a grant the close is reversed, and the opening is complete at once where both OPEN switches
are made (log 23), without one it is paused, and the third of an attempt is a fault. -/
def Obligations.ObstructionsReverse : Prop :=
  ∀ (v : BitVec 10) (s : State), s.powered = true → s.formed → s.leavesOk →
    ((s.lfc.leaf ≠ .closing ∨ s.lfc.paused = true) → exec (.currentSample v) s = .next s)
    ∧ (s.lfc.leaf = .closing → s.lfc.paused = false →
      ∃ t, exec (.currentSample v) s = .next t ∧ keepsBut leafParts s t ∧ t.formed
      ∧ t.lfc.nextLeaf = otherLeaf s.lfc.nextLeaf
      ∧ (s.lfc.atClosed s.lfc.nextLeaf = true → keepsBut [.lfc] s t ∧ ∀ l, t.lfc.run l = s.lfc.run l)
      ∧ (s.lfc.atClosed s.lfc.nextLeaf = false → v.toNat ≤ s.setup.threshold →
          keepsBut [.lfc] s t ∧ t.lfc.leaf = .closing ∧ t.lfc.run s.lfc.nextLeaf = 0
          ∧ t.lfc.run (otherLeaf s.lfc.nextLeaf) = s.lfc.run (otherLeaf s.lfc.nextLeaf))
      ∧ (s.lfc.atClosed s.lfc.nextLeaf = false → s.setup.threshold < v.toNat → s.lfc.run s.lfc.nextLeaf < 2 →
          keepsBut [.lfc] s t ∧ t.lfc.leaf = .closing
          ∧ t.lfc.run s.lfc.nextLeaf = s.lfc.run s.lfc.nextLeaf + 1
          ∧ t.lfc.run (otherLeaf s.lfc.nextLeaf) = s.lfc.run (otherLeaf s.lfc.nextLeaf))
      ∧ (s.lfc.atClosed s.lfc.nextLeaf = false → s.setup.threshold < v.toNat → 2 ≤ s.lfc.run s.lfc.nextLeaf →
          (∀ d, s.lfc.grant = some d → s.lfc.reversalCount < 2 → s.lfc.bothMade .openSw = false →
            t.lfc.leaf = .opening d ∧ t.lfc.reversal = true ∧ t.lfc.grant = some d
            ∧ t.lfc.reversalCount = s.lfc.reversalCount + 1 ∧ t.lfc.openSide = some (openSideOf d)
            ∧ t.chan .leafMove = .start 96 0
            ∧ ∀ l, t.lfc.drive l = if s.lfc.made l .openSw = true then .brake else openSwing d)
          ∧ (∀ d, s.lfc.grant = some d → s.lfc.reversalCount < 2 → s.lfc.bothMade .openSw = true →
            t.lfc.leaf = .opened d ∧ t.lfc.reversal = true ∧ t.lfc.grant = some d
            ∧ t.lfc.reversalCount = s.lfc.reversalCount + 1 ∧ t.lfc.openSide = some (openSideOf d)
            ∧ t.lfc.driveL = .brake ∧ t.lfc.driveR = .brake ∧ (t.chan .leafMove).state = .stopped)
          ∧ (s.lfc.grant = none → s.lfc.reversalCount < 2 →
            t.lfc.leaf = .closing ∧ t.lfc.paused = true ∧ t.lfc.runL = 0 ∧ t.lfc.runR = 0
            ∧ t.lfc.reversalCount = s.lfc.reversalCount + 1
            ∧ (t.chan .leafMove).state = .stopped ∧ t.chan .leafHold = .start s.setup.leafHold 0
            ∧ ∀ l, t.lfc.drive l = if s.lfc.drive l = .brake then .brake else .released)
          ∧ (s.lfc.reversalCount = 2 → enteredFault .obstruction (leafNumber s.lfc.nextLeaf) 3 s t)))

/-- LEAF_HOLD and LEAF_MOVE underflows (R131, R135, R139): the hold closes OPEN(D) with the grant kept and the reversal
count kept or cleared, and resumes a paused close, without a drive while a switch is still untaken (the model's reading
of R144, log 8); the move limit takes a moving pair to FAULT with cause MOVE_TIMEOUT, whose leaf number names the
leaves not yet braked (the model's reading, log 22). -/
def Obligations.LeafTimersAct : Prop :=
  ∀ s : State, s.powered = true → s.formed → s.leavesOk →
    ((s.chan .leafHold).underflowDue = true → ∃ t, exec .leafHoldUnderflow s = .next t
      ∧ keepsBut leafParts s t ∧ t.formed ∧ (t.chan .leafHold).underflowDue = false
      ∧ (∀ d, s.lfc.leaf = .opened d → s.lfc.bothMade .closedSw = false →
          t.lfc.leaf = .closing ∧ t.lfc.grant = some d ∧ t.lfc.reversal = false
          ∧ t.lfc.reversalCount = (if s.lfc.reversal = true then s.lfc.reversalCount else 0)
          ∧ t.chan .leafMove = .start 96 0 ∧ (t.chan (windowOf d)).state = .stopped
          ∧ t.queue .u = s.queue .u ∧ t.queue .p = s.queue .p
          ∧ ∀ l, t.lfc.drive l = if s.lfc.made l .closedSw = true then .brake else closeSwing s.lfc.openSide)
      ∧ (s.lfc.leaf = .closing → s.lfc.paused = true → s.lfc.allTaken = false → keepsBut [.lfc, .ltu] s t
          ∧ t.lfc = { s.lfc with paused := false, runL := 0, runR := 0, nextLeaf := .left }
          ∧ t.chan .leafMove = s.chan .leafMove)
      ∧ (s.lfc.leaf = .closing → s.lfc.paused = true → s.lfc.allTaken = true → s.lfc.bothMade .closedSw = false →
          t.lfc.leaf = .closing ∧ t.lfc.paused = false ∧ t.lfc.grant = none
          ∧ t.lfc.reversalCount = s.lfc.reversalCount ∧ t.lfc.runL = 0 ∧ t.lfc.runR = 0
          ∧ t.lfc.nextLeaf = .left
          ∧ t.chan .leafMove = .start 96 0
          ∧ ∀ l, t.lfc.drive l = if s.lfc.made l .closedSw = true then .brake else closeSwing s.lfc.openSide)
      ∧ ((∀ d, s.lfc.leaf ≠ .opened d) → (s.lfc.leaf ≠ .closing ∨ s.lfc.paused = false) →
          keepsBut [.ltu] s t))
    ∧ ((s.chan .leafMove).underflowDue = true → ∃ t, exec .leafMoveUnderflow s = .next t
      ∧ keepsBut leafParts s t ∧ t.formed ∧ (t.chan .leafMove).underflowDue = false
      ∧ (((∃ d, s.lfc.leaf = .opening d) ∨ s.lfc.leaf = .closing ∨ s.lfc.leaf = .freeOpen) →
          enteredFault .moveTimeout ((if s.lfc.driveL = .brake then 0 else 1)
            + (if s.lfc.driveR = .brake then 0 else 2)) s.lfc.reversalCount s t)
      ∧ ((s.lfc.leaf = .closed ∨ s.lfc.leaf = .forced ∨ s.lfc.leaf = .fault ∨ ∃ d, s.lfc.leaf = .opened d) →
          keepsBut [.ltu] s t))

/-! ## Timer signals and credits -/

/-- Timer events that end in a lamp, a tone or a notice (R114, R118, R145, R146, R150, R151): a window's warning sets
its hurry flag; OCCUPANCY's underflow raises OCCUPIED_LONG to the lane; SIGNAL's compare turns the tone off and its
underflow begins the next pulse, at the pattern's frequency, or ends the pattern; TONE is low while the tone is off; a
refusal flash goes with the row of its lapse, taken at its deadline or up to 2,147,483,647 ticks later (that TICK
leaves it to the row is the model's reading, log 41). -/
def Obligations.TimerSignalsAct : Prop :=
  ∀ s : State, s.powered = true → s.formed →
    (∀ d, (s.chan (windowOf d)).compareDue = true → ∃ t, exec (.passageWarning d) s = .next t
      ∧ keepsBut [.ltu, .sgu] s t ∧ (∀ i, i ≠ windowOf d → t.chan i = s.chan i)
      ∧ t.chan (windowOf d) = { s.chan (windowOf d) with compareDue := false }
      ∧ t.sgu = t.lampsOn (match d with
        | .u => { s.sgu with hurryUp := true }
        | .p => { s.sgu with hurryPu := true }))
    ∧ ((s.chan .occupancy).underflowDue = true → ∃ t, exec .occupancyUnderflow s = .next t
      ∧ keepsBut [.ltu, .lpt] s t ∧ (∀ i, i ≠ .occupancy → t.chan i = s.chan i)
      ∧ t.chan .occupancy = { s.chan .occupancy with underflowDue := false }
      ∧ t.lpt = t.attnOn { s.lpt with notices := raiseIn .occupiedLong s.lpt.notices })
    ∧ ((s.chan .signal).compareDue = true → ∃ t, exec .signalCompare s = .next t
      ∧ keepsBut [.ltu, .sgu] s t ∧ (∀ i, i ≠ .signal → t.chan i = s.chan i)
      ∧ t.chan .signal = { s.chan .signal with compareDue := false }
      ∧ t.sgu = { s.sgu with toneOn := false } ∧ t.toneOut = .low)
    ∧ ((s.chan .signal).underflowDue = true → ∃ t, exec .signalUnderflow s = .next t
      ∧ keepsBut [.ltu, .sgu] s t ∧ (∀ i, i ≠ .signal → t.chan i = s.chan i)
      ∧ (1 < s.sgu.pulses → t.chan .signal = { s.chan .signal with underflowDue := false }
          ∧ t.sgu = { s.sgu with pulses := s.sgu.pulses - 1, toneOn := true }
          ∧ ∀ p, s.sgu.tone = some p → t.toneOut = .square p.frequency)
      ∧ (s.sgu.pulses ≤ 1 → (t.chan .signal).state = .stopped
          ∧ t.sgu = { s.sgu with tone := none, pulses := 0, toneOn := false }
          ∧ t.toneOut = .low))
    ∧ ∀ x deadline, s.flash x = some deadline →
      ((s.svc.tickCount - deadline).toNat ≤ 2147483647 → ∃ t, exec (.refusalFlashLapse x) s = .next t
        ∧ keepsBut [.sgu] s t
        ∧ t.sgu = t.lampsOn (match x with
          | .u => { s.sgu with flashU := none }
          | .p => { s.sgu with flashP := none }))
      ∧ (2147483647 < (s.svc.tickCount - deadline).toNat → exec (.refusalFlashLapse x) s = .next s)

/-- The expiry of a head credit (R115): it leaves its queue, CREDIT_EXPIRED is written from its reservation, its card
gets an unused-credit mark where it has a sighting entry, EXPIRED is raised to the lane, a tagged sample is completed
EXPIRED with its grant-to-end ticks, and a following head has a whole new window while the leaves stand OPEN in its direction. -/
def Obligations.CreditExpires : Prop :=
  ∀ (d : Side) (s : State), s.powered = true → s.formed → s.books →
    (s.chan (windowOf d)).underflowDue = true → ∃ t, exec (.creditExpiry d) s = .next t
    ∧ keepsBut [.pcu, .rjn, .lpt, .stl, .scu, .ltu, .lfc, .sgu, .ads] s t ∧ t.formed
    ∧ t.queue (Side.other d) = s.queue (Side.other d)
    ∧ (s.queue d = [] → keepsBut [.ltu] s t ∧ (∀ i, i ≠ windowOf d → t.chan i = s.chan i)
        ∧ t.chan (windowOf d) = { s.chan (windowOf d) with underflowDue := false })
    ∧ ∀ c rest, s.queue d = c :: rest →
      t.queue d = rest ∧ t.rjn.reserved + 1 = s.rjn.reserved ∧ t.hurry d = false
      ∧ onlyEntry { s.entry .creditExpired c.kind.reason (some d) with
          card := c.card.getD 0, extra := c.creator.toNat } s t
      ∧ t.lpt = t.attnOn { s.lpt with notices := raiseIn .expired s.lpt.notices }
      ∧ (∀ n e, c.card = some n → s.sighting n = some e → ∃ e', t.sighting n = some e'
          ∧ e' = { e with mark := some { dir := d, deadline := s.now.plus (s.setup.reopenGrace * 60) } })
      ∧ (c.card = none → t.scu = s.scu)
      ∧ (c.audit = false → t.stl = s.stl ∧ (s.ads.phase ≠ .tracking → t.ads = s.ads))
      ∧ (c.audit = true → t.ads.phase = .valid ∧ raisedOnce .auditReady s.stl.notices t.stl.notices
          ∧ ∃ m, t.ads.sample = some m ∧ m.outcome = some .expired ∧ m.doneDay = s.svc.day
            ∧ m.doneSecs = s.svc.secs
            ∧ m.grantToEnd = s.ads.grantTick.map fun g => min 65535 (s.svc.tickCount - g).toNat)
      ∧ (rest ≠ [] → s.lfc.leaf = .opened d → t.chan (windowOf d)
          = if s.anyBeam = true then .startHeld (windowReload s) (windowCompare s)
            else .start (windowReload s) (windowCompare s))

/-- A WRITE OUTCOME with a field outside its set, or that no slot answers for, is BAD_FIELD or NO_TRANSACTION with
nothing changed (R46). An UNCERTAIN, reported by WRITE OUTCOME or by the underflow of the write wait (R46, R47, R51,
R52): the slot is FREE, with its TEAR entry from the first reservation (its side is the model's reading, log 19), and
its card's in-flight record becomes a pending-tear holding the other two; the entry's sequence and tag stay as they
stand, moved by a merge during the wait or not (the model's reading, log 42). Where 32 stand, the pending-tear with the
earliest TEAR sequence is first resolved UNRESOLVED (before the TEAR entry: the model's order, log 33). An underflow
that finds the slot FREE changes nothing but the event itself. -/
def Obligations.UncertainMakesTear : Prop :=
  (∀ (b o h l : Byte) (s : State), s.laneOpen → s.formed →
    (((b ≠ 1 ∧ b ≠ 2) ∨ (o ≠ 1 ∧ o ≠ 2 ∧ o ≠ 3)) → ∃ t, exec (.writeOutcome [b, o, h, l]) s = .next t
      ∧ t.lpt = t.attnOn (s.laneTaken 0x02 [b, o, h, l] (refusal .badField) s.lpt) ∧ keepsBut [.lpt] s t)
    ∧ ∀ x, b = sideCode (some x) → (o = 1 ∨ o = 2 ∨ o = 3) →
      (∀ sl, s.slot x = some sl → sl.newTag.toNat ≠ h.toNat * 256 + l.toNat) →
      ∃ t, exec (.writeOutcome [b, o, h, l]) s = .next t
      ∧ t.lpt = t.attnOn (s.laneTaken 0x02 [b, o, h, l] (refusal .noTransaction) s.lpt) ∧ keepsBut [.lpt] s t)
  ∧ ∀ (x : Side) (s : State), s.formed → s.books →
    (s.powered = true → (s.chan (writeOf x)).underflowDue = true → s.slot x = none →
      ∃ t, exec (.writeWaitUnderflow x) s = .next t ∧ keepsBut [.ltu] s t
      ∧ (∀ i, i ≠ writeOf x → t.chan i = s.chan i)
      ∧ t.chan (writeOf x) = { s.chan (writeOf x) with underflowDue := false })
    ∧ ∀ sl, s.slot x = some sl →
      let torn (next : Word32) : Tear :=
        { side := x, kind := sl.kind, oldSeq := sl.oldSeq, oldTag := sl.oldTag, newSeq := sl.newSeq
          newTag := sl.newTag, charge := sl.charge, newBalance := sl.newBalance, tearSeq := next
          deadline := s.now.plus (s.setup.tearHold * 60) }
      let entry : Entry := { s.entry .tear sl.reason (some x) with
        card := sl.card, amount := sl.charge, balance := sl.newBalance, cardSeq := sl.newSeq
        tag := sl.newTag, extra := sl.oldTag.toNat }
      let settled (t : State) : Prop :=
        keepsBut [.txu, .rjn, .scu, .ltu, .ads, .stl, .svc, .lpt, .sgu] s t ∧ t.formed ∧ t.slot x = none
        ∧ t.slot (Side.other x) = s.slot (Side.other x) ∧ (∀ i, i ≠ writeOf x → t.chan i = s.chan i)
        ∧ (t.chan (writeOf x)).underflowDue = false
        ∧ (s.tears.length < 32 → onlyEntry entry s t ∧ t.rjn.reserved + 1 = s.rjn.reserved
            ∧ ∀ e, s.sighting sl.card = some e →
              t.sighting sl.card = some { e with inFlight := none, tear := some (torn s.rjn.nextSeq) })
        ∧ (s.tears.length = 32 → t.tears.length = 32 ∧ t.rjn.reserved + 3 = s.rjn.reserved
            ∧ ∀ y ∈ s.tears, (∀ z ∈ s.tears, z ≠ y → stampLater y.2.tearSeq z.2.tearSeq = true) →
              (∀ e, t.sighting y.1 = some e → e.tear = none)
              ∧ ∃ es q, t.rjn.journal = s.rjn.journal
                  ++ { s.entry .tearResolved .unresolved (some y.2.side) with
                       card := y.1, amount := y.2.charge, balance := y.2.newBalance, cardSeq := y.2.newSeq
                       tag := y.2.newTag, extra := y.2.tearSeq.toNat, seq := s.rjn.nextSeq } :: es
                ∧ { entry with seq := q } ∈ es
                ∧ ∀ e, s.sighting sl.card = some e →
                  t.sighting sl.card = some { e with inFlight := none, tear := some (torn q) })
        ∧ (sl.audit = true → t.ads.phase = .valid
            ∧ ∃ m, t.ads.sample = some m ∧ m.outcome = some .tear ∧ m.writeResult = some .uncertain
              ∧ m.writeTicks = min 65535 (s.svc.tickCount - sl.tick).toNat)
        ∧ (sl.audit = false → t.ads = s.ads)
      (s.powered = true → (s.chan (writeOf x)).underflowDue = true →
        ∃ t, exec (.writeWaitUnderflow x) s = .next t ∧ settled t)
      ∧ (s.laneOpen → ∃ t, exec (.writeOutcome ([sideCode (some x), 3] ++ toBE 2 sl.newTag.toNat)) s = .next t
        ∧ settled t ∧ (t.chan (writeOf x)).state = .stopped
        ∧ t.lpt.responseSlot = some { kind := 0x82, body := [0], overrun := false })

/-! ## Card presentations -/

/-- Step 1 of a presentation (R34): the first of the five tests that fails refuses the card without reading its image:
no entry, nothing for SCU, TXU or W, charge and balance 0, cue clear; SGU flashes RED unless the mode is FREE, and the
REFUSE tone is requested (R147, R148, R151). A presentation that passes finds at least 64 entries free. A side other
than U or P is refused BAD_FIELD. -/
def Obligations.AvailabilityRefusesEarly : Prop :=
  ∀ (x : Side) (image : List Byte) (s : State), s.laneOpen → s.formed → image.length = 48 →
    (s.readinessOk → s.svc.reasons.empty = true → 64 ≤ s.free)
    ∧ (∀ b : Byte, b ≠ 1 → b ≠ 2 → ∃ t, exec (.cardPresent (b :: image)) s = .next t
      ∧ t.lpt = t.attnOn (s.laneTaken 0x01 (b :: image) (refusal .badField) s.lpt) ∧ keepsBut [.lpt] s t)
    ∧ ∀ r : Byte,
      (r = if s.effMode = .free then 16
        else if s.svc.reasons.empty = false then 17
        else if s.permits x = false then 18
        else if s.slot x ≠ none then 19
        else if 4 ≤ (s.queue x).length + (s.claim x).toNat then 20
        else 0) → r ≠ 0 →
      ∃ t, exec (.cardPresent (sideCode (some x) :: image)) s = .next t ∧ keepsBut [.lpt, .sgu, .ltu] s t
      ∧ t.lpt = t.attnOn (s.laneTaken 0x01 (sideCode (some x) :: image)
          { result := .ok, data := verdictBytes 3 r 0 0 false [] } s.lpt)
      ∧ t.flash x = (if s.effMode = .free then s.flash x else some (s.svc.tickCount + 64))
      ∧ t.flash (Side.other x) = s.flash (Side.other x) ∧ t.lampsFormed
      ∧ (∀ i, i ≠ .signal → t.chan i = s.chan i)
      ∧ (s.sgu.tone = none ∨ s.sgu.tone = some .accept ∨ s.sgu.tone = some .cue →
          t.sgu.tone = some .refuse ∧ t.sgu.pulses = 3 ∧ t.chan .signal = .start 12 6)
      ∧ (s.sgu.tone = some .refuse ∨ s.sgu.tone = some .alarm →
          t.sgu.tone = s.sgu.tone ∧ t.chan .signal = s.chan .signal)

/-- Steps 2 and 3 (R3, R5, R7, R35, R39): a malformed image is refused UNREADABLE with its detail, an image that passes
under neither key TAMPERED with the notice to the station; one REFUSAL entry (its card fields for UNREADABLE are the
model's reading, log 32), and nothing for SCU, TXU, FRU or W. -/
def Obligations.UnsoundImagesRefused : Prop :=
  ∀ (x : Side) (image : List Byte) (s : State), Presentable s x → image.length = 48 →
    let c := readCard image
    let parts : List Part := [.lpt, .sgu, .ltu, .rjn, .stl, .svc]
    (∀ n, formFault c = some n → ∃ t, exec (.cardPresent (sideCode (some x) :: image)) s = .next t
      ∧ keepsBut parts s t
      ∧ t.lpt.responseSlot = some { kind := 0x81, body := 0 :: verdictBytes 3 21 0 0 false [], overrun := false }
      ∧ onlyEntry { s.entry .refusal .unreadable (some x) with
          card := c.number, cardSeq := c.seq, tag := c.tag, extra := n } s t
      ∧ t.flash x = some (s.svc.tickCount + 64))
    ∧ (formFault c = none →
      (∀ k, s.rck.current = some k ∨ s.rck.previous = some k →
        (crc32 k.word (image.take 44)).toNat ≠ field image 44 4) →
      ∃ t, exec (.cardPresent (sideCode (some x) :: image)) s = .next t
      ∧ keepsBut parts s t
      ∧ t.lpt.responseSlot = some { kind := 0x81, overrun := false
                                    body := 0 :: verdictBytes 3 22 0 c.balance
                                      (lowCue s c c.balance) [] }
      ∧ onlyEntry { s.entry .refusal .tampered (some x) with
          card := c.number, balance := c.balance, cardSeq := c.seq, tag := c.tag } s t
      ∧ raisedOnce .tamper s.stl.notices t.stl.notices ∧ t.flash x = some (s.svc.tickCount + 64))

/-- Steps 4 to 6 of a presentation refuse (R35 to R37, R39, R41). BLOCKED: with no pending-tear one REFUSAL entry; a
pending-tear is resolved first where a row of R54 resolves it, and stands otherwise (log 27; the side of its
TEAR_RESOLVED entry: log 19). CONCURRENT: one CLONE_SUSPECT entry with the other slot's new tag, that slot untouched,
no deny entry. Both are recorded as R98 gives. CLONE, for a sequence behind the sighting or equal with another tag
(R92), or at rows 6 and 7 of R54: the local add of R88, one CLONE entry with its result and the tag held, the CLONE
notice, the sighting as it was and touched. -/
def Obligations.ScreeningRefuses : Prop :=
  ∀ (x : Side) (image : List Byte) (s : State), Presentable s x → Readable s image →
    let c := readCard image
    let blocked := c.flags.getLsbD 1 = true
    let presented (post : State → Prop) : Prop :=
      ∃ t, exec (.cardPresent (sideCode (some x) :: image)) s = .next t ∧ post t
    (blocked → (∀ e r, s.sighting c.number = some e → e.tear = some r → tearVerdict r c.seq c.tag = none) →
      presented fun t => refused s t x c 23 ∧ refusalSeen s t c ∧ t.rjn.reserved = s.rjn.reserved
        ∧ onlyEntry (s.shows x c .refusal .blocked) s t)
    ∧ (blocked → ∀ e r w, s.sighting c.number = some e → e.tear = some r →
        tearVerdict r c.seq c.tag = some w → presented fun t =>
          refused s t x c 23 ∧ t.rjn.reserved + 2 = s.rjn.reserved
          ∧ (∃ e', t.sighting c.number = some e' ∧ e'.tear = none)
          ∧ ∃ es q, t.rjn.journal = s.rjn.journal
              ++ { s.resolution c.number r w with seq := s.rjn.nextSeq } :: es
            ∧ { s.shows x c .refusal .blocked with seq := q } ∈ es)
    ∧ (¬blocked → ∀ sl, s.slot (Side.other x) = some sl → sl.card = c.number →
        presented fun t => refused s t x c 24 ∧ refusalSeen s t c ∧ t.rjn.reserved = s.rjn.reserved
          ∧ onlyEntry { s.shows x c .cloneSuspect .concurrent with extra := sl.newTag.toNat } s t)
    ∧ (Sound s x image → ∀ e, s.sighting c.number = some e →
        ((e.tear = none ∧ ((c.seq = e.seq ∧ c.tag ≠ e.tag) ∨ seqOrder c.seq e.seq = .behind))
          ∨ ∃ r, e.tear = some r ∧ tearVerdict r c.seq c.tag = none) →
        presented fun t => refused s t x c 25 ∧ t.rjn.reserved = s.rjn.reserved
          ∧ t.sighting c.number = some e ∧ t.scu.sightings.getLast? = some e
          ∧ raisedOnce .clone s.stl.notices t.stl.notices
          ∧ ∃ code, locallyAdded s t c.number code
            ∧ onlyEntry { s.shows x c .clone .clone with extra := code * 65536 + e.tag.toNat } s t)

/-- Steps 8 and 9 refuse (R39, R42, R43, R45): PASSBACK at side U, with the age of the open entry; LOW_BALANCE at side U
for either purse test and at side P for the purse stage, with the charge the verdict would have made and its detail. One
REFUSAL entry, no image, no slot, W unchanged, and the refusal recorded by SCU (R98). What the classification and the
purse tests answer is stated in FareClassesAreChosen. -/
def Obligations.ChargesRefused : Prop :=
  ∀ (x : Side) (image : List Byte) (s : State), Presentable s x → Screened s x image →
    s.allows (readCard image) →
    let c := readCard image
    let answered (code : Byte) (e : Entry) : Prop :=
      ∃ t, exec (.cardPresent (sideCode (some x) :: image)) s = .next t
      ∧ refused s t x c code ∧ refusalSeen s t c ∧ t.rjn.reserved = s.rjn.reserved ∧ onlyEntry e s t
    (x = .u → isPassback s c = true →
      answered 27 { s.shows x c .refusal .passback with
        extra := (((s.svc.day : Int) - c.entryDay) * 86400 + ((s.svc.secs : Int) - c.entrySecs)).toNat })
    ∧ (x = .u → isPassback s c = false → ∀ n, entryPurse s c (classifyEntry s c) = some n →
      answered 28 { s.shows x c .refusal .lowBalance with
        amount := (classifyEntry s c).rating.charge, extra := n })
    ∧ (x = .p → (classifyExit s c).rating.passed = false →
      answered 28 { s.shows x c .refusal .lowBalance with
        amount := (classifyExit s c).rating.charge, extra := 2 })

/-- The deny list matches (R38, R82): REFUSE_AND_WRITE, reason DENIED, charge 0; the issued image differs from the
presented one in BLOCKED, sequence, tag, last writer and record check alone, with the fields of an absent entry record
zero (R2, R15; of one that was absent already: the model's reading, log 45); RED flashes, and the REFUSE tone is
requested. -/
def Obligations.DeniedCardIsBlocked : Prop :=
  ∀ (x : Side) (image : List Byte) (s : State), Presentable s x → Screened s x image →
    s.rck.current ≠ none → s.setup.ok → s.setup.stationCode < 65536 →
    (∃ e ∈ s.scu.deny, e.base ≤ (readCard image).number
      ∧ (readCard image).number < e.base + 2 ^ e.width) →
    ∃ t, exec (.cardPresent (sideCode (some x) :: image)) s = .next t
    ∧ keepsBut [.lpt, .sgu, .ltu, .rjn, .stl, .svc, .scu, .txu, .rck] s t
    ∧ t.flash x = some (s.svc.tickCount + 64)
    ∧ (toneStarts s .refuse = true → t.sgu.tone = some .refuse ∧ t.sgu.pulses = 3)
    ∧ ∃ issued n,
      let c := readCard image
      imageIssued s t x c n issued .refuseAndWrite
      ∧ n = { (if c.entryOpen = true then c else clearEntry c) with
          flags := c.flags ||| 2, seq := n.seq, tag := n.tag, writer := n.writer }
      ∧ t.lpt.responseSlot = some { kind := 0x81, overrun := false
                                    body := 0 :: verdictBytes 4 26 0 c.balance (lowCue s c c.balance) issued }

/-- An accepted presentation (R40 to R45, R96): neither denied nor a passback nor short of money. At side U the issued
image opens an entry here and now; at side P it closes the entry, clears its record and sets the last exit. The balance
falls by the charge of the verdict, which is the charge of the rating (FareClassesAreChosen states what the
classification answers); no tone is requested. The verdict is offered to ADS, and a tag stands on its slot (R170 to
R172). -/
def Obligations.AcceptedCardIsWritten : Prop :=
  ∀ (x : Side) (image : List Byte) (s : State), Presentable s x → Screened s x image →
    s.rck.current ≠ none → s.setup.ok → 0 < s.setup.stationCode → s.setup.stationCode < 65536 → s.clockOk →
    s.allows (readCard image) →
    (x = .u → isPassback s (readCard image) = false
      ∧ entryPurse s (readCard image) (classifyEntry s (readCard image)) = none) →
    (x = .p → (classifyExit s (readCard image)).rating.passed = true) →
    ∃ t, exec (.cardPresent (sideCode (some x) :: image)) s = .next t
    ∧ keepsBut [.lpt, .sgu, .ltu, .rjn, .stl, .svc, .scu, .txu, .rck, .ads] s t ∧ t.sgu.tone = s.sgu.tone
    ∧ ∃ issued n,
      let c := readCard image
      let k := if x = .u then classifyEntry s c else classifyExit s c
      imageIssued s t x c n issued .accept
      ∧ (∃ sl, t.slot x = some sl ∧ sl.reason = k.reason ∧ sl.charge = k.rating.charge
          ∧ sl.entryStation = k.entryStation ∧ auditOffered s t c x .accept k.reason k.rating sl.audit)
      ∧ n.flags.getLsbD 1 = false ∧ n.balance = c.balance - k.rating.charge
      ∧ (x = .u → n.entryOpen = true ∧ n.entryStation = s.setup.stationCode ∧ n.entryZone = s.setup.zone
          ∧ n.entryLane = s.laneAddr ∧ n.entryDay = s.svc.day ∧ n.entrySecs = s.svc.secs
          ∧ n.transfers = c.transfers ∧ n.spendDay = c.spendDay ∧ n.spendAmount = c.spendAmount
          ∧ n.exitDay = c.exitDay ∧ n.exitSecs = c.exitSecs)
      ∧ (x = .p → n.entryOpen = false ∧ n.entryStation = 0 ∧ n.entryDay = 0 ∧ n.exitDay = s.svc.day
          ∧ n.exitSecs = s.svc.secs ∧ n.transfers = k.rating.transfers
          ∧ n.spendAmount = k.rating.spendAmount)
      ∧ t.lpt.responseSlot = some { kind := 0x81, overrun := false
                                    body := 0 :: verdictBytes 1 k.reason.code k.rating.charge n.balance
                                      (lowCue s c n.balance) issued }

/-- A consistent card with an unused-credit mark of the presenting side's direction, its deadline not yet reached, is
re-opened (R37, R40, R93, R97, R110, R148), whatever the deny list says: ACCEPT_NO_WRITE, reason REOPEN, charge 0, no
image, no slot and W unchanged; one REOPEN entry and one reservation from the free pool; a REOPEN credit at the tail of
its queue, with the grant where the leaves stand CLOSED; the mark consumed, the sighting kept at its sequence and tag
with this lane, now and the direction's event (origin LOCAL: the model's reading, log 35); the ACCEPT tone requested;
the verdict offered to ADS, and a tag standing on the credit (R170, R171). The entry comes before the credit (log 20). -/
def Obligations.ReopenAccepts : Prop :=
  ∀ (x : Side) (image : List Byte) (s : State), Presentable s x → Sound s x image →
    ∀ e m, s.sighting (readCard image).number = some e → e.tear = none → Consistent (readCard image) e →
    e.mark = some m → m.dir = x → s.reached m.deadline = false →
    let c := readCard image
    ∃ t tagged, exec (.cardPresent (sideCode (some x) :: image)) s = .next t
    ∧ keepsBut [.lpt, .sgu, .ltu, .rjn, .stl, .svc, .scu, .pcu, .lfc, .ads] s t
    ∧ t.lpt.responseSlot = some { kind := 0x81, overrun := false
                                  body := 0 :: verdictBytes 2 7 0 c.balance (lowCue s c c.balance) [] }
    ∧ onlyEntry (s.shows x c .reopen .reopen) s t ∧ t.rjn.reserved = s.rjn.reserved + 1
    ∧ t.queue x = s.queue x ++ [{ kind := .reopen, card := some c.number, creator := s.rjn.nextSeq
                                  tick := s.svc.tickCount, audit := tagged }]
    ∧ t.queue (Side.other x) = s.queue (Side.other x)
    ∧ (s.lfc.leaf = .closed → choice s = none → t.lfc.grant = some x ∧ t.lfc.leaf.towards x = true)
    ∧ (toneStarts s .accept = true → t.sgu.tone = some .accept ∧ t.chan .signal = .start 16 6)
    ∧ auditOffered s t c x .acceptNoWrite .reopen .nothing tagged
    ∧ t.sighting c.number = some { e with
        mark := none, event := if x = .u then .entry else .exit, day := s.svc.day, secs := s.svc.secs
        station := s.setup.stationCode, lane := s.laneAddr, origin := .localOrigin }
    ∧ t.scu.markOrder = s.scu.markOrder.filter (· != c.number) ∧ t.scu.deny = s.scu.deny

/-- A presentation of a card whose entry holds a pending-tear (R54, R55). Rows 1 and 3 to 5, and row 2 of a
REFUSE_AND_WRITE tear whose card is not BLOCKED (log 28): the TEAR_RESOLVED entry comes first (its side: log 19),
NOT_WRITTEN for the old image or another tag at the new sequence, WRITTEN for the new image or one ahead of it; the
tear is gone, and the card is screened fresh: a card without a mark is accepted or denied as any other, against what
the resolution left. Row 2 of an ACCEPT tear: ACCEPT_NO_WRITE, reason TEAR_COMPLETED, with TEAR_RESOLVED (WRITTEN) and
then TEAR_COMPLETED journaled, the tear's other reservation standing behind its credit, the sighting at the new image
with event and time now (R97; its station, lane and origin stay, the model's reading, log 43). Rows 6 and 7 are CLONE:
ScreeningRefuses states them. -/
def Obligations.TearRowsScreen : Prop :=
  ∀ (x : Side) (image : List Byte) (s : State), Presentable s x → Sound s x image →
    ∀ e r, s.sighting (readCard image).number = some e → e.tear = some r →
    let c := readCard image
    let completes := c.seq = r.newSeq ∧ c.tag = r.newTag ∧ ¬(c.seq = r.oldSeq ∧ c.tag = r.oldTag) ∧ x = r.side
      ∧ r.kind = .accept
    (¬completes → ∀ w, tearVerdict r c.seq c.tag = some w →
      ∃ t e', exec (.cardPresent (sideCode (some x) :: image)) s = .next t
      ∧ firstEntry (s.resolution c.number r w) s t ∧ t.sighting c.number = some e' ∧ e'.tear = none
      ∧ (e.mark = none → ¬s.allows c →
          ∃ sl, t.slot x = some sl ∧ sl.card = c.number ∧ sl.kind = .refuseAndWrite ∧ sl.oldSeq = c.seq
            ∧ e'.inFlight.isSome = true ∧ t.rjn.reserved = s.rjn.reserved + 1)
      ∧ (e.mark = none → s.allows c →
          (x = .u → isPassback s c = false ∧ entryPurse s c (classifyEntry s c) = none) →
          (x = .p → (classifyExit s c).rating.passed = true) →
          ∃ sl, t.slot x = some sl ∧ sl.card = c.number ∧ sl.kind = .accept ∧ sl.oldSeq = c.seq
            ∧ e'.inFlight.isSome = true ∧ t.rjn.reserved = s.rjn.reserved + 1)
      ∧ (e.mark = none → s.allows c → x = .u → isPassback s c = true →
          t.slot x = none ∧ t.rck = s.rck ∧ t.rjn.reserved + 2 = s.rjn.reserved))
    ∧ (completes → ∃ t tagged, exec (.cardPresent (sideCode (some x) :: image)) s = .next t
      ∧ keepsBut [.lpt, .sgu, .ltu, .rjn, .stl, .svc, .scu, .pcu, .lfc, .ads] s t
      ∧ t.lpt.responseSlot = some { kind := 0x81, overrun := false
                                    body := 0 :: verdictBytes 2 8 0 c.balance (lowCue s c c.balance) [] }
      ∧ t.rjn.journal = s.rjn.journal
        ++ [{ s.resolution c.number r true with seq := s.rjn.nextSeq },
            { s.shows x c .tearCompleted .tearCompleted with
              extra := r.tearSeq.toNat, seq := s.rjn.nextSeq + 1 }]
      ∧ t.rjn.reserved + 1 = s.rjn.reserved
      ∧ t.queue x = s.queue x ++ [{ kind := .tearCompleted, card := some c.number, creator := s.rjn.nextSeq + 1
                                    tick := s.svc.tickCount, audit := tagged }]
      ∧ t.queue (Side.other x) = s.queue (Side.other x)
      ∧ (toneStarts s .accept = true → t.sgu.tone = some .accept ∧ t.chan .signal = .start 16 6)
      ∧ auditOffered s t c x .acceptNoWrite .tearCompleted .nothing tagged
      ∧ t.sighting c.number = some { e with
          seq := r.newSeq, tag := r.newTag, tear := none, event := if x = .u then .entry else .exit
          day := s.svc.day, secs := s.svc.secs })

/-! ## Write outcomes -/

/-- A DONE (R48, R49, R110, R148): the outcome entry is written from the first reservation. An ACCEPT leaves a PAID
credit at the tail of its queue with one reservation and requests the ACCEPT tone, or, in FREE, with its direction not
permitted or with the leaves in FAULT, has the credit cancelled at its creation (before the queue is handed on: log
30). A REFUSE_AND_WRITE leaves none. The slot is FREE, its write wait stopped, and the reply is OK. -/
def Obligations.DoneMakesCredit : Prop :=
  ∀ (x : Side) (sl : Slot) (s : State), s.laneOpen → s.formed → s.books → s.slot x = some sl →
    ∃ t, exec (.writeOutcome ([sideCode (some x), 1] ++ toBE 2 sl.newTag.toNat)) s = .next t
    ∧ keepsBut leafParts { s with txu := t.txu } t ∧ t.slot x = none
    ∧ t.slot (Side.other x) = s.slot (Side.other x)
    ∧ t.lpt.responseSlot = some { kind := 0x82, body := [0], overrun := false }
    ∧ (t.chan (writeOf x)).state = .stopped ∧ t.queue (Side.other x) = s.queue (Side.other x)
    ∧ firstEntry { s.entry (if sl.kind = .refuseAndWrite then .blockWritten else if x = .u then .entry else .exit)
        sl.reason (some x) with
        card := sl.card, amount := sl.charge, balance := sl.newBalance, cardSeq := sl.newSeq, tag := sl.newTag
        extra := if sl.kind = .accept then sl.entryStation else 0 } s t
    ∧ (∃ e, t.sighting sl.card = some e ∧ e.inFlight = none)
    ∧ (∀ e, s.sighting sl.card = some e → e.seq = sl.oldSeq → e.tag = sl.oldTag →
        ∃ e', t.sighting sl.card = some e' ∧ e'.seq = sl.newSeq ∧ e'.tag = sl.newTag)
    ∧ (sl.kind = .refuseAndWrite → t.queue x = s.queue x ∧ t.rjn.reserved + 3 = s.rjn.reserved)
    ∧ (sl.kind = .accept → s.permits x = true → s.lfc.leaf ≠ .fault →
        t.rjn.reserved + 2 = s.rjn.reserved
        ∧ t.queue x = s.queue x ++ [{ kind := .paid, card := some sl.card, creator := s.rjn.nextSeq
                                      tick := s.svc.tickCount, audit := sl.audit }]
        ∧ (toneStarts s .accept = true → t.sgu.tone = some .accept ∧ t.chan .signal = .start 16 6)
        ∧ (s.lfc.leaf = .closed → choice s = none → t.lfc.grant = some x ∧ t.lfc.leaf.towards x = true))
    ∧ (sl.kind = .accept → (s.permits x = false ∨ s.lfc.leaf = .fault) →
        t.queue x = s.queue x ∧ t.rjn.reserved + 3 = s.rjn.reserved ∧ t.sgu.tone = s.sgu.tone
        ∧ ∃ e ∈ t.rjn.journal, e.kind = .creditCancelled ∧ e.card = sl.card ∧ e.side = some x
          ∧ e.reason = (if s.effMode = .free then .free else if s.permits x = false then .mode else .fault)
          ∧ e.extra = s.rjn.nextSeq.toNat)

/-- A NOT_WRITTEN (R50): REFUSAL with reason WRITE_FAILED from the first reservation, carrying the presented image and
in its extra the tag no card holds; the others released, the slot FREE, no credit and no charge, the sighting REFUSED in
its event alone: its sequence and tag
stay as they stand, moved by a merge or not (the model's reading, log 42), RED flashing. -/
def Obligations.NotWrittenVoidsCharge : Prop :=
  ∀ (x : Side) (sl : Slot) (s : State), s.laneOpen → s.formed → s.books → s.slot x = some sl →
    ∃ t, exec (.writeOutcome ([sideCode (some x), 2] ++ toBE 2 sl.newTag.toNat)) s = .next t
    ∧ keepsBut [.txu, .rjn, .scu, .ltu, .ads, .stl, .svc, .lpt, .sgu] s t ∧ t.slot x = none
    ∧ t.slot (Side.other x) = s.slot (Side.other x)
    ∧ t.lpt.responseSlot = some { kind := 0x82, body := [0], overrun := false }
    ∧ (t.chan (writeOf x)).state = .stopped ∧ t.rjn.reserved + 3 = s.rjn.reserved
    ∧ firstEntry { s.entry .refusal .writeFailed (some x) with
        card := sl.card, balance := sl.newBalance + sl.charge, cardSeq := sl.oldSeq, tag := sl.oldTag
        extra := sl.newTag.toNat } s t
    ∧ (∀ e, s.sighting sl.card = some e →
        t.sighting sl.card = some { e with inFlight := none, event := .refused })
    ∧ t.flash x = (if s.effMode = .free then s.flash x else some (s.svc.tickCount + 64))
    ∧ (sl.audit = true → t.ads.phase = .valid
        ∧ ∃ m, t.ads.sample = some m ∧ m.outcome = some .writeFailed ∧ m.writeResult = some .notWritten)
    ∧ (sl.audit = false → t.ads = s.ads)

/-! ## Lane requests of the service clock, the passage and the signals -/

/-- LANE HOLD and LANE RELEASE (R24, R29): the hold is set or cleared with its reason, the answer is OK, and
SERVICE_CHANGED is raised to both masters when the reason set changes; no credit, leaf or entry is touched. CUE TONE
(R149): a pulse count of 0 or above 8 is BAD_FIELD and leaves the arbiter alone; otherwise the answer is OK with PLAYED
(1) and the pattern started while the arbiter is idle, or DROPPED (2) and nothing started; in every mode and whatever
the out-of-service reasons, with no lamp and no entry changed. Any other request cuts a CUE off. A started pattern
sounds on TONE at its frequency (R145). -/
def Obligations.HoldAndCueAct : Prop :=
  (∀ (held : Bool) (s : State), s.laneOpen → s.formed →
    ∃ t, exec (if held = true then .laneHold [] else .laneRelease []) s = .next t
    ∧ keepsBut [.lpt, .stl, .svc, .sgu] s t
    ∧ t.svc = { s.svc with laneHold := held, reasons := { s.svc.reasons with laneHold := held } }
    ∧ t.lpt = t.attnOn (s.laneTaken (if held = true then 0x03 else 0x04) [] okay
        { s.lpt with notices := toldOf s t s.lpt.notices })
    ∧ t.stl = { s.stl with notices := toldOf s t s.stl.notices }
    ∧ t.sgu = t.lampsOn s.sgu)
  ∧ (∀ (b : Byte) (s : State), s.laneOpen → s.formed →
    ((b = 0 ∨ 8 < b.toNat) → ∃ t, exec (.cueTone [b]) s = .next t ∧ keepsBut [.lpt] s t
      ∧ t.lpt = t.attnOn (s.laneTaken 0x06 [b] (refusal .badField) s.lpt))
    ∧ (0 < b.toNat → b.toNat ≤ 8 → s.sgu.tone = none → ∃ t, exec (.cueTone [b]) s = .next t
      ∧ keepsBut [.lpt, .sgu, .ltu] s t ∧ (∀ i, i ≠ .signal → t.chan i = s.chan i)
      ∧ t.lpt = t.attnOn (s.laneTaken 0x06 [b] { result := .ok, data := [1] } s.lpt)
      ∧ t.sgu = { s.sgu with tone := some .cue, pulses := b.toNat, toneOn := true }
      ∧ t.chan .signal = .start 12 6 ∧ t.toneOut = .square 512)
    ∧ (0 < b.toNat → b.toNat ≤ 8 → s.sgu.tone ≠ none → ∃ t, exec (.cueTone [b]) s = .next t
      ∧ keepsBut [.lpt] s t
      ∧ t.lpt = t.attnOn (s.laneTaken 0x06 [b] { result := .ok, data := [2] } s.lpt)))
  ∧ ∀ (p : Tone) (n : Nat) (s : State), s.sgu.tone = some .cue → p ≠ .cue →
    (requestTone p n s).sgu.tone = some p ∧ (requestTone p n s).sgu.pulses = n
      ∧ (requestTone p n s).toneOut = .square (match p with
        | .alarm => 4096
        | .refuse => 1024
        | .accept => 2048
        | .cue => 512)

/-- STAFF PASS (R109 to R112, R111): BAD_FIELD for a direction outside its set; then NOT_PERMITTED, LANE_BUSY and
NOT_READY, in that order, with nothing changed; otherwise a STAFF_PASS entry and one reservation from the free pool, a
STAFF credit at the tail of its queue, and the grant when the leaves stand CLOSED with empty queues. -/
def Obligations.StaffPassMakesCredit : Prop :=
  ∀ (b : Byte) (s : State), s.laneOpen → s.formed →
    let refused (r : Result) : Prop := ∃ t, exec (.staffPass [b]) s = .next t ∧ keepsBut [.lpt] s t
      ∧ t.lpt = t.attnOn (s.laneTaken 0x05 [b] (refusal r) s.lpt)
    (b ≠ 1 → b ≠ 2 → refused .badField)
    ∧ ∀ d, b = sideCode (some d) →
      (s.permits d = false → refused .notPermitted)
      ∧ (s.permits d = true → 4 ≤ (s.queue d).length + (s.claim d).toNat → refused .laneBusy)
      ∧ (s.permits d = true → (s.queue d).length + (s.claim d).toNat < 4 →
          (s.lfc.leaf = .fault ∨ s.free < 2) → refused .notReady)
      ∧ (s.permits d = true → (s.queue d).length + (s.claim d).toNat < 4 → s.lfc.leaf ≠ .fault → 2 ≤ s.free →
        ∃ t, exec (.staffPass [b]) s = .next t ∧ keepsBut [.lpt, .stl, .svc, .rjn, .pcu, .lfc, .ltu, .sgu, .ads] s t
        ∧ t.formed
        ∧ t.lpt.responseSlot = some { kind := 0x85, body := [0], overrun := false }
        ∧ t.queue d = s.queue d ++ [{ kind := .staff, card := none, creator := s.rjn.nextSeq
                                      tick := s.svc.tickCount, audit := false }]
        ∧ t.queue (Side.other d) = s.queue (Side.other d)
        ∧ t.rjn.reserved = s.rjn.reserved + 1 ∧ onlyEntry (s.entry .staffPass .staff (some d)) s t
        ∧ t.sgu.tone = s.sgu.tone ∧ t.pcu.freePeriod = s.pcu.freePeriod
        ∧ t.ads.phase = s.ads.phase ∧ t.ads.counter = s.ads.counter
        ∧ (s.lfc.leaf = .closed → s.queue d = [] → s.queue (Side.other d) = [] →
            t.lfc.grant = some d ∧ t.lfc.leaf.towards d = true ∧ t.lfc.openSide = some (openSideOf d))
        ∧ (s.lfc.leaf = .opened d → s.queue d = [] → t.lfc.leaf = .opened d
            ∧ t.chan (windowOf d) = if s.anyBeam = true then .startHeld (windowReload s) (windowCompare s)
              else .start (windowReload s) (windowCompare s)))

/-! ## Reports -/

/-- The reports (R87, R165, R167, R175, R188, R193) change nothing but the port they came by. LANE STATUS answers the
77 bytes of the status record, its fields where R188 puts them (the head kind of a STAFF credit, the leaf direction of
a state that carries none, and the day and seconds of an absent pending switch are the model's reading, log 34), and
STATION POLL the 46 of the poll record, with the journal's counters, the deny list's version and count and the clock
where R193 puts them; JOURNAL FETCH answers the entries at and after a sequence that is uncollected, from the oldest
for one before it, none beyond the newest; DENY PROBE answers the covering entry of smallest width and the sighting
entry of the card; AUDIT READ answers the sample in VALID, else NOT_READY with the state. -/
def Obligations.ReportsChangeNothing : Prop :=
  ∀ s : State, s.formed →
    (∀ via, s.hearsVia reqLaneStatus via → ∃ t, exec (.laneStatus via []) s = .next t ∧ keepsBut [.lpt, .stl] s t
      ∧ t.lpt = t.attnOn (s.lptVia reqLaneStatus [] { result := .ok, data := statusRecord s } s.lpt via)
      ∧ t.stl = s.stlVia reqLaneStatus { result := .ok, data := statusRecord s } s.stl via)
    ∧ (statusRecord s).length = 77 ∧ s.statusFields (statusRecord s) ∧ (pollRecord s).length = 46
    ∧ field (pollRecord s) 4 4 = s.rjn.oldest.toNat ∧ field (pollRecord s) 8 4 = s.rjn.newest.toNat
    ∧ field (pollRecord s) 12 2 = s.free ∧ field (pollRecord s) 17 4 = s.scu.denyVersion.toNat
    ∧ (s.scu.deny.length ≤ 2048 → field (pollRecord s) 21 2 = s.scu.deny.length)
    ∧ (s.clockOk → field (pollRecord s) 40 2 = s.svc.day ∧ field (pollRecord s) 42 3 = s.svc.secs)
    ∧ ∀ (addr src : Byte), linkLive s = true → classOf s addr = some .own →
      let answered (c : Instr) (rq : Request) (a : Answer) : Prop := ∃ t, exec c s = .next t
        ∧ keepsBut [.stl] s t ∧ t.stl = s.linkTaken rq addr src a s.stl
      answered (.stationPoll addr src []) reqStationPoll { result := .ok, data := pollRecord s }
      ∧ (∀ (x : Word32) (c : Byte),
        let n := s.rjn.journal.length
        let d := (x - s.rjn.oldest).toNat
        let out := if d < n then (s.rjn.journal.drop d).take c.toNat
          else if d ≤ 2147483647 then [] else s.rjn.journal.take c.toNat
        answered (.journalFetch addr src (toBE 4 x.toNat ++ [c])) reqJournalFetch
          (if c = 0 ∨ 7 < c.toNat then refusal .badField
            else { result := .ok
                   data := toBE 4 s.rjn.oldest.toNat ++ toBE 4 s.rjn.newest.toNat ++ [BitVec.ofNat 8 out.length]
                     ++ out.flatMap entryBytes }))
      ∧ (∀ card : Word32, ∃ e,
        answered (.denyProbe addr src (toBE 4 card.toNat)) reqDenyProbe
          (if card = 0 ∨ card = 0xFFFFFFFF then refusal .badField
            else { result := .ok
                   data := denyBytes e ++ toBE 4 s.scu.denyVersion.toNat ++ toBE 2 s.scu.deny.length
                     ++ toBE 2 s.localCount ++ probeSighting (s.sighting card.toNat) })
        ∧ (∀ d, e = some d → d ∈ s.scu.deny ∧ d.covers card.toNat = true
            ∧ ∀ d' ∈ s.scu.deny, d'.covers card.toNat = true → d.width ≤ d'.width)
        ∧ (e = none → ∀ d ∈ s.scu.deny, d.covers card.toNat = false))
      ∧ (∀ m, s.ads.phase = .valid → s.ads.sample = some m →
        answered (.auditRead addr src []) reqAuditRead { result := .ok, data := auditReport s m }
        ∧ (auditReport s m).length = 71)
      ∧ (s.ads.phase ≠ .valid → answered (.auditRead addr src []) reqAuditRead
          { result := .notReady
            data := [s.ads.phase.code, s.ads.phase.armedCode] ++ toBE 2 s.ads.counter })

/-! ## Notice sets -/

/-- NOTICE FETCH and NOTICE MASK on either port act on that port's set alone (R190 to R192). A fetch answers the
recorded summary, the number of causes and each recorded cause of the fetched groups with its count, and sets those
counts to 0; a mask of 0 or with a bit above bit 4 is BAD_FIELD. A mask whose pairs are all in the set applies them in
order, HIDDEN losing the count, and answers the unmasked summary; any pair outside refuses the whole with BAD_FIELD. -/
def Obligations.NoticeSetsAreCollected : Prop :=
  ∀ (via : Via) (s : State), s.formed →
    let answered (c : Instr) (rq : Request) (body : List Byte) (a : Answer) (ns : List Notice) : Prop :=
      ∃ t, exec c s = .next t ∧ keepsBut [.lpt, .stl] s t
      ∧ t.lpt = t.attnOn (s.lptVia rq body a { s.lpt with
          notices := match via with
            | .lane => ns
            | .station _ _ => s.lpt.notices } via)
      ∧ t.stl = s.stlVia rq a { s.stl with
          notices := match via with
            | .lane => s.stl.notices
            | .station _ _ => ns } via
    (s.hearsVia reqNoticeFetch via → ∀ body : List Byte, body.length ≤ 1 →
      let mask := body.headD 0x1F
      let hit := fun n : Notice => decide (0 < n.count) && mask.getLsbD n.cause.group
      let out := (s.noticesVia via).filter hit
      ((mask = 0 ∨ mask &&& 0xE0 ≠ 0) →
        answered (.noticeFetch via body) reqNoticeFetch body (refusal .badField) (s.noticesVia via))
      ∧ (mask ≠ 0 → mask &&& 0xE0 = 0 →
        answered (.noticeFetch via body) reqNoticeFetch body
          { result := .ok
            data := [recordedSummary (s.noticesVia via), BitVec.ofNat 8 out.length]
              ++ out.flatMap fun n => [BitVec.ofNat 8 n.cause.code, BitVec.ofNat 8 n.count] }
          ((s.noticesVia via).map fun n => if hit n = true then { n with count := 0 } else n)))
    ∧ (s.hearsVia reqNoticeMask via → ∀ pairs : List (Byte × Byte), 1 ≤ pairs.length → pairs.length ≤ 16 →
      let body := pairs.flatMap fun p => [p.1, p.2]
      let inSet := fun p : Byte × Byte =>
        (∃ n ∈ s.noticesVia via, n.cause.code = p.1.toNat) ∧ p.2.toNat ≤ 2
      let ns := pairs.foldl (fun ns p => ns.map fun n =>
          if n.cause.code = p.1.toNat then
            { n with
              setting := if p.2 = 0 then .unmasked else if p.2 = 1 then .visible else .hidden
              count := if p.2 = 2 then 0 else n.count }
          else n) (s.noticesVia via)
      ((∃ p ∈ pairs, ¬inSet p) →
        answered (.noticeMask via body) reqNoticeMask body (refusal .badField) (s.noticesVia via))
      ∧ ((∀ p ∈ pairs, inSet p) →
        answered (.noticeMask via body) reqNoticeMask body
          { result := .ok, data := [unmaskedSummary ns] } ns))

/-! ## The journal's collection -/

/-- JOURNAL RELEASE (R155, R163, R166): the entries from the oldest to an uncollected sequence go, all of them for one
beyond the newest, none for one before the oldest; LOW and STOP are judged; an OVERRUN entry joins when free has risen
from 0 with a count standing, and the count returns to 0; the answer carries the number released and the oldest
sequence after it. -/
def Obligations.JournalReleaseFreesPlaces : Prop :=
  ∀ (addr src : Byte) (x : Word32) (s : State), s.formed → s.books → linkLive s = true →
    classOf s addr = some .own →
    let n := s.rjn.journal.length
    let d := (x - s.rjn.oldest).toNat
    let j := if d < n then d + 1 else if d ≤ 2147483647 then n else 0
    let due := s.free = 0 ∧ 0 < j ∧ 0 < s.rjn.overrun
    ∃ t, exec (.journalRelease addr src (toBE 4 x.toNat)) s = .next t
    ∧ keepsBut [.stl, .rjn, .svc, .lpt, .sgu] s t ∧ t.formed ∧ t.spaceJudged
    ∧ t.rjn.reserved = s.rjn.reserved
    ∧ (¬due → t.rjn.journal = s.rjn.journal.drop j ∧ t.rjn.nextSeq = s.rjn.nextSeq
        ∧ t.rjn.overrun = s.rjn.overrun ∧ t.free = s.free + j)
    ∧ (due → t.rjn.journal = s.rjn.journal.drop j
          ++ [{ s.entry .overrun .none none with extra := s.rjn.overrun, seq := s.rjn.nextSeq }]
        ∧ t.rjn.nextSeq = s.rjn.nextSeq + 1 ∧ t.rjn.overrun = 0 ∧ t.free + 1 = s.free + j)
    ∧ t.svc = { s.svc with reasons := { s.svc.reasons with journalStop := t.svc.reasons.journalStop } }
    ∧ (s.readinessOk → t.svc.reasons.journalStop = decide (t.free < 64))
    ∧ (∃ ns, t.stl = s.linkTaken reqJournalRelease addr src
        { result := .ok, data := toBE 2 j ++ toBE 4 t.rjn.oldest.toNat } { s.stl with notices := ns })
    ∧ (¬due → t.stl.notices = toldOf s t s.stl.notices)

/-! ## The deny list -/

/-- DENY DELTA (R83 to R85): the stages BAD_LENGTH, BAD_FIELD, VERSION_MISMATCH and TABLE_FULL, each of which leaves
list, version and add order as they were; DENY_STALE for a broadcast refused by any but the first; otherwise the
operations applied in order and the new version taken. An operation that finds room leaves exactly one entry of an
added base and width, with the station as its origin and now as its time, or none of a removed one, and every other
entry but an evicted LOCAL one. DENY WIPE (R86): every STATION entry goes, the version becomes 0, LOCAL entries stay as
they were with their add order; an own-address wipe is answered OK with the number of entries removed, a broadcast is
not answered. -/
def Obligations.DenyRequestsAct : Prop :=
  ((∀ (addr src : Byte) (body : List Byte) (s : State), s.formed → s.hears reqDenyDelta addr → body.length ≤ 240 →
    let n := (byteAt body 8).toNat
    let ops := readDenyOps n (body.drop 9)
    let opOk := fun o : DenyOp => (o.op = 1 ∨ o.op = 2) ∧ o.width ≤ 16 ∧ o.base % 2 ^ o.width = 0
      ∧ (o.op = 1 → o.reason = 1 ∨ o.reason = 2 ∨ o.reason = 3)
    let lengthOk := 9 ≤ body.length ∧ n ≤ 24 ∧ body.length = 9 + 7 * n
    let refused (a : Answer) (stale : Bool) : Prop :=
      ∃ t, exec (.denyDelta addr src body) s = .next t ∧ keepsBut [.stl] s t
      ∧ t.stl = s.linkTaken reqDenyDelta addr src a { s.stl with
          notices := if stale = true ∧ classOf s addr ≠ some .own then raiseIn .denyStale s.stl.notices
            else s.stl.notices }
    (¬lengthOk → refused (refusal .badLength) false)
    ∧ (lengthOk → (∃ o ∈ ops, ¬opOk o) → refused (refusal .badField) true)
    ∧ (lengthOk → (∀ o ∈ ops, opOk o) →
      (field body 0 4 ≠ s.scu.denyVersion.toNat →
        refused { result := .versionMismatch, data := toBE 4 s.scu.denyVersion.toNat } true)
      ∧ (field body 0 4 = s.scu.denyVersion.toNat → denyApplyAll s.now ops s.denyWork = none →
        refused (refusal .tableFull) true)
      ∧ (field body 0 4 = s.scu.denyVersion.toNat → ∀ w, denyApplyAll s.now ops s.denyWork = some w →
        ∃ t, exec (.denyDelta addr src body) s = .next t ∧ keepsBut [.stl, .scu] s t
        ∧ t.scu = { s.scu with
            deny := w.entries, denyLocal := w.locals, denyVersion := BitVec.ofNat 32 (field body 4 4) }
        ∧ t.stl = s.linkTaken reqDenyDelta addr src
            { result := .ok, data := toBE 4 (field body 4 4) ++ [BitVec.ofNat 8 w.evicted] } s.stl)))
  ∧ ∀ (now : DayTime) (w v : DenyWork) (o : DenyOp), denyApply now w o = some v →
    (o.op = 1 → ∃ r, stationDenyReason o.reason = some r
      ∧ (∀ e ∈ v.entries, e.base = o.base → e.width = o.width → e = stationEntry now o.base o.width r)
      ∧ stationEntry now o.base o.width r ∈ v.entries)
    ∧ (o.op ≠ 1 → (∀ e ∈ v.entries, e.base ≠ o.base ∨ e.width ≠ o.width) ∧ v.evicted = w.evicted)
    ∧ (v.evicted = w.evicted → ∀ e ∈ w.entries, (e.base ≠ o.base ∨ e.width ≠ o.width) → e ∈ v.entries)
    ∧ (v.evicted ≠ w.evicted → w.entries.length ≥ 2048 ∧ ∃ b rest, w.locals = b :: rest
        ∧ ∀ e ∈ w.entries, (e.base ≠ b ∨ e.width ≠ 0) → e ∈ v.entries))
  ∧ ∀ (addr src : Byte) (s : State), s.formed → s.hears reqDenyWipe addr →
    ∃ t, exec (.denyWipe addr src []) s = .next t ∧ keepsBut [.stl, .scu] s t
    ∧ t.scu = { s.scu with
        deny := s.scu.deny.filter fun e => e.origin == .localOrigin, denyVersion := 0 }
    ∧ t.stl = s.linkTaken reqDenyWipe addr src
        { result := .ok
          data := toBE 2 (s.scu.deny.filter fun e => e.origin == .station).length } s.stl

/-! ## Sightings -/

/-- SIGHTING (R99 to R101): BAD_FIELD for a field outside its range and IGNORED for the lane's own sighting, with nothing
changed; otherwise the merge, judged by the forward distance of the sequence (R12), with the entry touched, or against the pending-tear of the
card, whose resolution is written from one of its two reservations (its side is the model's reading, log 19) with the
other released. -/
def Obligations.SightingsAreMerged : Prop :=
  ∀ (addr src : Byte) (card : Word32) (q e station : Word16) (day secs : Nat) (lane ev : Byte) (s : State),
    s.formed → s.books → s.hears reqSighting addr → day < 65536 → secs < 16777216 →
    let n := card.toNat
    let body := toBE 4 n ++ toBE 2 q.toNat ++ toBE 2 e.toNat ++ toBE 2 day ++ toBE 3 secs
      ++ toBE 2 station.toNat ++ [lane, ev]
    let good := card ≠ 0 ∧ card ≠ 0xFFFFFFFF ∧ 1 ≤ day ∧ day ≤ 65534 ∧ secs ≤ 86399 ∧ station ≠ 0
      ∧ lane.toNat ≤ 63 ∧ (ev = 1 ∨ ev = 2 ∨ ev = 3)
    let own := station.toNat = s.setup.stationCode ∧ lane.toNat = s.laneAddr
    let seen := fun x : Sighting => { x with
      seq := q, tag := e, day := day, secs := secs, station := station.toNat, lane := lane.toNat
      event := if ev = 1 then .entry else if ev = 2 then .exit else .refused, origin := .remote }
    let answered (ps : List Part) (a : Answer) (post : State → Prop) : Prop :=
      ∃ t, exec (.sighting addr src body) s = .next t ∧ keepsBut ps s t ∧ post t
      ∧ ∃ ns, t.stl = s.linkTaken reqSighting addr src a { s.stl with notices := ns }
    let ok (r : Byte) : Answer := { result := .ok, data := [r] }
    let quiet (t : State) : Prop := t.stl.notices = s.stl.notices
    let others (t : State) : Prop := (∀ m, m ≠ n → t.sighting m = s.sighting m)
      ∧ t.scu.sightings.getLast? = t.sighting n
    let clone (x : Sighting) : Prop :=
      answered [.stl, .scu, .rjn, .svc, .lpt, .sgu] (ok 4) fun t =>
        t.sighting n = some x ∧ others t ∧ raisedOnce .clone s.stl.notices t.stl.notices
        ∧ t.rjn.reserved = s.rjn.reserved
        ∧ ∃ r : LocalAdd, (r ≠ .notAdded → ∃ d ∈ t.scu.deny, d.base = n ∧ d.width = 0)
          ∧ (r ≠ .added → t.scu.deny = s.scu.deny)
          ∧ (0 < s.free → onlyEntry { s.entry .clone .sighting none with
              card := n, cardSeq := q, tag := e, extra := r.code * 65536 + x.tag.toNat } s t)
    (¬good → answered [.stl] (refusal .badField) quiet)
    ∧ (good → own → answered [.stl] (ok 0) quiet)
    ∧ (good → ¬own → s.sighting n = none → answered [.stl, .scu] (ok 1) fun t => quiet t
        ∧ t.scu.sightings.getLast? = t.sighting n
        ∧ ∃ x, t.sighting n = some (seen x) ∧ x.card = n ∧ x.inFlight = none ∧ x.tear = none ∧ x.mark = none)
    ∧ (good → ¬own → ∀ x, s.sighting n = some x → x.tear = none →
        (seqOrder q x.seq = .ahead →
          answered [.stl, .scu] (ok 2) fun t => quiet t ∧ others t ∧ t.sighting n = some (seen x))
        ∧ (q = x.seq → e = x.tag →
          answered [.stl, .scu] (ok 3) fun t => quiet t ∧ others t ∧ t.sighting n = some x)
        ∧ (q = x.seq → e ≠ x.tag → clone x)
        ∧ (seqOrder q x.seq = .behind → answered [.stl] (ok 0) quiet))
    ∧ (good → ¬own → ∀ x tear, s.sighting n = some x → x.tear = some tear →
        let resolved (r : Byte) (reason : Reason) : Prop :=
          answered [.stl, .scu, .rjn, .svc, .lpt, .sgu] (ok r) fun t =>
            t.sighting n = some { (seen x) with tear := none } ∧ others t
            ∧ t.rjn.reserved + 2 = s.rjn.reserved
            ∧ firstEntry { s.entry .tearResolved reason (some tear.side) with
                card := n, amount := if reason = .notWritten then 0 else tear.charge
                balance := if reason = .notWritten then 0 else tear.newBalance
                cardSeq := tear.newSeq, tag := tear.newTag, extra := tear.tearSeq.toNat } s t
        (q = tear.newSeq → e = tear.newTag → resolved 5 .written)
        ∧ (q = tear.newSeq → e ≠ tear.newTag → resolved 6 .notWritten)
        ∧ (seqOrder q tear.newSeq = .ahead → resolved 5 .written)
        ∧ (seqOrder q tear.newSeq = .behind → q = tear.oldSeq → e = tear.oldTag →
            answered [.stl] (ok 0) quiet)
        ∧ (seqOrder q tear.newSeq = .behind → q = tear.oldSeq → e ≠ tear.oldTag → clone x)
        ∧ (seqOrder q tear.newSeq = .behind → q ≠ tear.oldSeq → answered [.stl] (ok 0) quiet))

/-! ## Fares -/

/-- FARE CHUNK and FARE CLOSE (R59 to R62). A chunk without data is BAD_LENGTH and one beyond the image BAD_FIELD, with
nothing changed; another replaces exactly its bytes of the STANDBY buffer, makes the bank INVALID without maxima and
cancels a pending switch. A close stops at the first of LENGTH, CHECK and FIELD that fails, makes the STANDBY bank
INVALID and cancels a pending switch; one that passes makes it VALID with its maxima and leaves the pending switch. The
ACTIVE bank is not reached. -/
def Obligations.FareImagesLoad : Prop :=
  ∀ (addr src : Byte) (s : State), s.formed → s.readinessOk →
    (s.hears reqFareChunk addr → ∀ (off : Word16) (data : List Byte), data.length ≤ 237 →
      let body := toBE 2 off.toNat ++ data
      let refused (r : Result) : Prop := ∃ t, exec (.fareChunk addr src body) s = .next t ∧ keepsBut [.stl] s t
        ∧ t.stl = s.linkTaken reqFareChunk addr src (refusal r) s.stl
      (data = [] → refused .badLength)
      ∧ (data ≠ [] → 704 < off.toNat + data.length → refused .badField)
      ∧ (data ≠ [] → off.toNat + data.length ≤ 704 → ∃ t, exec (.fareChunk addr src body) s = .next t
        ∧ keepsBut [.stl, .fru] s t ∧ t.stl = s.linkTaken reqFareChunk addr src okay s.stl
        ∧ t.fru.active = s.fru.active ∧ t.activeBank = s.activeBank ∧ t.fru.pendingSwitch = none
        ∧ t.fru.secondHanded = s.fru.secondHanded
        ∧ t.standbyBank.valid = false ∧ t.standbyBank.maxima = none ∧ t.standbyBank.buffer.length = 704
        ∧ ∀ i, i < 704 → byteAt t.standbyBank.buffer i
          = if off.toNat ≤ i ∧ i < off.toNat + data.length then byteAt data (i - off.toNat)
            else byteAt s.standbyBank.buffer i))
    ∧ (s.hears reqFareClose addr → ∀ (total : Word16) (check : Word32),
      let body := toBE 2 total.toNat ++ toBE 4 check.toNat
      let image := s.standbyBank.buffer
      let sound := total = 704 ∧ crc32 0xFFFFFFFF image = check
      let failed (stage : Byte) (off : Nat) : Prop := ∃ t, exec (.fareClose addr src body) s = .next t
        ∧ keepsBut [.stl, .fru] s t
        ∧ t.stl = s.linkTaken reqFareClose addr src { result := .badImage, data := [stage] ++ toBE 2 off } s.stl
        ∧ t.fru.active = s.fru.active ∧ t.activeBank = s.activeBank ∧ t.fru.pendingSwitch = none
        ∧ t.standbyBank = { buffer := image, valid := false, maxima := none }
      (total ≠ 704 → failed 1 0)
      ∧ (total = 704 → crc32 0xFFFFFFFF image ≠ check → failed 2 0)
      ∧ (sound → ∀ off, fieldFault image = some off → failed 3 off)
      ∧ (sound → fieldFault image = none → ∃ t, exec (.fareClose addr src body) s = .next t
        ∧ keepsBut [.stl, .fru] s t
        ∧ t.stl = s.linkTaken reqFareClose addr src { result := .ok, data := [0, 0, 0] } s.stl
        ∧ t.fru.active = s.fru.active ∧ t.activeBank = s.activeBank
        ∧ t.fru.pendingSwitch = s.fru.pendingSwitch
        ∧ t.standbyBank = { buffer := image, valid := true, maxima := some (maximaOf image) }))

/-- FARE SWITCH (R63, R65): a form outside NOW and target, or a target outside its range, is BAD_FIELD; an INVALID
STANDBY bank is NOT_READY; a refusal changes nothing. A target is stored in place of an earlier one. NOW swaps the
banks as they are, cancels a pending switch, writes FARE_SWITCHED, raises the notice to both masters and removes
NO_FARE. -/
def Obligations.FareSwitchSwapsOrWaits : Prop :=
  ∀ (addr src form : Byte) (day secs : Nat) (s : State), s.formed → s.readinessOk → s.hears reqFareSwitch addr →
    day < 65536 → secs < 16777216 →
    let body := form :: toBE 2 day ++ toBE 3 secs
    let refused (r : Result) : Prop := ∃ t, exec (.fareSwitch addr src body) s = .next t ∧ keepsBut [.stl] s t
      ∧ t.stl = s.linkTaken reqFareSwitch addr src (refusal r) s.stl
    let inRange := 1 ≤ day ∧ day ≤ 65534 ∧ secs ≤ 86399
    (form ≠ 0 → form ≠ 1 → refused .badField)
    ∧ (form = 1 → ¬inRange → refused .badField)
    ∧ ((form = 0 ∨ (form = 1 ∧ inRange)) → s.standbyBank.valid = false → refused .notReady)
    ∧ (form = 1 → inRange → s.standbyBank.valid = true → ∃ t, exec (.fareSwitch addr src body) s = .next t
      ∧ keepsBut [.stl, .fru] s t ∧ t.stl = s.linkTaken reqFareSwitch addr src okay s.stl
      ∧ t.fru = { s.fru with pendingSwitch := some { day := day, secs := secs } })
    ∧ (form = 0 → s.standbyBank.valid = true → ∃ t, exec (.fareSwitch addr src body) s = .next t
      ∧ keepsBut [.stl, .fru, .rjn, .svc, .lpt, .sgu] s t
      ∧ t.fru = { s.fru with active := s.fru.active.other, pendingSwitch := none }
      ∧ t.activeBank = s.standbyBank ∧ t.standbyBank = s.activeBank
      ∧ (∃ ns, t.stl = s.linkTaken reqFareSwitch addr src okay { s.stl with notices := ns })
      ∧ raisedOnce .fareSwitched s.lpt.notices t.lpt.notices
      ∧ raisedOnce .fareSwitched s.stl.notices t.stl.notices
      ∧ t.svc.reasons.noFare = false ∧ t.rjn.reserved = s.rjn.reserved
      ∧ (0 < s.free → onlyEntry { s.entry .fareSwitched .now none with
          card := if s.activeBank.valid = true then field s.activeBank.buffer 0 4 else 0
          extra := field s.standbyBank.buffer 0 4 } s t)
      ∧ (s.free = 0 → t.rjn = { s.rjn with overrun := min 65535 (s.rjn.overrun + 1) }))

/-- What steps 8 and 9 settle (R42 to R45, R62, R67 to R70), on a VALID bank, with the age of the open entry in seconds.
At side U: PASSBACK for an open entry of the own station within the passback minutes; an open entry of a card that is
not STAFF is charged the row maximum of its zone; otherwise the charge is 0 with the reason STAFF, PASS or OK; both purse
tests in order, the second skipped for STAFF and a valid pass. At side P the first row of R44: STAFF, NO_ENTRY_PENALTY
at the column maximum of the own zone, PASS, SAME_STATION at its fee under the daily cap, or the journey's rating, which
JourneyFareRunsItsStages states. The purse stage refuses a charge above 0 that goes beyond the overdraft limit. -/
def Obligations.FareClassesAreChosen : Prop :=
  ∀ (s : State) (c : Card), s.banksOk → s.activeBank.valid = true → s.setup.zone ≤ 15 →
    let b := s.activeBank.buffer
    let age := (((s.svc.day : Int) - c.entryDay) * 86400 + ((s.svc.secs : Int) - c.entrySecs)).toNat
    let opened := c.flags.getLsbD 0 = true
    let staff := c.kindCode = 3
    let covers (z : Nat) : Prop := c.kindCode = 2 ∧ c.passFirst ≤ s.svc.day ∧ s.svc.day ≤ c.passLast
      ∧ c.passLow ≤ z ∧ z ≤ c.passHigh
    let carried (r : Rating) : Prop := r.spendDay = c.spendDay ∧ r.spendAmount = c.spendAmount
    let purse (r : Rating) : Prop := r.newBalance = c.balance - r.charge
      ∧ (r.passed = true ↔ r.charge = 0 ∨ -(field b 658 2 : Int) ≤ c.balance - r.charge)
    let maximum (n : Nat) (price : Nat → Nat) : Prop := (∀ i, i < 16 → price i ≤ n) ∧ ∃ i, i < 16 ∧ n = price i
    let entry := classifyEntry s c
    let exit := classifyExit s c
    (isPassback s c = true ↔ opened ∧ c.entryStation = s.setup.stationCode ∧ age ≤ field b 666 2 * 60)
    ∧ purse entry.rating ∧ carried entry.rating ∧ entry.rating.transfers = c.transfers
    ∧ (opened → ¬staff → entry.reason = .incompletePenalty ∧ entry.entryStation = c.entryStation
        ∧ (c.entryZone ≤ 15 → maximum entry.rating.charge fun j => field b (4 + 32 * c.entryZone + 2 * j) 2))
    ∧ (¬opened ∨ staff → entry.rating.charge = 0 ∧ entry.entryStation = 0
        ∧ (staff → entry.reason = .staff) ∧ (¬staff → covers s.setup.zone → entry.reason = .pass)
        ∧ (¬staff → ¬covers s.setup.zone → entry.reason = .ok))
    ∧ (entry.rating.passed = false → entryPurse s c entry = some 2)
    ∧ (entry.rating.passed = true → (staff ∨ covers s.setup.zone
          ∨ (field b 660 2 : Int) ≤ c.balance - entry.rating.charge) → entryPurse s c entry = none)
    ∧ (entry.rating.passed = true → ¬staff → ¬covers s.setup.zone →
        c.balance - entry.rating.charge < field b 660 2 → entryPurse s c entry = some 1)
    ∧ purse exit.rating
    ∧ (staff → exit.reason = .staff ∧ exit.rating.charge = 0 ∧ carried exit.rating
        ∧ exit.rating.transfers = c.transfers ∧ exit.entryStation = if c.flags.getLsbD 0 then c.entryStation else 0)
    ∧ (¬staff → (¬opened ∨ field b 668 2 * 60 < age) → exit.reason = .noEntryPenalty ∧ carried exit.rating
        ∧ exit.rating.transfers = 0 ∧ exit.entryStation = 0
        ∧ maximum exit.rating.charge fun i => field b (4 + 32 * i + 2 * s.setup.zone) 2)
    ∧ (¬staff → opened → age ≤ field b 668 2 * 60 → exit.entryStation = c.entryStation
        ∧ (covers c.entryZone ∧ covers s.setup.zone → exit.reason = .pass ∧ exit.rating.charge = 0
          ∧ carried exit.rating ∧ exit.rating.transfers = c.transfers)
        ∧ (¬(covers c.entryZone ∧ covers s.setup.zone) →
          c.entryStation = s.setup.stationCode → age ≤ field b 664 2 * 60 →
          let before := if c.spendDay = s.svc.day then c.spendAmount else 0
          let cap := field b (613 + 5 * c.cls) 4
          exit.reason = .sameStation ∧ exit.rating.f1 = field b 662 2 ∧ exit.rating.transfers = 0
          ∧ exit.rating.charge = (if cap = 0 then field b 662 2 else min (field b 662 2) (cap - before))
          ∧ exit.rating.spendDay = s.svc.day
          ∧ exit.rating.spendAmount = min 9999999 (before + exit.rating.charge))
        ∧ (¬(covers c.entryZone ∧ covers s.setup.zone) →
          (c.entryStation ≠ s.setup.stationCode ∨ field b 664 2 * 60 < age) →
          exit.reason = .ok ∧ exit.rating = journeyRating b s.svc.day s.setup.zone c))

/-- A journey's fare through the stages S1 to S7 on a fare image whose fields are in range (R71 to R77): the zone
price, the band of the entry day's type whose start is the last one not after the entry minute, the concession rounded
half up, the transfer credit held at 0, the rounding to the fare unit, the daily cap, the purse. -/
def Obligations.JourneyFareRunsItsStages : Prop :=
  ∀ (b : List Byte) (today zone : Nat) (c : Card), b.length = 704 → fieldFault b = none → zone ≤ 15 →
    c.entryZone ≤ 15 → c.cls ≤ 7 →
    let r := journeyRating b today zone c
    let table := (dayType b c.entryDay).tableStart
    let minute := c.entrySecs / 60
    let p := classDiscount b c.cls
    let d := (r.f2 * p + 50) / 100
    let u := fareUnit b
    let cap := classCap b c.cls
    let before := if c.spendDay = today then c.spendAmount else 0
    r.cls = .journey ∧ r.f1 = field b (4 + 32 * c.entryZone + 2 * zone) 2 ∧ r.f1 ≤ 20000
    ∧ (∃ i, i < 8 ∧ r.band = i + 1 ∧ r.multiplier = bandMultiplier b table i
        ∧ bandStart b table i ≠ 65535 ∧ bandStart b table i ≤ minute
        ∧ ∀ j, i < j → j < 8 → bandStart b table j = 65535 ∨ minute < bandStart b table j)
    ∧ r.f2 = (r.f1 * r.multiplier + 50) / 100 ∧ r.f2 ≤ 60000
    ∧ d ≤ r.f2 ∧ r.f3 + d = r.f2 ∧ r.f2 * p + 50 ≤ 6000050 ∧ (p = 100 → r.f3 = 0) ∧ (p = 0 → r.f3 = r.f2)
    ∧ r.f4 = (if r.transferApplied = true then r.f3 - transferCredit b else r.f3)
    ∧ r.transfers = (if r.transferApplied = true then c.transfers + 1 else 0)
    ∧ (r.transferApplied = true ↔ c.exitDay ≠ 0 ∧ c.transfers < transferLimit b
        ∧ (c.exitDay : Int) * 86400 + c.exitSecs ≤ (c.entryDay : Int) * 86400 + c.entrySecs
        ∧ (c.entryDay : Int) * 86400 + c.entrySecs
          ≤ (c.exitDay : Int) * 86400 + c.exitSecs + transferWindow b * 60)
    ∧ r.f5 = (r.f4 + u / 2) / u * u ∧ u ∣ 60000 ∧ r.f5 ≤ 60000 ∧ (u = 1 → r.f5 = r.f4)
    ∧ (r.f4 = 0 → r.f5 = 0)
    ∧ r.spendBefore = before ∧ r.charge = (if cap = 0 then r.f5 else min r.f5 (cap - before))
    ∧ r.spendDay = today ∧ r.spendAmount = min 9999999 (before + r.charge)
    ∧ r.newBalance = c.balance - r.charge
    ∧ (r.passed = true ↔ r.charge = 0 ∨ -(overdraftLimit b : Int) ≤ c.balance - r.charge)

/-! ## Clock, key, mode, setup -/

/-- CLOCK SET (R20, R21): a day of 0 or 65,535 or seconds above 86,399 is BAD_FIELD with nothing changed; otherwise a
known clock that steps by more than 300 s writes TIME_STEP, the time takes its values, the next second is a whole 64
ticks away, NO_TIME goes, and every timed switch, mark and pending-tear that the new clock has reached is taken. A
second already handed on is taken first, at its own time (R19, R64, R95; log 5). That a second already due is withdrawn
is the model's reading (log 6). -/
def Obligations.ClockSetTakesTime : Prop :=
  ∀ (addr src : Byte) (day secs : Nat) (s : State), s.formed → s.hears reqClockSet addr →
    day < 65536 → secs < 16777216 →
    let body := toBE 2 day ++ toBE 3 secs
    let inRange := 1 ≤ day ∧ day ≤ 65534 ∧ secs ≤ 86399
    let stepped := ((day : Int) - s.svc.day) * 86400 + ((secs : Int) - s.svc.secs)
    let noted := s.svc.timeKnown = true ∧ (300 < stepped ∨ stepped < -300)
    let passed := fun m : DayTime => m.day < day ∨ (m.day = day ∧ m.secs ≤ secs)
    let switched := fun m : DayTime => passed m ∨ (s.fru.secondHanded = true ∧ s.reached m = true)
    let nothingHanded := s.fru.secondHanded = false ∧ s.scu.marksHanded = false ∧ s.scu.tearsHanded = false
    (¬inRange → ∃ t, exec (.clockSet addr src body) s = .next t ∧ keepsBut [.stl] s t
      ∧ t.stl = s.linkTaken reqClockSet addr src (refusal .badField) s.stl)
    ∧ (inRange → ∃ t, exec (.clockSet addr src body) s = .next t
      ∧ keepsBut [.stl, .svc, .fru, .scu, .rjn, .lpt, .sgu] s t ∧ t.formed
      ∧ t.svc = { s.svc with
          phase := 0, secondsDue := 0, timeKnown := true, day := day, secs := secs, reasons := t.svc.reasons }
      ∧ t.svc.reasons.noTime = false
      ∧ (∃ ns, t.stl = s.linkTaken reqClockSet addr src okay { s.stl with notices := ns })
      ∧ (noted → nothingHanded → 0 < s.free → firstEntry
          { entryAt { day := day, secs := secs } .timeStep (if 0 < stepped then .forward else .backward) none with
            cardSeq := BitVec.ofNat 16 s.svc.day, extra := s.svc.secs } s t)
      ∧ (noted → ∃ es, t.rjn.journal = s.rjn.journal ++ es
          ∧ (es.filter fun e => e.kind == .timeStep).length ≤ 1
          ∧ ∀ e ∈ es, e.kind = .timeStep → e.day = day ∧ e.secs = secs ∧ e.extra = s.svc.secs)
      ∧ (¬noted → ∃ es, t.rjn.journal = s.rjn.journal ++ es ∧ ∀ e ∈ es, e.kind ≠ .timeStep)
      ∧ (∀ m, s.fru.secondHanded = true → s.fru.pendingSwitch = some m → s.reached m = true → 0 < s.free →
          firstEntry { s.entry .fareSwitched .timed none with
            card := s.activeBank.imageId, extra := s.standbyBank.imageId } s t)
      ∧ ((∃ m, s.fru.pendingSwitch = some m ∧ switched m) →
          t.fru.active = s.fru.active.other ∧ t.fru.pendingSwitch = none)
      ∧ ((∀ m, s.fru.pendingSwitch = some m → ¬switched m) →
          t.fru = { s.fru with secondHanded := false })
      ∧ t.fru.bankA = s.fru.bankA ∧ t.fru.bankB = s.fru.bankB
      ∧ (∀ e ∈ t.scu.sightings,
          (∀ m, e.mark = some m → ¬passed m.deadline ∧ (s.scu.marksHanded = true → s.reached m.deadline = false))
          ∧ ∀ r, e.tear = some r → ¬passed r.deadline
            ∧ (s.scu.tearsHanded = true → s.reached r.deadline = false))
      ∧ t.scu.deny = s.scu.deny ∧ t.scu.denyVersion = s.scu.denyVersion)

/-- KEY LOAD (R9, R10). A key word already in CURRENT is a repeat: slots, labels, journal and reasons stay. Any other
moves CURRENT into PREVIOUS, installs the new key, removes NO_KEY and writes KEY_CHANGED with both labels, or counts it
when no place is free; the key is changed either way. An own-address request is answered OK. -/
def Obligations.KeyLoadMovesKeys : Prop :=
  ∀ (addr src : Byte) (word : Word32) (label : Word16) (s : State), s.formed → s.hears reqKeyLoad addr →
    let body := toBE 4 word.toNat ++ toBE 2 label.toNat
    ((∃ k, s.rck.current = some k ∧ k.word = word) → ∃ t, exec (.keyLoad addr src body) s = .next t
      ∧ keepsBut [.stl] s t ∧ t.stl = s.linkTaken reqKeyLoad addr src okay s.stl)
    ∧ ((∀ k, s.rck.current = some k → k.word ≠ word) → ∃ t, exec (.keyLoad addr src body) s = .next t
      ∧ keepsBut [.stl, .rck, .rjn, .svc, .lpt, .sgu] s t
      ∧ t.rck = { s.rck with current := some { word := word, label := label }, previous := s.rck.current }
      ∧ t.svc = { s.svc with reasons := { s.svc.reasons with
          noKey := false, journalStop := t.svc.reasons.journalStop } }
      ∧ (∃ ns, t.stl = s.linkTaken reqKeyLoad addr src okay { s.stl with notices := ns })
      ∧ t.rjn.reserved = s.rjn.reserved
      ∧ (0 < s.free → onlyEntry { s.entry .keyChanged .none none with
          extra := label.toNat * 65536
            + (match s.rck.current with | some k => k.label.toNat | none => 0) } s t)
      ∧ (s.free = 0 → t.rjn = { s.rjn with overrun := min 65535 (s.rjn.overrun + 1) }))

/-- LANE MODE (R23, R27, R116, R119, R142, R143): a value outside the five modes is BAD_FIELD with nothing changed.
Otherwise the station mode takes the value. An effective mode that stays the same, outside FAULT, changes nothing else;
one that changes writes MODE_CHANGED first, raises the notice to the lane, forms MODE_CLOSED, cancels the credits of
every direction not permitted and keeps the others, and opens the leaves on entering FREE. FAULT is left either way, and
a free period ends unless the mode is FREE. -/
def Obligations.LaneModeTakesEffect : Prop :=
  ∀ (addr src b : Byte) (s : State), s.formed → s.books → s.hears reqLaneMode addr →
    ((b = 0 ∨ 5 < b.toNat) → ∃ t, exec (.laneMode addr src [b]) s = .next t ∧ keepsBut [.stl] s t
      ∧ t.stl = s.linkTaken reqLaneMode addr src (refusal .badField) s.stl)
    ∧ ∀ m : Mode, b = m.code → ∃ t, exec (.laneMode addr src [b]) s = .next t
      ∧ keepsBut [.svc, .lpt, .stl, .rjn, .scu, .pcu, .lfc, .ltu, .sgu, .ads] s t ∧ t.formed
      ∧ t.svc = { s.svc with stationMode := m, reasons := t.svc.reasons }
      ∧ t.effMode = (if s.svc.emerg = true then .free else m)
      ∧ (∃ ns, t.stl = s.linkTaken reqLaneMode addr src okay { s.stl with notices := ns })
      ∧ t.lfc.leaf ≠ .fault ∧ (s.lfc.leaf = .fault → t.svc.reasons.leafFault = false)
      ∧ (t.effMode ≠ .free → t.pcu.freePeriod.isOpen = false)
      ∧ (t.effMode = s.effMode → s.lfc.leaf ≠ .fault → (s.pcu.freePeriod.isOpen = false ∨ s.effMode = .free) →
          keepsBut [.svc, .stl] s t ∧ t.svc.reasons = s.svc.reasons ∧ t.stl.notices = s.stl.notices)
      ∧ (t.effMode ≠ s.effMode →
          (0 < s.free → firstEntry { s.entry .modeChanged .station none with
            extra := s.effMode.code.toNat * 16777216 + t.effMode.code.toNat * 65536 + m.code.toNat * 256 } s t)
          ∧ raisedOnce .modeChanged s.lpt.notices t.lpt.notices
          ∧ t.svc.reasons.modeClosed = decide (t.effMode = .closed)
          ∧ (∀ d, t.permits d = true → t.queue d = s.queue d)
          ∧ (∀ d, t.permits d = false → t.queue d = []
              ∧ ∀ c ∈ s.queue d, ∃ e ∈ t.rjn.journal, e.kind = .creditCancelled ∧ e.side = some d
                ∧ e.card = c.card.getD 0 ∧ e.extra = c.creator.toNat
                ∧ e.reason = if t.effMode = .free then .free else .mode)
          ∧ (t.effMode = .free → t.pcu.freePeriod.isOpen = true
              ∧ (s.lfc.allTaken = true → t.lfc.leaf = .freeOpen ∧ t.lfc.grant = none)))

/-- LANE SETUP (R107, R122, R187): every field is stored clamped to its range, the warning against the window as stored
and the beam filter width rounded down to a multiple of 4; the answer is OK with a bit for each field that was clamped;
a station code of 0 holds NO_SETUP. Nothing else changes: no entry, and no channel that runs. -/
def Obligations.LaneSetupIsClamped : Prop :=
  ∀ (addr src zone group window warning hold occ beam grace tear : Byte) (code wait threshold : Word16) (s : State),
    s.formed → s.hears reqLaneSetup addr →
    let body := toBE 2 code.toNat ++ [zone, group, window, warning, hold] ++ toBE 2 wait.toNat ++ [occ, beam]
      ++ toBE 2 threshold.toNat ++ [grace, tear]
    let new : Setup :=
      { stationCode := code.toNat, zone := min 15 zone.toNat, group := max 64 (min 254 group.toNat)
        window := max 2 (min 30 window.toNat)
        warning := min warning.toNat (max 2 (min 30 window.toNat))
        leafHold := max 16 (min 192 hold.toNat), writeTimeout := max 32 (min 320 wait.toNat)
        occupancy := max 10 (min 120 occ.toNat), beamWidth := max 4 (min 120 beam.toNat) / 4 * 4
        threshold := min 1023 threshold.toNat, reopenGrace := max 1 (min 30 grace.toNat)
        tearHold := max 5 (min 120 tear.toNat) }
    let bit (i stored given : Nat) : Nat := if stored = given then 0 else 2 ^ i
    let mask := bit 0 new.zone zone.toNat + bit 1 new.group group.toNat + bit 2 new.window window.toNat
      + bit 3 new.warning warning.toNat + bit 4 new.leafHold hold.toNat + bit 5 new.writeTimeout wait.toNat
      + bit 6 new.occupancy occ.toNat + bit 7 new.beamWidth beam.toNat + bit 8 new.threshold threshold.toNat
      + bit 9 new.reopenGrace grace.toNat + bit 10 new.tearHold tear.toNat
    ∃ t, exec (.laneSetup addr src body) s = .next t ∧ keepsBut [.setup, .svc, .lpt, .stl, .sgu] s t
    ∧ t.setup = new ∧ t.setup.ok
    ∧ t.svc = { s.svc with reasons := { s.svc.reasons with noSetup := decide (code = 0) } }
    ∧ t.lpt = t.attnOn { s.lpt with notices := toldOf s t s.lpt.notices }
    ∧ t.stl = s.linkTaken reqLaneSetup addr src { result := .ok, data := toBE 2 mask }
        { s.stl with notices := toldOf s t s.stl.notices }
    ∧ t.sgu = t.lampsOn s.sgu

/-! ## The audit sampler -/

/-- AUDIT SETUP, AUDIT TAG and AUDIT RELEASE (R169, R171, R176): the settings with the interval clamped to 16 and named
in bit 0 of the clamped-fields byte (log 38), an ARMED-by-COUNTER tag dropped when the sampler is turned off; a tag armed
in IDLE alone; a VALID sample discarded with the counter at its restart value. Every other case is refused with nothing
changed. -/
def Obligations.AuditIsSetTaggedReleased : Prop :=
  ∀ (addr src : Byte) (s : State), s.formed → linkLive s = true → classOf s addr = some .own →
    let answered (c : Instr) (rq : Request) (a : Answer) (ads : Ads) : Prop :=
      ∃ t, exec c s = .next t ∧ keepsBut [.stl, .ads] s t ∧ t.ads = ads
      ∧ t.stl = s.linkTaken rq addr src a s.stl
    (∀ (on rnd : Byte) (n : Word16),
      let c : Instr := .auditSetup addr src ([on] ++ toBE 2 n.toNat ++ [rnd])
      ((1 < on.toNat ∨ 1 < rnd.toNat) → answered c reqAuditSetup (refusal .badField) s.ads)
      ∧ (on.toNat ≤ 1 → rnd.toNat ≤ 1 →
        answered c reqAuditSetup { result := .ok, data := [if n.toNat < 16 then 1 else 0] }
          { s.ads with
            enable := decide (on = 1), interval := max 16 n.toNat, randomise := decide (rnd = 1)
            phase := if on = 0 ∧ s.ads.phase = .armed .counter then .idle else s.ads.phase }))
    ∧ (s.ads.phase = .idle → answered (.auditTag addr src []) reqAuditTag okay
        { s.ads with phase := .armed .station })
    ∧ (s.ads.phase ≠ .idle → answered (.auditTag addr src []) reqAuditTag (refusal .notReady) s.ads)
    ∧ (s.ads.phase = .valid → answered (.auditRelease addr src []) reqAuditRelease okay
        { s.ads with
          sample := none, phase := .idle, grantTick := none
          counter := if s.ads.randomise = true ∧ s.rck.w ≠ 0 then
            (let raw := (s.rck.w.toNat * 40503 + s.stl.ownAddr.toNat * 257) % 65536
             (if raw = 0 then 1 else raw) % 16) else 0 })
    ∧ (s.ads.phase ≠ .valid → answered (.auditRelease addr src []) reqAuditRelease (refusal .notReady) s.ads)

/-- ADS follows a tag (R172, R173). At the DONE of a tagged ACCEPT whose credit stands the write part is filled: DONE, the
ticks from the verdict, the tone ACCEPT, started or dropped; the sampler stays TRACKING, and creation-to-grant is 0
where the grant is the credit's at its creation or comes with it, and unfilled where the leaves stand open for the other
direction. When a close completes and grants a waiting tagged credit, creation-to-grant is the ticks since its creation.
How a verdict is offered, expires, is consumed and completed stands with those commands. -/
def Obligations.AuditFollowsTag : Prop :=
  (∀ (x : Side) (sl : Slot) (s : State), s.laneOpen → s.formed → s.books → s.slot x = some sl →
    sl.audit = true → sl.kind = .accept → s.permits x = true → s.lfc.leaf ≠ .fault → s.ads.grantTick = none →
    ∃ t m m', exec (.writeOutcome ([sideCode (some x), 1] ++ toBE 2 sl.newTag.toNat)) s = .next t
    ∧ t.ads.phase = .tracking ∧ s.ads.sample = some m ∧ t.ads.sample = some m'
    ∧ m' = { m with
        writeResult := some .done, writeTicks := min 65535 (s.svc.tickCount - sl.tick).toNat
        tone := { requested := some .accept, started := toneStarts s .accept
                  playing := if toneStarts s .accept = true then none else s.sgu.tone }
        toGrant := m'.toGrant }
    ∧ ((s.lfc.grant = some x ∨ (s.lfc.leaf = .closed ∧ choice s = none)) →
        m'.toGrant = some 0 ∧ t.ads.grantTick = some s.svc.tickCount)
    ∧ (s.lfc.leaf = .opened (Side.other x) → s.lfc.grant = some (Side.other x) →
        m'.toGrant = m.toGrant ∧ t.ads.grantTick = none))
  ∧ ∀ (x : Side) (l : Leaf) (c : Credit) (s : State), s.powered = true → s.formed → s.books → s.leavesOk →
    s.lfc.leaf = .closing → s.lfc.paused = false → s.lfc.allTaken = true → s.lfc.sw l .closedSw = some false →
    s.lfc.sw l .openSw = some false → s.lfc.drive (otherLeaf l) = .brake → choice s = some x → c ∈ s.queue x →
    c.audit = true → s.ads.grantTick = none →
    ∃ t m, exec (.switchChange l .closedSw true) s = .next t ∧ s.ads.sample = some m
    ∧ t.ads = { s.ads with
        grantTick := some s.svc.tickCount
        sample := some { m with toGrant := some (min 65535 (s.svc.tickCount - c.tick).toNat) } }

/-! ## Invariants that every step keeps -/

/-- Between events the four lamps and ATTN are what their inputs give, and no change of the reason set waits for its
notice: every step keeps it (R29, R150 to R152, R181). -/
def Obligations.StepKeepsOutputsFormed : Prop :=
  ∀ s t : State, s.formed → step s = .next t → t.formed

/-- The journal is one run of sequence numbers up to the newest, and but for a cold start it loses entries at its oldest
end alone, and only to the rows that can carry a JOURNAL RELEASE; every entry written joins after the newest (R154,
R155, R166). The write counter stays or goes up by 1 (R13). -/
def Obligations.StepOnlyAppendsEntries : Prop :=
  ∀ s t : State, step s = .next t →
    (s.journalRun → t.journalRun)
    ∧ ∀ c rest, s.pending = c :: rest → (∀ a r, c ≠ .coldStart a r) →
      (t.rck.w = s.rck.w ∨ t.rck.w = s.rck.w + 1)
      ∧ ∃ k es, t.rjn.journal = s.rjn.journal.drop k ++ es
        ∧ ((∀ a b body, c ≠ .journalRelease a b body) → (∀ a b k' body crc, c ≠ .stationFrameFault a b k' body crc) →
            (∀ n d p, c ≠ .stationCharacter n d p) → k = 0)

/-- The books of the lane balance after every step: the reserved counter is what slots, credits and pending-tears hold,
entries and reservations fit the journal's places, and queues, slots, in-flight records, tears and marks keep their
bounds (R32, R36, R52, R89, R90, R94, R108, R158, R159, R161), and one tag is outstanding exactly in TRACKING (R168). -/
def Obligations.StepKeepsBooks : Prop :=
  ∀ s t : State, s.books → s.readinessOk → step s = .next t → t.books

/-- Every step keeps the leaf pair's record (R128 to R144): the grant stands only with the states it belongs to, the
reversal count is below 3 outside FAULT, the drives are what the state gives, and the leaves open toward a direction
only for its credit or for a reversal. -/
def Obligations.StepKeepsLeafLaw : Prop :=
  ∀ s t : State, s.leavesOk → step s = .next t → t.leavesOk

/-- Every step keeps the out-of-service reasons equal to their conditions (R28), LOW and STOP as the free count says
(R161), and both fare banks as loading leaves them (R57, R62, R64). -/
def Obligations.StepKeepsReadiness : Prop :=
  ∀ s t : State, s.readinessOk → step s = .next t → t.readinessOk

/-- Every step keeps the setup in its ranges (R187), each channel's count within its reload (R103, R104), the clock in
its range (R17, R19), each filter's count below its greatest length (R121, R122) and the episode open exactly while a beam is blocked (R123, R124); and the deny list sorted,
aligned, within 2,048 entries, with its LOCAL add order (R81, R88). -/
def Obligations.StepKeepsRecords : Prop :=
  ∀ s t : State, step s = .next t → (s.timesOk → t.timesOk) ∧ (s.denyOk → t.denyOk)

/-- An event that changes the set of out-of-service reasons raises SERVICE_CHANGED once in both notice sets; the two
starts with their own notices apart (R29, R30; once at the event's end, log 17). -/
def Obligations.ServiceChangeIsToldOnce : Prop :=
  ∀ (c : Instr) (s t : State), (∀ a r, c ≠ .coldStart a r) → (∀ a r, c ≠ .warmStart a r) → s.formed →
    exec c s = .next t → t.svc.reasons ≠ s.svc.reasons →
    raisedOnce .serviceChanged s.lpt.notices t.lpt.notices
    ∧ raisedOnce .serviceChanged s.stl.notices t.stl.notices
end

