-- ==== Sys2Proof/Laws/State.lean ====
section
/-! SUPPORT. One lemma per field per update of a block: no later proof unfolds a record update. -/

namespace Sys2Proof.Machine

@[simp] theorem setPowered_powered (v : Bool) (s : State) : (s.setPowered v).powered = v := rfl
@[simp] theorem setPowered_pending (v : Bool) (s : State) : (s.setPowered v).pending = s.pending := rfl
@[simp] theorem setPowered_lpt (v : Bool) (s : State) : (s.setPowered v).lpt = s.lpt := rfl
@[simp] theorem setPowered_stl (v : Bool) (s : State) : (s.setPowered v).stl = s.stl := rfl
@[simp] theorem setPowered_setup (v : Bool) (s : State) : (s.setPowered v).setup = s.setup := rfl
@[simp] theorem setPowered_rck (v : Bool) (s : State) : (s.setPowered v).rck = s.rck := rfl
@[simp] theorem setPowered_svc (v : Bool) (s : State) : (s.setPowered v).svc = s.svc := rfl
@[simp] theorem setPowered_txu (v : Bool) (s : State) : (s.setPowered v).txu = s.txu := rfl
@[simp] theorem setPowered_fru (v : Bool) (s : State) : (s.setPowered v).fru = s.fru := rfl
@[simp] theorem setPowered_scu (v : Bool) (s : State) : (s.setPowered v).scu = s.scu := rfl
@[simp] theorem setPowered_ltu (v : Bool) (s : State) : (s.setPowered v).ltu = s.ltu := rfl
@[simp] theorem setPowered_pcu (v : Bool) (s : State) : (s.setPowered v).pcu = s.pcu := rfl
@[simp] theorem setPowered_lfc (v : Bool) (s : State) : (s.setPowered v).lfc = s.lfc := rfl
@[simp] theorem setPowered_sgu (v : Bool) (s : State) : (s.setPowered v).sgu = s.sgu := rfl
@[simp] theorem setPowered_rjn (v : Bool) (s : State) : (s.setPowered v).rjn = s.rjn := rfl
@[simp] theorem setPowered_ads (v : Bool) (s : State) : (s.setPowered v).ads = s.ads := rfl
@[simp] theorem setPowered_inp (v : Bool) (s : State) : (s.setPowered v).inp = s.inp := rfl

@[simp] theorem setPending_powered (v : List Instr) (s : State) : (s.setPending v).powered = s.powered := rfl
@[simp] theorem setPending_pending (v : List Instr) (s : State) : (s.setPending v).pending = v := rfl
@[simp] theorem setPending_lpt (v : List Instr) (s : State) : (s.setPending v).lpt = s.lpt := rfl
@[simp] theorem setPending_stl (v : List Instr) (s : State) : (s.setPending v).stl = s.stl := rfl
@[simp] theorem setPending_setup (v : List Instr) (s : State) : (s.setPending v).setup = s.setup := rfl
@[simp] theorem setPending_rck (v : List Instr) (s : State) : (s.setPending v).rck = s.rck := rfl
@[simp] theorem setPending_svc (v : List Instr) (s : State) : (s.setPending v).svc = s.svc := rfl
@[simp] theorem setPending_txu (v : List Instr) (s : State) : (s.setPending v).txu = s.txu := rfl
@[simp] theorem setPending_fru (v : List Instr) (s : State) : (s.setPending v).fru = s.fru := rfl
@[simp] theorem setPending_scu (v : List Instr) (s : State) : (s.setPending v).scu = s.scu := rfl
@[simp] theorem setPending_ltu (v : List Instr) (s : State) : (s.setPending v).ltu = s.ltu := rfl
@[simp] theorem setPending_pcu (v : List Instr) (s : State) : (s.setPending v).pcu = s.pcu := rfl
@[simp] theorem setPending_lfc (v : List Instr) (s : State) : (s.setPending v).lfc = s.lfc := rfl
@[simp] theorem setPending_sgu (v : List Instr) (s : State) : (s.setPending v).sgu = s.sgu := rfl
@[simp] theorem setPending_rjn (v : List Instr) (s : State) : (s.setPending v).rjn = s.rjn := rfl
@[simp] theorem setPending_ads (v : List Instr) (s : State) : (s.setPending v).ads = s.ads := rfl
@[simp] theorem setPending_inp (v : List Instr) (s : State) : (s.setPending v).inp = s.inp := rfl

@[simp] theorem setLpt_powered (v : Lpt) (s : State) : (s.setLpt v).powered = s.powered := rfl
@[simp] theorem setLpt_pending (v : Lpt) (s : State) : (s.setLpt v).pending = s.pending := rfl
@[simp] theorem setLpt_lpt (v : Lpt) (s : State) : (s.setLpt v).lpt = v := rfl
@[simp] theorem setLpt_stl (v : Lpt) (s : State) : (s.setLpt v).stl = s.stl := rfl
@[simp] theorem setLpt_setup (v : Lpt) (s : State) : (s.setLpt v).setup = s.setup := rfl
@[simp] theorem setLpt_rck (v : Lpt) (s : State) : (s.setLpt v).rck = s.rck := rfl
@[simp] theorem setLpt_svc (v : Lpt) (s : State) : (s.setLpt v).svc = s.svc := rfl
@[simp] theorem setLpt_txu (v : Lpt) (s : State) : (s.setLpt v).txu = s.txu := rfl
@[simp] theorem setLpt_fru (v : Lpt) (s : State) : (s.setLpt v).fru = s.fru := rfl
@[simp] theorem setLpt_scu (v : Lpt) (s : State) : (s.setLpt v).scu = s.scu := rfl
@[simp] theorem setLpt_ltu (v : Lpt) (s : State) : (s.setLpt v).ltu = s.ltu := rfl
@[simp] theorem setLpt_pcu (v : Lpt) (s : State) : (s.setLpt v).pcu = s.pcu := rfl
@[simp] theorem setLpt_lfc (v : Lpt) (s : State) : (s.setLpt v).lfc = s.lfc := rfl
@[simp] theorem setLpt_sgu (v : Lpt) (s : State) : (s.setLpt v).sgu = s.sgu := rfl
@[simp] theorem setLpt_rjn (v : Lpt) (s : State) : (s.setLpt v).rjn = s.rjn := rfl
@[simp] theorem setLpt_ads (v : Lpt) (s : State) : (s.setLpt v).ads = s.ads := rfl
@[simp] theorem setLpt_inp (v : Lpt) (s : State) : (s.setLpt v).inp = s.inp := rfl

@[simp] theorem setStl_powered (v : Stl) (s : State) : (s.setStl v).powered = s.powered := rfl
@[simp] theorem setStl_pending (v : Stl) (s : State) : (s.setStl v).pending = s.pending := rfl
@[simp] theorem setStl_lpt (v : Stl) (s : State) : (s.setStl v).lpt = s.lpt := rfl
@[simp] theorem setStl_stl (v : Stl) (s : State) : (s.setStl v).stl = v := rfl
@[simp] theorem setStl_setup (v : Stl) (s : State) : (s.setStl v).setup = s.setup := rfl
@[simp] theorem setStl_rck (v : Stl) (s : State) : (s.setStl v).rck = s.rck := rfl
@[simp] theorem setStl_svc (v : Stl) (s : State) : (s.setStl v).svc = s.svc := rfl
@[simp] theorem setStl_txu (v : Stl) (s : State) : (s.setStl v).txu = s.txu := rfl
@[simp] theorem setStl_fru (v : Stl) (s : State) : (s.setStl v).fru = s.fru := rfl
@[simp] theorem setStl_scu (v : Stl) (s : State) : (s.setStl v).scu = s.scu := rfl
@[simp] theorem setStl_ltu (v : Stl) (s : State) : (s.setStl v).ltu = s.ltu := rfl
@[simp] theorem setStl_pcu (v : Stl) (s : State) : (s.setStl v).pcu = s.pcu := rfl
@[simp] theorem setStl_lfc (v : Stl) (s : State) : (s.setStl v).lfc = s.lfc := rfl
@[simp] theorem setStl_sgu (v : Stl) (s : State) : (s.setStl v).sgu = s.sgu := rfl
@[simp] theorem setStl_rjn (v : Stl) (s : State) : (s.setStl v).rjn = s.rjn := rfl
@[simp] theorem setStl_ads (v : Stl) (s : State) : (s.setStl v).ads = s.ads := rfl
@[simp] theorem setStl_inp (v : Stl) (s : State) : (s.setStl v).inp = s.inp := rfl

@[simp] theorem setSetup_powered (v : Setup) (s : State) : (s.setSetup v).powered = s.powered := rfl
@[simp] theorem setSetup_pending (v : Setup) (s : State) : (s.setSetup v).pending = s.pending := rfl
@[simp] theorem setSetup_lpt (v : Setup) (s : State) : (s.setSetup v).lpt = s.lpt := rfl
@[simp] theorem setSetup_stl (v : Setup) (s : State) : (s.setSetup v).stl = s.stl := rfl
@[simp] theorem setSetup_setup (v : Setup) (s : State) : (s.setSetup v).setup = v := rfl
@[simp] theorem setSetup_rck (v : Setup) (s : State) : (s.setSetup v).rck = s.rck := rfl
@[simp] theorem setSetup_svc (v : Setup) (s : State) : (s.setSetup v).svc = s.svc := rfl
@[simp] theorem setSetup_txu (v : Setup) (s : State) : (s.setSetup v).txu = s.txu := rfl
@[simp] theorem setSetup_fru (v : Setup) (s : State) : (s.setSetup v).fru = s.fru := rfl
@[simp] theorem setSetup_scu (v : Setup) (s : State) : (s.setSetup v).scu = s.scu := rfl
@[simp] theorem setSetup_ltu (v : Setup) (s : State) : (s.setSetup v).ltu = s.ltu := rfl
@[simp] theorem setSetup_pcu (v : Setup) (s : State) : (s.setSetup v).pcu = s.pcu := rfl
@[simp] theorem setSetup_lfc (v : Setup) (s : State) : (s.setSetup v).lfc = s.lfc := rfl
@[simp] theorem setSetup_sgu (v : Setup) (s : State) : (s.setSetup v).sgu = s.sgu := rfl
@[simp] theorem setSetup_rjn (v : Setup) (s : State) : (s.setSetup v).rjn = s.rjn := rfl
@[simp] theorem setSetup_ads (v : Setup) (s : State) : (s.setSetup v).ads = s.ads := rfl
@[simp] theorem setSetup_inp (v : Setup) (s : State) : (s.setSetup v).inp = s.inp := rfl

@[simp] theorem setRck_powered (v : Rck) (s : State) : (s.setRck v).powered = s.powered := rfl
@[simp] theorem setRck_pending (v : Rck) (s : State) : (s.setRck v).pending = s.pending := rfl
@[simp] theorem setRck_lpt (v : Rck) (s : State) : (s.setRck v).lpt = s.lpt := rfl
@[simp] theorem setRck_stl (v : Rck) (s : State) : (s.setRck v).stl = s.stl := rfl
@[simp] theorem setRck_setup (v : Rck) (s : State) : (s.setRck v).setup = s.setup := rfl
@[simp] theorem setRck_rck (v : Rck) (s : State) : (s.setRck v).rck = v := rfl
@[simp] theorem setRck_svc (v : Rck) (s : State) : (s.setRck v).svc = s.svc := rfl
@[simp] theorem setRck_txu (v : Rck) (s : State) : (s.setRck v).txu = s.txu := rfl
@[simp] theorem setRck_fru (v : Rck) (s : State) : (s.setRck v).fru = s.fru := rfl
@[simp] theorem setRck_scu (v : Rck) (s : State) : (s.setRck v).scu = s.scu := rfl
@[simp] theorem setRck_ltu (v : Rck) (s : State) : (s.setRck v).ltu = s.ltu := rfl
@[simp] theorem setRck_pcu (v : Rck) (s : State) : (s.setRck v).pcu = s.pcu := rfl
@[simp] theorem setRck_lfc (v : Rck) (s : State) : (s.setRck v).lfc = s.lfc := rfl
@[simp] theorem setRck_sgu (v : Rck) (s : State) : (s.setRck v).sgu = s.sgu := rfl
@[simp] theorem setRck_rjn (v : Rck) (s : State) : (s.setRck v).rjn = s.rjn := rfl
@[simp] theorem setRck_ads (v : Rck) (s : State) : (s.setRck v).ads = s.ads := rfl
@[simp] theorem setRck_inp (v : Rck) (s : State) : (s.setRck v).inp = s.inp := rfl

@[simp] theorem setSvc_powered (v : Svc) (s : State) : (s.setSvc v).powered = s.powered := rfl
@[simp] theorem setSvc_pending (v : Svc) (s : State) : (s.setSvc v).pending = s.pending := rfl
@[simp] theorem setSvc_lpt (v : Svc) (s : State) : (s.setSvc v).lpt = s.lpt := rfl
@[simp] theorem setSvc_stl (v : Svc) (s : State) : (s.setSvc v).stl = s.stl := rfl
@[simp] theorem setSvc_setup (v : Svc) (s : State) : (s.setSvc v).setup = s.setup := rfl
@[simp] theorem setSvc_rck (v : Svc) (s : State) : (s.setSvc v).rck = s.rck := rfl
@[simp] theorem setSvc_svc (v : Svc) (s : State) : (s.setSvc v).svc = v := rfl
@[simp] theorem setSvc_txu (v : Svc) (s : State) : (s.setSvc v).txu = s.txu := rfl
@[simp] theorem setSvc_fru (v : Svc) (s : State) : (s.setSvc v).fru = s.fru := rfl
@[simp] theorem setSvc_scu (v : Svc) (s : State) : (s.setSvc v).scu = s.scu := rfl
@[simp] theorem setSvc_ltu (v : Svc) (s : State) : (s.setSvc v).ltu = s.ltu := rfl
@[simp] theorem setSvc_pcu (v : Svc) (s : State) : (s.setSvc v).pcu = s.pcu := rfl
@[simp] theorem setSvc_lfc (v : Svc) (s : State) : (s.setSvc v).lfc = s.lfc := rfl
@[simp] theorem setSvc_sgu (v : Svc) (s : State) : (s.setSvc v).sgu = s.sgu := rfl
@[simp] theorem setSvc_rjn (v : Svc) (s : State) : (s.setSvc v).rjn = s.rjn := rfl
@[simp] theorem setSvc_ads (v : Svc) (s : State) : (s.setSvc v).ads = s.ads := rfl
@[simp] theorem setSvc_inp (v : Svc) (s : State) : (s.setSvc v).inp = s.inp := rfl

@[simp] theorem setTxu_powered (v : Txu) (s : State) : (s.setTxu v).powered = s.powered := rfl
@[simp] theorem setTxu_pending (v : Txu) (s : State) : (s.setTxu v).pending = s.pending := rfl
@[simp] theorem setTxu_lpt (v : Txu) (s : State) : (s.setTxu v).lpt = s.lpt := rfl
@[simp] theorem setTxu_stl (v : Txu) (s : State) : (s.setTxu v).stl = s.stl := rfl
@[simp] theorem setTxu_setup (v : Txu) (s : State) : (s.setTxu v).setup = s.setup := rfl
@[simp] theorem setTxu_rck (v : Txu) (s : State) : (s.setTxu v).rck = s.rck := rfl
@[simp] theorem setTxu_svc (v : Txu) (s : State) : (s.setTxu v).svc = s.svc := rfl
@[simp] theorem setTxu_txu (v : Txu) (s : State) : (s.setTxu v).txu = v := rfl
@[simp] theorem setTxu_fru (v : Txu) (s : State) : (s.setTxu v).fru = s.fru := rfl
@[simp] theorem setTxu_scu (v : Txu) (s : State) : (s.setTxu v).scu = s.scu := rfl
@[simp] theorem setTxu_ltu (v : Txu) (s : State) : (s.setTxu v).ltu = s.ltu := rfl
@[simp] theorem setTxu_pcu (v : Txu) (s : State) : (s.setTxu v).pcu = s.pcu := rfl
@[simp] theorem setTxu_lfc (v : Txu) (s : State) : (s.setTxu v).lfc = s.lfc := rfl
@[simp] theorem setTxu_sgu (v : Txu) (s : State) : (s.setTxu v).sgu = s.sgu := rfl
@[simp] theorem setTxu_rjn (v : Txu) (s : State) : (s.setTxu v).rjn = s.rjn := rfl
@[simp] theorem setTxu_ads (v : Txu) (s : State) : (s.setTxu v).ads = s.ads := rfl
@[simp] theorem setTxu_inp (v : Txu) (s : State) : (s.setTxu v).inp = s.inp := rfl

@[simp] theorem setFru_powered (v : Fru) (s : State) : (s.setFru v).powered = s.powered := rfl
@[simp] theorem setFru_pending (v : Fru) (s : State) : (s.setFru v).pending = s.pending := rfl
@[simp] theorem setFru_lpt (v : Fru) (s : State) : (s.setFru v).lpt = s.lpt := rfl
@[simp] theorem setFru_stl (v : Fru) (s : State) : (s.setFru v).stl = s.stl := rfl
@[simp] theorem setFru_setup (v : Fru) (s : State) : (s.setFru v).setup = s.setup := rfl
@[simp] theorem setFru_rck (v : Fru) (s : State) : (s.setFru v).rck = s.rck := rfl
@[simp] theorem setFru_svc (v : Fru) (s : State) : (s.setFru v).svc = s.svc := rfl
@[simp] theorem setFru_txu (v : Fru) (s : State) : (s.setFru v).txu = s.txu := rfl
@[simp] theorem setFru_fru (v : Fru) (s : State) : (s.setFru v).fru = v := rfl
@[simp] theorem setFru_scu (v : Fru) (s : State) : (s.setFru v).scu = s.scu := rfl
@[simp] theorem setFru_ltu (v : Fru) (s : State) : (s.setFru v).ltu = s.ltu := rfl
@[simp] theorem setFru_pcu (v : Fru) (s : State) : (s.setFru v).pcu = s.pcu := rfl
@[simp] theorem setFru_lfc (v : Fru) (s : State) : (s.setFru v).lfc = s.lfc := rfl
@[simp] theorem setFru_sgu (v : Fru) (s : State) : (s.setFru v).sgu = s.sgu := rfl
@[simp] theorem setFru_rjn (v : Fru) (s : State) : (s.setFru v).rjn = s.rjn := rfl
@[simp] theorem setFru_ads (v : Fru) (s : State) : (s.setFru v).ads = s.ads := rfl
@[simp] theorem setFru_inp (v : Fru) (s : State) : (s.setFru v).inp = s.inp := rfl

@[simp] theorem setScu_powered (v : Scu) (s : State) : (s.setScu v).powered = s.powered := rfl
@[simp] theorem setScu_pending (v : Scu) (s : State) : (s.setScu v).pending = s.pending := rfl
@[simp] theorem setScu_lpt (v : Scu) (s : State) : (s.setScu v).lpt = s.lpt := rfl
@[simp] theorem setScu_stl (v : Scu) (s : State) : (s.setScu v).stl = s.stl := rfl
@[simp] theorem setScu_setup (v : Scu) (s : State) : (s.setScu v).setup = s.setup := rfl
@[simp] theorem setScu_rck (v : Scu) (s : State) : (s.setScu v).rck = s.rck := rfl
@[simp] theorem setScu_svc (v : Scu) (s : State) : (s.setScu v).svc = s.svc := rfl
@[simp] theorem setScu_txu (v : Scu) (s : State) : (s.setScu v).txu = s.txu := rfl
@[simp] theorem setScu_fru (v : Scu) (s : State) : (s.setScu v).fru = s.fru := rfl
@[simp] theorem setScu_scu (v : Scu) (s : State) : (s.setScu v).scu = v := rfl
@[simp] theorem setScu_ltu (v : Scu) (s : State) : (s.setScu v).ltu = s.ltu := rfl
@[simp] theorem setScu_pcu (v : Scu) (s : State) : (s.setScu v).pcu = s.pcu := rfl
@[simp] theorem setScu_lfc (v : Scu) (s : State) : (s.setScu v).lfc = s.lfc := rfl
@[simp] theorem setScu_sgu (v : Scu) (s : State) : (s.setScu v).sgu = s.sgu := rfl
@[simp] theorem setScu_rjn (v : Scu) (s : State) : (s.setScu v).rjn = s.rjn := rfl
@[simp] theorem setScu_ads (v : Scu) (s : State) : (s.setScu v).ads = s.ads := rfl
@[simp] theorem setScu_inp (v : Scu) (s : State) : (s.setScu v).inp = s.inp := rfl

@[simp] theorem setLtu_powered (v : Ltu) (s : State) : (s.setLtu v).powered = s.powered := rfl
@[simp] theorem setLtu_pending (v : Ltu) (s : State) : (s.setLtu v).pending = s.pending := rfl
@[simp] theorem setLtu_lpt (v : Ltu) (s : State) : (s.setLtu v).lpt = s.lpt := rfl
@[simp] theorem setLtu_stl (v : Ltu) (s : State) : (s.setLtu v).stl = s.stl := rfl
@[simp] theorem setLtu_setup (v : Ltu) (s : State) : (s.setLtu v).setup = s.setup := rfl
@[simp] theorem setLtu_rck (v : Ltu) (s : State) : (s.setLtu v).rck = s.rck := rfl
@[simp] theorem setLtu_svc (v : Ltu) (s : State) : (s.setLtu v).svc = s.svc := rfl
@[simp] theorem setLtu_txu (v : Ltu) (s : State) : (s.setLtu v).txu = s.txu := rfl
@[simp] theorem setLtu_fru (v : Ltu) (s : State) : (s.setLtu v).fru = s.fru := rfl
@[simp] theorem setLtu_scu (v : Ltu) (s : State) : (s.setLtu v).scu = s.scu := rfl
@[simp] theorem setLtu_ltu (v : Ltu) (s : State) : (s.setLtu v).ltu = v := rfl
@[simp] theorem setLtu_pcu (v : Ltu) (s : State) : (s.setLtu v).pcu = s.pcu := rfl
@[simp] theorem setLtu_lfc (v : Ltu) (s : State) : (s.setLtu v).lfc = s.lfc := rfl
@[simp] theorem setLtu_sgu (v : Ltu) (s : State) : (s.setLtu v).sgu = s.sgu := rfl
@[simp] theorem setLtu_rjn (v : Ltu) (s : State) : (s.setLtu v).rjn = s.rjn := rfl
@[simp] theorem setLtu_ads (v : Ltu) (s : State) : (s.setLtu v).ads = s.ads := rfl
@[simp] theorem setLtu_inp (v : Ltu) (s : State) : (s.setLtu v).inp = s.inp := rfl

@[simp] theorem setPcu_powered (v : Pcu) (s : State) : (s.setPcu v).powered = s.powered := rfl
@[simp] theorem setPcu_pending (v : Pcu) (s : State) : (s.setPcu v).pending = s.pending := rfl
@[simp] theorem setPcu_lpt (v : Pcu) (s : State) : (s.setPcu v).lpt = s.lpt := rfl
@[simp] theorem setPcu_stl (v : Pcu) (s : State) : (s.setPcu v).stl = s.stl := rfl
@[simp] theorem setPcu_setup (v : Pcu) (s : State) : (s.setPcu v).setup = s.setup := rfl
@[simp] theorem setPcu_rck (v : Pcu) (s : State) : (s.setPcu v).rck = s.rck := rfl
@[simp] theorem setPcu_svc (v : Pcu) (s : State) : (s.setPcu v).svc = s.svc := rfl
@[simp] theorem setPcu_txu (v : Pcu) (s : State) : (s.setPcu v).txu = s.txu := rfl
@[simp] theorem setPcu_fru (v : Pcu) (s : State) : (s.setPcu v).fru = s.fru := rfl
@[simp] theorem setPcu_scu (v : Pcu) (s : State) : (s.setPcu v).scu = s.scu := rfl
@[simp] theorem setPcu_ltu (v : Pcu) (s : State) : (s.setPcu v).ltu = s.ltu := rfl
@[simp] theorem setPcu_pcu (v : Pcu) (s : State) : (s.setPcu v).pcu = v := rfl
@[simp] theorem setPcu_lfc (v : Pcu) (s : State) : (s.setPcu v).lfc = s.lfc := rfl
@[simp] theorem setPcu_sgu (v : Pcu) (s : State) : (s.setPcu v).sgu = s.sgu := rfl
@[simp] theorem setPcu_rjn (v : Pcu) (s : State) : (s.setPcu v).rjn = s.rjn := rfl
@[simp] theorem setPcu_ads (v : Pcu) (s : State) : (s.setPcu v).ads = s.ads := rfl
@[simp] theorem setPcu_inp (v : Pcu) (s : State) : (s.setPcu v).inp = s.inp := rfl

@[simp] theorem setLfc_powered (v : Lfc) (s : State) : (s.setLfc v).powered = s.powered := rfl
@[simp] theorem setLfc_pending (v : Lfc) (s : State) : (s.setLfc v).pending = s.pending := rfl
@[simp] theorem setLfc_lpt (v : Lfc) (s : State) : (s.setLfc v).lpt = s.lpt := rfl
@[simp] theorem setLfc_stl (v : Lfc) (s : State) : (s.setLfc v).stl = s.stl := rfl
@[simp] theorem setLfc_setup (v : Lfc) (s : State) : (s.setLfc v).setup = s.setup := rfl
@[simp] theorem setLfc_rck (v : Lfc) (s : State) : (s.setLfc v).rck = s.rck := rfl
@[simp] theorem setLfc_svc (v : Lfc) (s : State) : (s.setLfc v).svc = s.svc := rfl
@[simp] theorem setLfc_txu (v : Lfc) (s : State) : (s.setLfc v).txu = s.txu := rfl
@[simp] theorem setLfc_fru (v : Lfc) (s : State) : (s.setLfc v).fru = s.fru := rfl
@[simp] theorem setLfc_scu (v : Lfc) (s : State) : (s.setLfc v).scu = s.scu := rfl
@[simp] theorem setLfc_ltu (v : Lfc) (s : State) : (s.setLfc v).ltu = s.ltu := rfl
@[simp] theorem setLfc_pcu (v : Lfc) (s : State) : (s.setLfc v).pcu = s.pcu := rfl
@[simp] theorem setLfc_lfc (v : Lfc) (s : State) : (s.setLfc v).lfc = v := rfl
@[simp] theorem setLfc_sgu (v : Lfc) (s : State) : (s.setLfc v).sgu = s.sgu := rfl
@[simp] theorem setLfc_rjn (v : Lfc) (s : State) : (s.setLfc v).rjn = s.rjn := rfl
@[simp] theorem setLfc_ads (v : Lfc) (s : State) : (s.setLfc v).ads = s.ads := rfl
@[simp] theorem setLfc_inp (v : Lfc) (s : State) : (s.setLfc v).inp = s.inp := rfl

@[simp] theorem setSgu_powered (v : Sgu) (s : State) : (s.setSgu v).powered = s.powered := rfl
@[simp] theorem setSgu_pending (v : Sgu) (s : State) : (s.setSgu v).pending = s.pending := rfl
@[simp] theorem setSgu_lpt (v : Sgu) (s : State) : (s.setSgu v).lpt = s.lpt := rfl
@[simp] theorem setSgu_stl (v : Sgu) (s : State) : (s.setSgu v).stl = s.stl := rfl
@[simp] theorem setSgu_setup (v : Sgu) (s : State) : (s.setSgu v).setup = s.setup := rfl
@[simp] theorem setSgu_rck (v : Sgu) (s : State) : (s.setSgu v).rck = s.rck := rfl
@[simp] theorem setSgu_svc (v : Sgu) (s : State) : (s.setSgu v).svc = s.svc := rfl
@[simp] theorem setSgu_txu (v : Sgu) (s : State) : (s.setSgu v).txu = s.txu := rfl
@[simp] theorem setSgu_fru (v : Sgu) (s : State) : (s.setSgu v).fru = s.fru := rfl
@[simp] theorem setSgu_scu (v : Sgu) (s : State) : (s.setSgu v).scu = s.scu := rfl
@[simp] theorem setSgu_ltu (v : Sgu) (s : State) : (s.setSgu v).ltu = s.ltu := rfl
@[simp] theorem setSgu_pcu (v : Sgu) (s : State) : (s.setSgu v).pcu = s.pcu := rfl
@[simp] theorem setSgu_lfc (v : Sgu) (s : State) : (s.setSgu v).lfc = s.lfc := rfl
@[simp] theorem setSgu_sgu (v : Sgu) (s : State) : (s.setSgu v).sgu = v := rfl
@[simp] theorem setSgu_rjn (v : Sgu) (s : State) : (s.setSgu v).rjn = s.rjn := rfl
@[simp] theorem setSgu_ads (v : Sgu) (s : State) : (s.setSgu v).ads = s.ads := rfl
@[simp] theorem setSgu_inp (v : Sgu) (s : State) : (s.setSgu v).inp = s.inp := rfl

@[simp] theorem setRjn_powered (v : Rjn) (s : State) : (s.setRjn v).powered = s.powered := rfl
@[simp] theorem setRjn_pending (v : Rjn) (s : State) : (s.setRjn v).pending = s.pending := rfl
@[simp] theorem setRjn_lpt (v : Rjn) (s : State) : (s.setRjn v).lpt = s.lpt := rfl
@[simp] theorem setRjn_stl (v : Rjn) (s : State) : (s.setRjn v).stl = s.stl := rfl
@[simp] theorem setRjn_setup (v : Rjn) (s : State) : (s.setRjn v).setup = s.setup := rfl
@[simp] theorem setRjn_rck (v : Rjn) (s : State) : (s.setRjn v).rck = s.rck := rfl
@[simp] theorem setRjn_svc (v : Rjn) (s : State) : (s.setRjn v).svc = s.svc := rfl
@[simp] theorem setRjn_txu (v : Rjn) (s : State) : (s.setRjn v).txu = s.txu := rfl
@[simp] theorem setRjn_fru (v : Rjn) (s : State) : (s.setRjn v).fru = s.fru := rfl
@[simp] theorem setRjn_scu (v : Rjn) (s : State) : (s.setRjn v).scu = s.scu := rfl
@[simp] theorem setRjn_ltu (v : Rjn) (s : State) : (s.setRjn v).ltu = s.ltu := rfl
@[simp] theorem setRjn_pcu (v : Rjn) (s : State) : (s.setRjn v).pcu = s.pcu := rfl
@[simp] theorem setRjn_lfc (v : Rjn) (s : State) : (s.setRjn v).lfc = s.lfc := rfl
@[simp] theorem setRjn_sgu (v : Rjn) (s : State) : (s.setRjn v).sgu = s.sgu := rfl
@[simp] theorem setRjn_rjn (v : Rjn) (s : State) : (s.setRjn v).rjn = v := rfl
@[simp] theorem setRjn_ads (v : Rjn) (s : State) : (s.setRjn v).ads = s.ads := rfl
@[simp] theorem setRjn_inp (v : Rjn) (s : State) : (s.setRjn v).inp = s.inp := rfl

@[simp] theorem setAds_powered (v : Ads) (s : State) : (s.setAds v).powered = s.powered := rfl
@[simp] theorem setAds_pending (v : Ads) (s : State) : (s.setAds v).pending = s.pending := rfl
@[simp] theorem setAds_lpt (v : Ads) (s : State) : (s.setAds v).lpt = s.lpt := rfl
@[simp] theorem setAds_stl (v : Ads) (s : State) : (s.setAds v).stl = s.stl := rfl
@[simp] theorem setAds_setup (v : Ads) (s : State) : (s.setAds v).setup = s.setup := rfl
@[simp] theorem setAds_rck (v : Ads) (s : State) : (s.setAds v).rck = s.rck := rfl
@[simp] theorem setAds_svc (v : Ads) (s : State) : (s.setAds v).svc = s.svc := rfl
@[simp] theorem setAds_txu (v : Ads) (s : State) : (s.setAds v).txu = s.txu := rfl
@[simp] theorem setAds_fru (v : Ads) (s : State) : (s.setAds v).fru = s.fru := rfl
@[simp] theorem setAds_scu (v : Ads) (s : State) : (s.setAds v).scu = s.scu := rfl
@[simp] theorem setAds_ltu (v : Ads) (s : State) : (s.setAds v).ltu = s.ltu := rfl
@[simp] theorem setAds_pcu (v : Ads) (s : State) : (s.setAds v).pcu = s.pcu := rfl
@[simp] theorem setAds_lfc (v : Ads) (s : State) : (s.setAds v).lfc = s.lfc := rfl
@[simp] theorem setAds_sgu (v : Ads) (s : State) : (s.setAds v).sgu = s.sgu := rfl
@[simp] theorem setAds_rjn (v : Ads) (s : State) : (s.setAds v).rjn = s.rjn := rfl
@[simp] theorem setAds_ads (v : Ads) (s : State) : (s.setAds v).ads = v := rfl
@[simp] theorem setAds_inp (v : Ads) (s : State) : (s.setAds v).inp = s.inp := rfl

@[simp] theorem setInp_powered (v : Inputs) (s : State) : (s.setInp v).powered = s.powered := rfl
@[simp] theorem setInp_pending (v : Inputs) (s : State) : (s.setInp v).pending = s.pending := rfl
@[simp] theorem setInp_lpt (v : Inputs) (s : State) : (s.setInp v).lpt = s.lpt := rfl
@[simp] theorem setInp_stl (v : Inputs) (s : State) : (s.setInp v).stl = s.stl := rfl
@[simp] theorem setInp_setup (v : Inputs) (s : State) : (s.setInp v).setup = s.setup := rfl
@[simp] theorem setInp_rck (v : Inputs) (s : State) : (s.setInp v).rck = s.rck := rfl
@[simp] theorem setInp_svc (v : Inputs) (s : State) : (s.setInp v).svc = s.svc := rfl
@[simp] theorem setInp_txu (v : Inputs) (s : State) : (s.setInp v).txu = s.txu := rfl
@[simp] theorem setInp_fru (v : Inputs) (s : State) : (s.setInp v).fru = s.fru := rfl
@[simp] theorem setInp_scu (v : Inputs) (s : State) : (s.setInp v).scu = s.scu := rfl
@[simp] theorem setInp_ltu (v : Inputs) (s : State) : (s.setInp v).ltu = s.ltu := rfl
@[simp] theorem setInp_pcu (v : Inputs) (s : State) : (s.setInp v).pcu = s.pcu := rfl
@[simp] theorem setInp_lfc (v : Inputs) (s : State) : (s.setInp v).lfc = s.lfc := rfl
@[simp] theorem setInp_sgu (v : Inputs) (s : State) : (s.setInp v).sgu = s.sgu := rfl
@[simp] theorem setInp_rjn (v : Inputs) (s : State) : (s.setInp v).rjn = s.rjn := rfl
@[simp] theorem setInp_ads (v : Inputs) (s : State) : (s.setInp v).ads = s.ads := rfl
@[simp] theorem setInp_inp (v : Inputs) (s : State) : (s.setInp v).inp = v := rfl

end Sys2Proof.Machine
end

