-- ==== Sys2Proof/Laws/Ops.lean ====
section
/-! SUPPORT. Frames of the shared operations: the blocks each operation leaves as they were. -/

namespace Sys2Proof.Machine

@[simp] theorem raiseLane_frame (c : Cause) (s : State) :
    (raiseLane c s).powered = s.powered ∧ (raiseLane c s).pending = s.pending ∧
    (raiseLane c s).stl = s.stl ∧ (raiseLane c s).setup = s.setup ∧ (raiseLane c s).rck = s.rck ∧
    (raiseLane c s).svc = s.svc ∧ (raiseLane c s).txu = s.txu ∧ (raiseLane c s).fru = s.fru ∧
    (raiseLane c s).scu = s.scu ∧ (raiseLane c s).ltu = s.ltu ∧ (raiseLane c s).pcu = s.pcu ∧
    (raiseLane c s).lfc = s.lfc ∧ (raiseLane c s).sgu = s.sgu ∧ (raiseLane c s).rjn = s.rjn ∧
    (raiseLane c s).ads = s.ads ∧ (raiseLane c s).inp = s.inp := by
  unfold raiseLane
  repeat' split
  all_goals simp

@[simp] theorem raiseStation_frame (c : Cause) (s : State) :
    (raiseStation c s).powered = s.powered ∧ (raiseStation c s).pending = s.pending ∧
    (raiseStation c s).lpt = s.lpt ∧ (raiseStation c s).setup = s.setup ∧
    (raiseStation c s).rck = s.rck ∧ (raiseStation c s).svc = s.svc ∧ (raiseStation c s).txu = s.txu ∧
    (raiseStation c s).fru = s.fru ∧ (raiseStation c s).scu = s.scu ∧ (raiseStation c s).ltu = s.ltu ∧
    (raiseStation c s).pcu = s.pcu ∧ (raiseStation c s).lfc = s.lfc ∧ (raiseStation c s).sgu = s.sgu ∧
    (raiseStation c s).rjn = s.rjn ∧ (raiseStation c s).ads = s.ads ∧ (raiseStation c s).inp = s.inp := by
  unfold raiseStation
  repeat' split
  all_goals simp

@[simp] theorem raiseBoth_frame (c : Cause) (s : State) :
    (raiseBoth c s).powered = s.powered ∧ (raiseBoth c s).pending = s.pending ∧
    (raiseBoth c s).setup = s.setup ∧ (raiseBoth c s).rck = s.rck ∧ (raiseBoth c s).svc = s.svc ∧
    (raiseBoth c s).txu = s.txu ∧ (raiseBoth c s).fru = s.fru ∧ (raiseBoth c s).scu = s.scu ∧
    (raiseBoth c s).ltu = s.ltu ∧ (raiseBoth c s).pcu = s.pcu ∧ (raiseBoth c s).lfc = s.lfc ∧
    (raiseBoth c s).sgu = s.sgu ∧ (raiseBoth c s).rjn = s.rjn ∧ (raiseBoth c s).ads = s.ads ∧
    (raiseBoth c s).inp = s.inp := by
  unfold raiseBoth
  repeat' split
  all_goals simp

@[simp] theorem setReasons_frame (r : Reasons) (s : State) :
    (setReasons r s).powered = s.powered ∧ (setReasons r s).pending = s.pending ∧
    (setReasons r s).lpt = s.lpt ∧ (setReasons r s).stl = s.stl ∧ (setReasons r s).setup = s.setup ∧
    (setReasons r s).rck = s.rck ∧ (setReasons r s).txu = s.txu ∧ (setReasons r s).fru = s.fru ∧
    (setReasons r s).scu = s.scu ∧ (setReasons r s).ltu = s.ltu ∧ (setReasons r s).pcu = s.pcu ∧
    (setReasons r s).lfc = s.lfc ∧ (setReasons r s).sgu = s.sgu ∧ (setReasons r s).rjn = s.rjn ∧
    (setReasons r s).ads = s.ads ∧ (setReasons r s).inp = s.inp := by
  unfold setReasons
  repeat' split
  all_goals simp

@[simp] theorem setNoKey_frame (b : Bool) (s : State) :
    (setNoKey b s).powered = s.powered ∧ (setNoKey b s).pending = s.pending ∧
    (setNoKey b s).lpt = s.lpt ∧ (setNoKey b s).stl = s.stl ∧ (setNoKey b s).setup = s.setup ∧
    (setNoKey b s).rck = s.rck ∧ (setNoKey b s).txu = s.txu ∧ (setNoKey b s).fru = s.fru ∧
    (setNoKey b s).scu = s.scu ∧ (setNoKey b s).ltu = s.ltu ∧ (setNoKey b s).pcu = s.pcu ∧
    (setNoKey b s).lfc = s.lfc ∧ (setNoKey b s).sgu = s.sgu ∧ (setNoKey b s).rjn = s.rjn ∧
    (setNoKey b s).ads = s.ads ∧ (setNoKey b s).inp = s.inp := by
  unfold setNoKey
  repeat' split
  all_goals simp

@[simp] theorem setNoFare_frame (b : Bool) (s : State) :
    (setNoFare b s).powered = s.powered ∧ (setNoFare b s).pending = s.pending ∧
    (setNoFare b s).lpt = s.lpt ∧ (setNoFare b s).stl = s.stl ∧ (setNoFare b s).setup = s.setup ∧
    (setNoFare b s).rck = s.rck ∧ (setNoFare b s).txu = s.txu ∧ (setNoFare b s).fru = s.fru ∧
    (setNoFare b s).scu = s.scu ∧ (setNoFare b s).ltu = s.ltu ∧ (setNoFare b s).pcu = s.pcu ∧
    (setNoFare b s).lfc = s.lfc ∧ (setNoFare b s).sgu = s.sgu ∧ (setNoFare b s).rjn = s.rjn ∧
    (setNoFare b s).ads = s.ads ∧ (setNoFare b s).inp = s.inp := by
  unfold setNoFare
  repeat' split
  all_goals simp

@[simp] theorem setNoTime_frame (b : Bool) (s : State) :
    (setNoTime b s).powered = s.powered ∧ (setNoTime b s).pending = s.pending ∧
    (setNoTime b s).lpt = s.lpt ∧ (setNoTime b s).stl = s.stl ∧ (setNoTime b s).setup = s.setup ∧
    (setNoTime b s).rck = s.rck ∧ (setNoTime b s).txu = s.txu ∧ (setNoTime b s).fru = s.fru ∧
    (setNoTime b s).scu = s.scu ∧ (setNoTime b s).ltu = s.ltu ∧ (setNoTime b s).pcu = s.pcu ∧
    (setNoTime b s).lfc = s.lfc ∧ (setNoTime b s).sgu = s.sgu ∧ (setNoTime b s).rjn = s.rjn ∧
    (setNoTime b s).ads = s.ads ∧ (setNoTime b s).inp = s.inp := by
  unfold setNoTime
  repeat' split
  all_goals simp

@[simp] theorem setNoSetup_frame (b : Bool) (s : State) :
    (setNoSetup b s).powered = s.powered ∧ (setNoSetup b s).pending = s.pending ∧
    (setNoSetup b s).lpt = s.lpt ∧ (setNoSetup b s).stl = s.stl ∧ (setNoSetup b s).setup = s.setup ∧
    (setNoSetup b s).rck = s.rck ∧ (setNoSetup b s).txu = s.txu ∧ (setNoSetup b s).fru = s.fru ∧
    (setNoSetup b s).scu = s.scu ∧ (setNoSetup b s).ltu = s.ltu ∧ (setNoSetup b s).pcu = s.pcu ∧
    (setNoSetup b s).lfc = s.lfc ∧ (setNoSetup b s).sgu = s.sgu ∧ (setNoSetup b s).rjn = s.rjn ∧
    (setNoSetup b s).ads = s.ads ∧ (setNoSetup b s).inp = s.inp := by
  unfold setNoSetup
  repeat' split
  all_goals simp

@[simp] theorem setJournalStop_frame (b : Bool) (s : State) :
    (setJournalStop b s).powered = s.powered ∧ (setJournalStop b s).pending = s.pending ∧
    (setJournalStop b s).lpt = s.lpt ∧ (setJournalStop b s).stl = s.stl ∧
    (setJournalStop b s).setup = s.setup ∧ (setJournalStop b s).rck = s.rck ∧
    (setJournalStop b s).txu = s.txu ∧ (setJournalStop b s).fru = s.fru ∧
    (setJournalStop b s).scu = s.scu ∧ (setJournalStop b s).ltu = s.ltu ∧
    (setJournalStop b s).pcu = s.pcu ∧ (setJournalStop b s).lfc = s.lfc ∧
    (setJournalStop b s).sgu = s.sgu ∧ (setJournalStop b s).rjn = s.rjn ∧
    (setJournalStop b s).ads = s.ads ∧ (setJournalStop b s).inp = s.inp := by
  unfold setJournalStop
  repeat' split
  all_goals simp

@[simp] theorem setLeafFault_frame (b : Bool) (s : State) :
    (setLeafFault b s).powered = s.powered ∧ (setLeafFault b s).pending = s.pending ∧
    (setLeafFault b s).lpt = s.lpt ∧ (setLeafFault b s).stl = s.stl ∧
    (setLeafFault b s).setup = s.setup ∧ (setLeafFault b s).rck = s.rck ∧
    (setLeafFault b s).txu = s.txu ∧ (setLeafFault b s).fru = s.fru ∧ (setLeafFault b s).scu = s.scu ∧
    (setLeafFault b s).ltu = s.ltu ∧ (setLeafFault b s).pcu = s.pcu ∧ (setLeafFault b s).lfc = s.lfc ∧
    (setLeafFault b s).sgu = s.sgu ∧ (setLeafFault b s).rjn = s.rjn ∧ (setLeafFault b s).ads = s.ads ∧
    (setLeafFault b s).inp = s.inp := by
  unfold setLeafFault
  repeat' split
  all_goals simp

@[simp] theorem setHoldReason_frame (b : Bool) (s : State) :
    (setHoldReason b s).powered = s.powered ∧ (setHoldReason b s).pending = s.pending ∧
    (setHoldReason b s).lpt = s.lpt ∧ (setHoldReason b s).stl = s.stl ∧
    (setHoldReason b s).setup = s.setup ∧ (setHoldReason b s).rck = s.rck ∧
    (setHoldReason b s).txu = s.txu ∧ (setHoldReason b s).fru = s.fru ∧
    (setHoldReason b s).scu = s.scu ∧ (setHoldReason b s).ltu = s.ltu ∧
    (setHoldReason b s).pcu = s.pcu ∧ (setHoldReason b s).lfc = s.lfc ∧
    (setHoldReason b s).sgu = s.sgu ∧ (setHoldReason b s).rjn = s.rjn ∧
    (setHoldReason b s).ads = s.ads ∧ (setHoldReason b s).inp = s.inp := by
  unfold setHoldReason
  repeat' split
  all_goals simp

@[simp] theorem setModeClosed_frame (b : Bool) (s : State) :
    (setModeClosed b s).powered = s.powered ∧ (setModeClosed b s).pending = s.pending ∧
    (setModeClosed b s).lpt = s.lpt ∧ (setModeClosed b s).stl = s.stl ∧
    (setModeClosed b s).setup = s.setup ∧ (setModeClosed b s).rck = s.rck ∧
    (setModeClosed b s).txu = s.txu ∧ (setModeClosed b s).fru = s.fru ∧
    (setModeClosed b s).scu = s.scu ∧ (setModeClosed b s).ltu = s.ltu ∧
    (setModeClosed b s).pcu = s.pcu ∧ (setModeClosed b s).lfc = s.lfc ∧
    (setModeClosed b s).sgu = s.sgu ∧ (setModeClosed b s).rjn = s.rjn ∧
    (setModeClosed b s).ads = s.ads ∧ (setModeClosed b s).inp = s.inp := by
  unfold setModeClosed
  repeat' split
  all_goals simp

@[simp] theorem judgeLow_frame (s : State) :
    (judgeLow s).powered = s.powered ∧ (judgeLow s).pending = s.pending ∧ (judgeLow s).lpt = s.lpt ∧
    (judgeLow s).setup = s.setup ∧ (judgeLow s).rck = s.rck ∧ (judgeLow s).svc = s.svc ∧
    (judgeLow s).txu = s.txu ∧ (judgeLow s).fru = s.fru ∧ (judgeLow s).scu = s.scu ∧
    (judgeLow s).ltu = s.ltu ∧ (judgeLow s).pcu = s.pcu ∧ (judgeLow s).lfc = s.lfc ∧
    (judgeLow s).sgu = s.sgu ∧ (judgeLow s).ads = s.ads ∧ (judgeLow s).inp = s.inp := by
  unfold judgeLow
  repeat' split
  all_goals simp

@[simp] theorem judgeStop_frame (s : State) :
    (judgeStop s).powered = s.powered ∧ (judgeStop s).pending = s.pending ∧ (judgeStop s).lpt = s.lpt ∧
    (judgeStop s).setup = s.setup ∧ (judgeStop s).rck = s.rck ∧ (judgeStop s).txu = s.txu ∧
    (judgeStop s).fru = s.fru ∧ (judgeStop s).scu = s.scu ∧ (judgeStop s).ltu = s.ltu ∧
    (judgeStop s).pcu = s.pcu ∧ (judgeStop s).lfc = s.lfc ∧ (judgeStop s).sgu = s.sgu ∧
    (judgeStop s).ads = s.ads ∧ (judgeStop s).inp = s.inp := by
  unfold judgeStop
  repeat' split
  all_goals simp

@[simp] theorem judgeSpace_frame (s : State) :
    (judgeSpace s).powered = s.powered ∧ (judgeSpace s).pending = s.pending ∧
    (judgeSpace s).lpt = s.lpt ∧ (judgeSpace s).setup = s.setup ∧ (judgeSpace s).rck = s.rck ∧
    (judgeSpace s).txu = s.txu ∧ (judgeSpace s).fru = s.fru ∧ (judgeSpace s).scu = s.scu ∧
    (judgeSpace s).ltu = s.ltu ∧ (judgeSpace s).pcu = s.pcu ∧ (judgeSpace s).lfc = s.lfc ∧
    (judgeSpace s).sgu = s.sgu ∧ (judgeSpace s).ads = s.ads ∧ (judgeSpace s).inp = s.inp := by
  unfold judgeSpace
  repeat' split
  all_goals simp

@[simp] theorem appendEntry_frame (e : Entry) (s : State) :
    (appendEntry e s).powered = s.powered ∧ (appendEntry e s).pending = s.pending ∧
    (appendEntry e s).lpt = s.lpt ∧ (appendEntry e s).stl = s.stl ∧ (appendEntry e s).setup = s.setup ∧
    (appendEntry e s).rck = s.rck ∧ (appendEntry e s).svc = s.svc ∧ (appendEntry e s).txu = s.txu ∧
    (appendEntry e s).fru = s.fru ∧ (appendEntry e s).scu = s.scu ∧ (appendEntry e s).ltu = s.ltu ∧
    (appendEntry e s).pcu = s.pcu ∧ (appendEntry e s).lfc = s.lfc ∧ (appendEntry e s).sgu = s.sgu ∧
    (appendEntry e s).ads = s.ads ∧ (appendEntry e s).inp = s.inp := by
  unfold appendEntry
  repeat' split
  all_goals simp

@[simp] theorem countOverrun_frame (s : State) :
    (countOverrun s).powered = s.powered ∧ (countOverrun s).pending = s.pending ∧
    (countOverrun s).lpt = s.lpt ∧ (countOverrun s).setup = s.setup ∧ (countOverrun s).rck = s.rck ∧
    (countOverrun s).svc = s.svc ∧ (countOverrun s).txu = s.txu ∧ (countOverrun s).fru = s.fru ∧
    (countOverrun s).scu = s.scu ∧ (countOverrun s).ltu = s.ltu ∧ (countOverrun s).pcu = s.pcu ∧
    (countOverrun s).lfc = s.lfc ∧ (countOverrun s).sgu = s.sgu ∧ (countOverrun s).ads = s.ads ∧
    (countOverrun s).inp = s.inp := by
  unfold countOverrun
  repeat' split
  all_goals simp

@[simp] theorem writeFree_frame (e : Entry) (s : State) :
    (writeFree e s).powered = s.powered ∧ (writeFree e s).pending = s.pending ∧
    (writeFree e s).lpt = s.lpt ∧ (writeFree e s).setup = s.setup ∧ (writeFree e s).rck = s.rck ∧
    (writeFree e s).txu = s.txu ∧ (writeFree e s).fru = s.fru ∧ (writeFree e s).scu = s.scu ∧
    (writeFree e s).ltu = s.ltu ∧ (writeFree e s).pcu = s.pcu ∧ (writeFree e s).lfc = s.lfc ∧
    (writeFree e s).sgu = s.sgu ∧ (writeFree e s).ads = s.ads ∧ (writeFree e s).inp = s.inp := by
  unfold writeFree
  repeat' split
  all_goals simp

@[simp] theorem writeReserved_frame (e : Entry) (s : State) :
    (writeReserved e s).powered = s.powered ∧ (writeReserved e s).pending = s.pending ∧
    (writeReserved e s).lpt = s.lpt ∧ (writeReserved e s).setup = s.setup ∧
    (writeReserved e s).rck = s.rck ∧ (writeReserved e s).txu = s.txu ∧
    (writeReserved e s).fru = s.fru ∧ (writeReserved e s).scu = s.scu ∧
    (writeReserved e s).ltu = s.ltu ∧ (writeReserved e s).pcu = s.pcu ∧
    (writeReserved e s).lfc = s.lfc ∧ (writeReserved e s).sgu = s.sgu ∧
    (writeReserved e s).ads = s.ads ∧ (writeReserved e s).inp = s.inp := by
  unfold writeReserved
  repeat' split
  all_goals simp

@[simp] theorem overrunEntry_frame (n : Nat) (s : State) :
    (overrunEntry n s).powered = s.powered ∧ (overrunEntry n s).pending = s.pending ∧
    (overrunEntry n s).lpt = s.lpt ∧ (overrunEntry n s).setup = s.setup ∧
    (overrunEntry n s).rck = s.rck ∧ (overrunEntry n s).txu = s.txu ∧ (overrunEntry n s).fru = s.fru ∧
    (overrunEntry n s).scu = s.scu ∧ (overrunEntry n s).ltu = s.ltu ∧ (overrunEntry n s).pcu = s.pcu ∧
    (overrunEntry n s).lfc = s.lfc ∧ (overrunEntry n s).sgu = s.sgu ∧ (overrunEntry n s).ads = s.ads ∧
    (overrunEntry n s).inp = s.inp := by
  unfold overrunEntry
  repeat' split
  all_goals simp

@[simp] theorem release1_frame (s : State) :
    (release1 s).powered = s.powered ∧ (release1 s).pending = s.pending ∧ (release1 s).lpt = s.lpt ∧
    (release1 s).setup = s.setup ∧ (release1 s).rck = s.rck ∧ (release1 s).txu = s.txu ∧
    (release1 s).fru = s.fru ∧ (release1 s).scu = s.scu ∧ (release1 s).ltu = s.ltu ∧
    (release1 s).pcu = s.pcu ∧ (release1 s).lfc = s.lfc ∧ (release1 s).sgu = s.sgu ∧
    (release1 s).ads = s.ads ∧ (release1 s).inp = s.inp := by
  unfold release1
  repeat' split
  all_goals simp

@[simp] theorem reserve_frame (k : Nat) (s : State) :
    (reserve k s).powered = s.powered ∧ (reserve k s).pending = s.pending ∧ (reserve k s).lpt = s.lpt ∧
    (reserve k s).setup = s.setup ∧ (reserve k s).rck = s.rck ∧ (reserve k s).txu = s.txu ∧
    (reserve k s).fru = s.fru ∧ (reserve k s).scu = s.scu ∧ (reserve k s).ltu = s.ltu ∧
    (reserve k s).pcu = s.pcu ∧ (reserve k s).lfc = s.lfc ∧ (reserve k s).sgu = s.sgu ∧
    (reserve k s).ads = s.ads ∧ (reserve k s).inp = s.inp := by
  unfold reserve
  repeat' split
  all_goals simp

@[simp] theorem setChan_frame (i : ChanId) (c : Channel) (s : State) :
    (setChan i c s).powered = s.powered ∧ (setChan i c s).pending = s.pending ∧
    (setChan i c s).lpt = s.lpt ∧ (setChan i c s).stl = s.stl ∧ (setChan i c s).setup = s.setup ∧
    (setChan i c s).rck = s.rck ∧ (setChan i c s).svc = s.svc ∧ (setChan i c s).txu = s.txu ∧
    (setChan i c s).fru = s.fru ∧ (setChan i c s).scu = s.scu ∧ (setChan i c s).pcu = s.pcu ∧
    (setChan i c s).lfc = s.lfc ∧ (setChan i c s).sgu = s.sgu ∧ (setChan i c s).rjn = s.rjn ∧
    (setChan i c s).ads = s.ads ∧ (setChan i c s).inp = s.inp := by
  unfold setChan
  repeat' split
  all_goals simp

@[simp] theorem chanStart_frame (i : ChanId) (r c : Nat) (s : State) :
    (chanStart i r c s).powered = s.powered ∧ (chanStart i r c s).pending = s.pending ∧
    (chanStart i r c s).lpt = s.lpt ∧ (chanStart i r c s).stl = s.stl ∧
    (chanStart i r c s).setup = s.setup ∧ (chanStart i r c s).rck = s.rck ∧
    (chanStart i r c s).svc = s.svc ∧ (chanStart i r c s).txu = s.txu ∧
    (chanStart i r c s).fru = s.fru ∧ (chanStart i r c s).scu = s.scu ∧
    (chanStart i r c s).pcu = s.pcu ∧ (chanStart i r c s).lfc = s.lfc ∧
    (chanStart i r c s).sgu = s.sgu ∧ (chanStart i r c s).rjn = s.rjn ∧
    (chanStart i r c s).ads = s.ads ∧ (chanStart i r c s).inp = s.inp := by
  unfold chanStart
  repeat' split
  all_goals simp

@[simp] theorem chanStartHeld_frame (i : ChanId) (r c : Nat) (s : State) :
    (chanStartHeld i r c s).powered = s.powered ∧ (chanStartHeld i r c s).pending = s.pending ∧
    (chanStartHeld i r c s).lpt = s.lpt ∧ (chanStartHeld i r c s).stl = s.stl ∧
    (chanStartHeld i r c s).setup = s.setup ∧ (chanStartHeld i r c s).rck = s.rck ∧
    (chanStartHeld i r c s).svc = s.svc ∧ (chanStartHeld i r c s).txu = s.txu ∧
    (chanStartHeld i r c s).fru = s.fru ∧ (chanStartHeld i r c s).scu = s.scu ∧
    (chanStartHeld i r c s).pcu = s.pcu ∧ (chanStartHeld i r c s).lfc = s.lfc ∧
    (chanStartHeld i r c s).sgu = s.sgu ∧ (chanStartHeld i r c s).rjn = s.rjn ∧
    (chanStartHeld i r c s).ads = s.ads ∧ (chanStartHeld i r c s).inp = s.inp := by
  unfold chanStartHeld
  repeat' split
  all_goals simp

@[simp] theorem chanHold_frame (i : ChanId) (s : State) :
    (chanHold i s).powered = s.powered ∧ (chanHold i s).pending = s.pending ∧
    (chanHold i s).lpt = s.lpt ∧ (chanHold i s).stl = s.stl ∧ (chanHold i s).setup = s.setup ∧
    (chanHold i s).rck = s.rck ∧ (chanHold i s).svc = s.svc ∧ (chanHold i s).txu = s.txu ∧
    (chanHold i s).fru = s.fru ∧ (chanHold i s).scu = s.scu ∧ (chanHold i s).pcu = s.pcu ∧
    (chanHold i s).lfc = s.lfc ∧ (chanHold i s).sgu = s.sgu ∧ (chanHold i s).rjn = s.rjn ∧
    (chanHold i s).ads = s.ads ∧ (chanHold i s).inp = s.inp := by
  unfold chanHold
  repeat' split
  all_goals simp

@[simp] theorem chanResume_frame (i : ChanId) (s : State) :
    (chanResume i s).powered = s.powered ∧ (chanResume i s).pending = s.pending ∧
    (chanResume i s).lpt = s.lpt ∧ (chanResume i s).stl = s.stl ∧ (chanResume i s).setup = s.setup ∧
    (chanResume i s).rck = s.rck ∧ (chanResume i s).svc = s.svc ∧ (chanResume i s).txu = s.txu ∧
    (chanResume i s).fru = s.fru ∧ (chanResume i s).scu = s.scu ∧ (chanResume i s).pcu = s.pcu ∧
    (chanResume i s).lfc = s.lfc ∧ (chanResume i s).sgu = s.sgu ∧ (chanResume i s).rjn = s.rjn ∧
    (chanResume i s).ads = s.ads ∧ (chanResume i s).inp = s.inp := by
  unfold chanResume
  repeat' split
  all_goals simp

@[simp] theorem chanStop_frame (i : ChanId) (s : State) :
    (chanStop i s).powered = s.powered ∧ (chanStop i s).pending = s.pending ∧
    (chanStop i s).lpt = s.lpt ∧ (chanStop i s).stl = s.stl ∧ (chanStop i s).setup = s.setup ∧
    (chanStop i s).rck = s.rck ∧ (chanStop i s).svc = s.svc ∧ (chanStop i s).txu = s.txu ∧
    (chanStop i s).fru = s.fru ∧ (chanStop i s).scu = s.scu ∧ (chanStop i s).pcu = s.pcu ∧
    (chanStop i s).lfc = s.lfc ∧ (chanStop i s).sgu = s.sgu ∧ (chanStop i s).rjn = s.rjn ∧
    (chanStop i s).ads = s.ads ∧ (chanStop i s).inp = s.inp := by
  unfold chanStop
  repeat' split
  all_goals simp

@[simp] theorem takeCompare_frame (i : ChanId) (s : State) :
    (takeCompare i s).powered = s.powered ∧ (takeCompare i s).pending = s.pending ∧
    (takeCompare i s).lpt = s.lpt ∧ (takeCompare i s).stl = s.stl ∧ (takeCompare i s).setup = s.setup ∧
    (takeCompare i s).rck = s.rck ∧ (takeCompare i s).svc = s.svc ∧ (takeCompare i s).txu = s.txu ∧
    (takeCompare i s).fru = s.fru ∧ (takeCompare i s).scu = s.scu ∧ (takeCompare i s).pcu = s.pcu ∧
    (takeCompare i s).lfc = s.lfc ∧ (takeCompare i s).sgu = s.sgu ∧ (takeCompare i s).rjn = s.rjn ∧
    (takeCompare i s).ads = s.ads ∧ (takeCompare i s).inp = s.inp := by
  unfold takeCompare
  repeat' split
  all_goals simp

@[simp] theorem takeUnderflow_frame (i : ChanId) (s : State) :
    (takeUnderflow i s).powered = s.powered ∧ (takeUnderflow i s).pending = s.pending ∧
    (takeUnderflow i s).lpt = s.lpt ∧ (takeUnderflow i s).stl = s.stl ∧
    (takeUnderflow i s).setup = s.setup ∧ (takeUnderflow i s).rck = s.rck ∧
    (takeUnderflow i s).svc = s.svc ∧ (takeUnderflow i s).txu = s.txu ∧
    (takeUnderflow i s).fru = s.fru ∧ (takeUnderflow i s).scu = s.scu ∧
    (takeUnderflow i s).pcu = s.pcu ∧ (takeUnderflow i s).lfc = s.lfc ∧
    (takeUnderflow i s).sgu = s.sgu ∧ (takeUnderflow i s).rjn = s.rjn ∧
    (takeUnderflow i s).ads = s.ads ∧ (takeUnderflow i s).inp = s.inp := by
  unfold takeUnderflow
  repeat' split
  all_goals simp

@[simp] theorem setSlot_frame (x : Side) (v : Option Slot) (s : State) :
    (setSlot x v s).powered = s.powered ∧ (setSlot x v s).pending = s.pending ∧
    (setSlot x v s).lpt = s.lpt ∧ (setSlot x v s).stl = s.stl ∧ (setSlot x v s).setup = s.setup ∧
    (setSlot x v s).rck = s.rck ∧ (setSlot x v s).svc = s.svc ∧ (setSlot x v s).fru = s.fru ∧
    (setSlot x v s).scu = s.scu ∧ (setSlot x v s).ltu = s.ltu ∧ (setSlot x v s).pcu = s.pcu ∧
    (setSlot x v s).lfc = s.lfc ∧ (setSlot x v s).sgu = s.sgu ∧ (setSlot x v s).rjn = s.rjn ∧
    (setSlot x v s).ads = s.ads ∧ (setSlot x v s).inp = s.inp := by
  unfold setSlot
  repeat' split
  all_goals simp

@[simp] theorem setQueue_frame (d : Side) (q : List Credit) (s : State) :
    (setQueue d q s).powered = s.powered ∧ (setQueue d q s).pending = s.pending ∧
    (setQueue d q s).lpt = s.lpt ∧ (setQueue d q s).stl = s.stl ∧ (setQueue d q s).setup = s.setup ∧
    (setQueue d q s).rck = s.rck ∧ (setQueue d q s).svc = s.svc ∧ (setQueue d q s).txu = s.txu ∧
    (setQueue d q s).fru = s.fru ∧ (setQueue d q s).scu = s.scu ∧ (setQueue d q s).ltu = s.ltu ∧
    (setQueue d q s).lfc = s.lfc ∧ (setQueue d q s).sgu = s.sgu ∧ (setQueue d q s).rjn = s.rjn ∧
    (setQueue d q s).ads = s.ads ∧ (setQueue d q s).inp = s.inp := by
  unfold setQueue
  repeat' split
  all_goals simp

@[simp] theorem startTone_frame (t : Tone) (n : Nat) (s : State) :
    (startTone t n s).powered = s.powered ∧ (startTone t n s).pending = s.pending ∧
    (startTone t n s).lpt = s.lpt ∧ (startTone t n s).stl = s.stl ∧ (startTone t n s).setup = s.setup ∧
    (startTone t n s).rck = s.rck ∧ (startTone t n s).svc = s.svc ∧ (startTone t n s).txu = s.txu ∧
    (startTone t n s).fru = s.fru ∧ (startTone t n s).scu = s.scu ∧ (startTone t n s).pcu = s.pcu ∧
    (startTone t n s).lfc = s.lfc ∧ (startTone t n s).rjn = s.rjn ∧ (startTone t n s).ads = s.ads ∧
    (startTone t n s).inp = s.inp := by
  unfold startTone
  repeat' split
  all_goals simp

@[simp] theorem requestTone_frame (t : Tone) (n : Nat) (s : State) :
    (requestTone t n s).powered = s.powered ∧ (requestTone t n s).pending = s.pending ∧
    (requestTone t n s).lpt = s.lpt ∧ (requestTone t n s).stl = s.stl ∧
    (requestTone t n s).setup = s.setup ∧ (requestTone t n s).rck = s.rck ∧
    (requestTone t n s).svc = s.svc ∧ (requestTone t n s).txu = s.txu ∧
    (requestTone t n s).fru = s.fru ∧ (requestTone t n s).scu = s.scu ∧
    (requestTone t n s).pcu = s.pcu ∧ (requestTone t n s).lfc = s.lfc ∧
    (requestTone t n s).rjn = s.rjn ∧ (requestTone t n s).ads = s.ads ∧ (requestTone t n s).inp = s.inp := by
  unfold requestTone
  repeat' split
  all_goals simp

@[simp] theorem toneAlarm_frame (s : State) :
    (toneAlarm s).powered = s.powered ∧ (toneAlarm s).pending = s.pending ∧ (toneAlarm s).lpt = s.lpt ∧
    (toneAlarm s).stl = s.stl ∧ (toneAlarm s).setup = s.setup ∧ (toneAlarm s).rck = s.rck ∧
    (toneAlarm s).svc = s.svc ∧ (toneAlarm s).txu = s.txu ∧ (toneAlarm s).fru = s.fru ∧
    (toneAlarm s).scu = s.scu ∧ (toneAlarm s).pcu = s.pcu ∧ (toneAlarm s).lfc = s.lfc ∧
    (toneAlarm s).rjn = s.rjn ∧ (toneAlarm s).ads = s.ads ∧ (toneAlarm s).inp = s.inp := by
  unfold toneAlarm
  repeat' split
  all_goals simp

@[simp] theorem toneAccept_frame (s : State) :
    (toneAccept s).powered = s.powered ∧ (toneAccept s).pending = s.pending ∧
    (toneAccept s).lpt = s.lpt ∧ (toneAccept s).stl = s.stl ∧ (toneAccept s).setup = s.setup ∧
    (toneAccept s).rck = s.rck ∧ (toneAccept s).svc = s.svc ∧ (toneAccept s).txu = s.txu ∧
    (toneAccept s).fru = s.fru ∧ (toneAccept s).scu = s.scu ∧ (toneAccept s).pcu = s.pcu ∧
    (toneAccept s).lfc = s.lfc ∧ (toneAccept s).rjn = s.rjn ∧ (toneAccept s).ads = s.ads ∧
    (toneAccept s).inp = s.inp := by
  unfold toneAccept
  repeat' split
  all_goals simp

@[simp] theorem sguRefuse_frame (x : Side) (s : State) :
    (sguRefuse x s).powered = s.powered ∧ (sguRefuse x s).pending = s.pending ∧
    (sguRefuse x s).lpt = s.lpt ∧ (sguRefuse x s).stl = s.stl ∧ (sguRefuse x s).setup = s.setup ∧
    (sguRefuse x s).rck = s.rck ∧ (sguRefuse x s).svc = s.svc ∧ (sguRefuse x s).txu = s.txu ∧
    (sguRefuse x s).fru = s.fru ∧ (sguRefuse x s).scu = s.scu ∧ (sguRefuse x s).pcu = s.pcu ∧
    (sguRefuse x s).lfc = s.lfc ∧ (sguRefuse x s).rjn = s.rjn ∧ (sguRefuse x s).ads = s.ads ∧
    (sguRefuse x s).inp = s.inp := by
  unfold sguRefuse
  repeat' split
  all_goals simp

@[simp] theorem setHurry_frame (d : Side) (b : Bool) (s : State) :
    (setHurry d b s).powered = s.powered ∧ (setHurry d b s).pending = s.pending ∧
    (setHurry d b s).lpt = s.lpt ∧ (setHurry d b s).stl = s.stl ∧ (setHurry d b s).setup = s.setup ∧
    (setHurry d b s).rck = s.rck ∧ (setHurry d b s).svc = s.svc ∧ (setHurry d b s).txu = s.txu ∧
    (setHurry d b s).fru = s.fru ∧ (setHurry d b s).scu = s.scu ∧ (setHurry d b s).ltu = s.ltu ∧
    (setHurry d b s).pcu = s.pcu ∧ (setHurry d b s).lfc = s.lfc ∧ (setHurry d b s).rjn = s.rjn ∧
    (setHurry d b s).ads = s.ads ∧ (setHurry d b s).inp = s.inp := by
  unfold setHurry
  repeat' split
  all_goals simp

end Sys2Proof.Machine
end

