-- ==== Sys2Proof/Laws/Audit.lean ====
section
/-! SUPPORT. Frames of the audit sampler: the blocks each operation leaves as they were. -/

namespace Sys2Proof.Machine

@[simp] theorem onSample_frame (f : Sample → Sample) (s : State) :
    (onSample f s).powered = s.powered ∧ (onSample f s).pending = s.pending ∧
    (onSample f s).lpt = s.lpt ∧ (onSample f s).stl = s.stl ∧ (onSample f s).setup = s.setup ∧
    (onSample f s).rck = s.rck ∧ (onSample f s).svc = s.svc ∧ (onSample f s).txu = s.txu ∧
    (onSample f s).fru = s.fru ∧ (onSample f s).scu = s.scu ∧ (onSample f s).ltu = s.ltu ∧
    (onSample f s).pcu = s.pcu ∧ (onSample f s).lfc = s.lfc ∧ (onSample f s).sgu = s.sgu ∧
    (onSample f s).rjn = s.rjn ∧ (onSample f s).inp = s.inp := by
  unfold onSample
  repeat' split
  all_goals simp

@[simp] theorem auditCount_frame (s : State) :
    (auditCount s).powered = s.powered ∧ (auditCount s).pending = s.pending ∧
    (auditCount s).lpt = s.lpt ∧ (auditCount s).stl = s.stl ∧ (auditCount s).setup = s.setup ∧
    (auditCount s).rck = s.rck ∧ (auditCount s).svc = s.svc ∧ (auditCount s).txu = s.txu ∧
    (auditCount s).fru = s.fru ∧ (auditCount s).scu = s.scu ∧ (auditCount s).ltu = s.ltu ∧
    (auditCount s).pcu = s.pcu ∧ (auditCount s).lfc = s.lfc ∧ (auditCount s).sgu = s.sgu ∧
    (auditCount s).rjn = s.rjn ∧ (auditCount s).inp = s.inp := by
  unfold auditCount
  repeat' split
  all_goals simp

@[simp] theorem auditOffer_frame (m : Sample) (s : State) :
    (auditOffer m s).powered = s.powered ∧ (auditOffer m s).pending = s.pending ∧
    (auditOffer m s).lpt = s.lpt ∧ (auditOffer m s).stl = s.stl ∧ (auditOffer m s).setup = s.setup ∧
    (auditOffer m s).rck = s.rck ∧ (auditOffer m s).svc = s.svc ∧ (auditOffer m s).txu = s.txu ∧
    (auditOffer m s).fru = s.fru ∧ (auditOffer m s).scu = s.scu ∧ (auditOffer m s).ltu = s.ltu ∧
    (auditOffer m s).pcu = s.pcu ∧ (auditOffer m s).lfc = s.lfc ∧ (auditOffer m s).sgu = s.sgu ∧
    (auditOffer m s).rjn = s.rjn ∧ (auditOffer m s).inp = s.inp := by
  unfold auditOffer
  repeat' split
  all_goals simp

@[simp] theorem auditComplete_frame (o : AuditOutcome) (s : State) :
    (auditComplete o s).powered = s.powered ∧ (auditComplete o s).pending = s.pending ∧
    (auditComplete o s).lpt = s.lpt ∧ (auditComplete o s).setup = s.setup ∧
    (auditComplete o s).rck = s.rck ∧ (auditComplete o s).svc = s.svc ∧
    (auditComplete o s).txu = s.txu ∧ (auditComplete o s).fru = s.fru ∧
    (auditComplete o s).scu = s.scu ∧ (auditComplete o s).ltu = s.ltu ∧
    (auditComplete o s).pcu = s.pcu ∧ (auditComplete o s).lfc = s.lfc ∧
    (auditComplete o s).sgu = s.sgu ∧ (auditComplete o s).rjn = s.rjn ∧ (auditComplete o s).inp = s.inp := by
  unfold auditComplete
  repeat' split
  all_goals simp

@[simp] theorem auditWrite_frame (r : WriteResult) (w : Word32) (t : SampleTone) (s : State) :
    (auditWrite r w t s).powered = s.powered ∧ (auditWrite r w t s).pending = s.pending ∧
    (auditWrite r w t s).lpt = s.lpt ∧ (auditWrite r w t s).stl = s.stl ∧
    (auditWrite r w t s).setup = s.setup ∧ (auditWrite r w t s).rck = s.rck ∧
    (auditWrite r w t s).svc = s.svc ∧ (auditWrite r w t s).txu = s.txu ∧
    (auditWrite r w t s).fru = s.fru ∧ (auditWrite r w t s).scu = s.scu ∧
    (auditWrite r w t s).ltu = s.ltu ∧ (auditWrite r w t s).pcu = s.pcu ∧
    (auditWrite r w t s).lfc = s.lfc ∧ (auditWrite r w t s).sgu = s.sgu ∧
    (auditWrite r w t s).rjn = s.rjn ∧ (auditWrite r w t s).inp = s.inp := by
  unfold auditWrite
  repeat' split
  all_goals simp

@[simp] theorem auditGrant_frame (s : State) :
    (auditGrant s).powered = s.powered ∧ (auditGrant s).pending = s.pending ∧
    (auditGrant s).lpt = s.lpt ∧ (auditGrant s).stl = s.stl ∧ (auditGrant s).setup = s.setup ∧
    (auditGrant s).rck = s.rck ∧ (auditGrant s).svc = s.svc ∧ (auditGrant s).txu = s.txu ∧
    (auditGrant s).fru = s.fru ∧ (auditGrant s).scu = s.scu ∧ (auditGrant s).ltu = s.ltu ∧
    (auditGrant s).pcu = s.pcu ∧ (auditGrant s).lfc = s.lfc ∧ (auditGrant s).sgu = s.sgu ∧
    (auditGrant s).rjn = s.rjn ∧ (auditGrant s).inp = s.inp := by
  unfold auditGrant
  repeat' split
  all_goals simp

@[simp] theorem auditGrantToEnd_frame (s : State) :
    (auditGrantToEnd s).powered = s.powered ∧ (auditGrantToEnd s).pending = s.pending ∧
    (auditGrantToEnd s).lpt = s.lpt ∧ (auditGrantToEnd s).stl = s.stl ∧
    (auditGrantToEnd s).setup = s.setup ∧ (auditGrantToEnd s).rck = s.rck ∧
    (auditGrantToEnd s).svc = s.svc ∧ (auditGrantToEnd s).txu = s.txu ∧
    (auditGrantToEnd s).fru = s.fru ∧ (auditGrantToEnd s).scu = s.scu ∧
    (auditGrantToEnd s).ltu = s.ltu ∧ (auditGrantToEnd s).pcu = s.pcu ∧
    (auditGrantToEnd s).lfc = s.lfc ∧ (auditGrantToEnd s).sgu = s.sgu ∧
    (auditGrantToEnd s).rjn = s.rjn ∧ (auditGrantToEnd s).inp = s.inp := by
  unfold auditGrantToEnd
  repeat' split
  all_goals simp

@[simp] theorem auditExpired_frame (s : State) :
    (auditExpired s).powered = s.powered ∧ (auditExpired s).pending = s.pending ∧
    (auditExpired s).lpt = s.lpt ∧ (auditExpired s).setup = s.setup ∧ (auditExpired s).rck = s.rck ∧
    (auditExpired s).svc = s.svc ∧ (auditExpired s).txu = s.txu ∧ (auditExpired s).fru = s.fru ∧
    (auditExpired s).scu = s.scu ∧ (auditExpired s).ltu = s.ltu ∧ (auditExpired s).pcu = s.pcu ∧
    (auditExpired s).lfc = s.lfc ∧ (auditExpired s).sgu = s.sgu ∧ (auditExpired s).rjn = s.rjn ∧
    (auditExpired s).inp = s.inp := by
  unfold auditExpired
  repeat' split
  all_goals simp

@[simp] theorem auditConsumed_frame (s : State) :
    (auditConsumed s).powered = s.powered ∧ (auditConsumed s).pending = s.pending ∧
    (auditConsumed s).lpt = s.lpt ∧ (auditConsumed s).stl = s.stl ∧ (auditConsumed s).setup = s.setup ∧
    (auditConsumed s).rck = s.rck ∧ (auditConsumed s).svc = s.svc ∧ (auditConsumed s).txu = s.txu ∧
    (auditConsumed s).fru = s.fru ∧ (auditConsumed s).scu = s.scu ∧ (auditConsumed s).ltu = s.ltu ∧
    (auditConsumed s).pcu = s.pcu ∧ (auditConsumed s).lfc = s.lfc ∧ (auditConsumed s).sgu = s.sgu ∧
    (auditConsumed s).rjn = s.rjn ∧ (auditConsumed s).inp = s.inp := by
  unfold auditConsumed
  repeat' split
  all_goals simp

@[simp] theorem auditEpisodeEnd_frame (n : Nat) (s : State) :
    (auditEpisodeEnd n s).powered = s.powered ∧ (auditEpisodeEnd n s).pending = s.pending ∧
    (auditEpisodeEnd n s).lpt = s.lpt ∧ (auditEpisodeEnd n s).setup = s.setup ∧
    (auditEpisodeEnd n s).rck = s.rck ∧ (auditEpisodeEnd n s).svc = s.svc ∧
    (auditEpisodeEnd n s).txu = s.txu ∧ (auditEpisodeEnd n s).fru = s.fru ∧
    (auditEpisodeEnd n s).scu = s.scu ∧ (auditEpisodeEnd n s).ltu = s.ltu ∧
    (auditEpisodeEnd n s).pcu = s.pcu ∧ (auditEpisodeEnd n s).lfc = s.lfc ∧
    (auditEpisodeEnd n s).sgu = s.sgu ∧ (auditEpisodeEnd n s).rjn = s.rjn ∧
    (auditEpisodeEnd n s).inp = s.inp := by
  unfold auditEpisodeEnd
  repeat' split
  all_goals simp

@[simp] theorem auditStart_frame (s : State) :
    (auditStart s).powered = s.powered ∧ (auditStart s).pending = s.pending ∧
    (auditStart s).lpt = s.lpt ∧ (auditStart s).setup = s.setup ∧ (auditStart s).rck = s.rck ∧
    (auditStart s).svc = s.svc ∧ (auditStart s).txu = s.txu ∧ (auditStart s).fru = s.fru ∧
    (auditStart s).scu = s.scu ∧ (auditStart s).ltu = s.ltu ∧ (auditStart s).pcu = s.pcu ∧
    (auditStart s).lfc = s.lfc ∧ (auditStart s).sgu = s.sgu ∧ (auditStart s).rjn = s.rjn ∧
    (auditStart s).inp = s.inp := by
  unfold auditStart
  repeat' split
  all_goals simp

@[simp] theorem auditSettings_frame (e : Bool) (n : Nat) (r : Bool) (s : State) :
    (auditSettings e n r s).powered = s.powered ∧ (auditSettings e n r s).pending = s.pending ∧
    (auditSettings e n r s).lpt = s.lpt ∧ (auditSettings e n r s).stl = s.stl ∧
    (auditSettings e n r s).setup = s.setup ∧ (auditSettings e n r s).rck = s.rck ∧
    (auditSettings e n r s).svc = s.svc ∧ (auditSettings e n r s).txu = s.txu ∧
    (auditSettings e n r s).fru = s.fru ∧ (auditSettings e n r s).scu = s.scu ∧
    (auditSettings e n r s).ltu = s.ltu ∧ (auditSettings e n r s).pcu = s.pcu ∧
    (auditSettings e n r s).lfc = s.lfc ∧ (auditSettings e n r s).sgu = s.sgu ∧
    (auditSettings e n r s).rjn = s.rjn ∧ (auditSettings e n r s).inp = s.inp := by
  unfold auditSettings
  repeat' split
  all_goals simp

@[simp] theorem auditReleased_frame (s : State) :
    (auditReleased s).powered = s.powered ∧ (auditReleased s).pending = s.pending ∧
    (auditReleased s).lpt = s.lpt ∧ (auditReleased s).stl = s.stl ∧ (auditReleased s).setup = s.setup ∧
    (auditReleased s).rck = s.rck ∧ (auditReleased s).svc = s.svc ∧ (auditReleased s).txu = s.txu ∧
    (auditReleased s).fru = s.fru ∧ (auditReleased s).scu = s.scu ∧ (auditReleased s).ltu = s.ltu ∧
    (auditReleased s).pcu = s.pcu ∧ (auditReleased s).lfc = s.lfc ∧ (auditReleased s).sgu = s.sgu ∧
    (auditReleased s).rjn = s.rjn ∧ (auditReleased s).inp = s.inp := by
  unfold auditReleased
  repeat' split
  all_goals simp

@[simp] theorem auditTagged_frame (s : State) :
    (auditTagged s).powered = s.powered ∧ (auditTagged s).pending = s.pending ∧
    (auditTagged s).lpt = s.lpt ∧ (auditTagged s).stl = s.stl ∧ (auditTagged s).setup = s.setup ∧
    (auditTagged s).rck = s.rck ∧ (auditTagged s).svc = s.svc ∧ (auditTagged s).txu = s.txu ∧
    (auditTagged s).fru = s.fru ∧ (auditTagged s).scu = s.scu ∧ (auditTagged s).ltu = s.ltu ∧
    (auditTagged s).pcu = s.pcu ∧ (auditTagged s).lfc = s.lfc ∧ (auditTagged s).sgu = s.sgu ∧
    (auditTagged s).rjn = s.rjn ∧ (auditTagged s).inp = s.inp := by
  unfold auditTagged
  repeat' split
  all_goals simp

end Sys2Proof.Machine
end

