-- ==== Sys2Proof/Laws/Card.lean ====
section
/-! SUPPORT. Frames of the record checker: the blocks each operation leaves as they were. -/

namespace Sys2Proof.Machine

@[simp] theorem bumpW_frame (s : State) :
    (bumpW s).powered = s.powered ∧ (bumpW s).pending = s.pending ∧ (bumpW s).lpt = s.lpt ∧
    (bumpW s).stl = s.stl ∧ (bumpW s).setup = s.setup ∧ (bumpW s).svc = s.svc ∧ (bumpW s).txu = s.txu ∧
    (bumpW s).fru = s.fru ∧ (bumpW s).scu = s.scu ∧ (bumpW s).ltu = s.ltu ∧ (bumpW s).pcu = s.pcu ∧
    (bumpW s).lfc = s.lfc ∧ (bumpW s).sgu = s.sgu ∧ (bumpW s).rjn = s.rjn ∧ (bumpW s).ads = s.ads ∧
    (bumpW s).inp = s.inp := by
  unfold bumpW
  repeat' split
  all_goals simp

@[simp] theorem loadKey_frame (k : Key) (s : State) :
    (loadKey k s).powered = s.powered ∧ (loadKey k s).pending = s.pending ∧ (loadKey k s).lpt = s.lpt ∧
    (loadKey k s).setup = s.setup ∧ (loadKey k s).txu = s.txu ∧ (loadKey k s).fru = s.fru ∧
    (loadKey k s).scu = s.scu ∧ (loadKey k s).ltu = s.ltu ∧ (loadKey k s).pcu = s.pcu ∧
    (loadKey k s).lfc = s.lfc ∧ (loadKey k s).sgu = s.sgu ∧ (loadKey k s).ads = s.ads ∧
    (loadKey k s).inp = s.inp := by
  unfold loadKey
  repeat' split
  all_goals simp

end Sys2Proof.Machine
end

