-- ==== Sys2Proof/Laws/Fare.lean ====
section
/-! SUPPORT. Frames of the fare rating unit: the blocks each operation leaves as they were. -/

namespace Sys2Proof.Machine

@[simp] theorem setStandby_frame (b : Bank) (s : State) :
    (setStandby b s).powered = s.powered ∧ (setStandby b s).pending = s.pending ∧
    (setStandby b s).lpt = s.lpt ∧ (setStandby b s).stl = s.stl ∧ (setStandby b s).setup = s.setup ∧
    (setStandby b s).rck = s.rck ∧ (setStandby b s).svc = s.svc ∧ (setStandby b s).txu = s.txu ∧
    (setStandby b s).scu = s.scu ∧ (setStandby b s).ltu = s.ltu ∧ (setStandby b s).pcu = s.pcu ∧
    (setStandby b s).lfc = s.lfc ∧ (setStandby b s).sgu = s.sgu ∧ (setStandby b s).rjn = s.rjn ∧
    (setStandby b s).ads = s.ads ∧ (setStandby b s).inp = s.inp := by
  unfold setStandby
  repeat' split
  all_goals simp

@[simp] theorem setPendingSwitch_frame (p : Option DayTime) (s : State) :
    (setPendingSwitch p s).powered = s.powered ∧ (setPendingSwitch p s).pending = s.pending ∧
    (setPendingSwitch p s).lpt = s.lpt ∧ (setPendingSwitch p s).stl = s.stl ∧
    (setPendingSwitch p s).setup = s.setup ∧ (setPendingSwitch p s).rck = s.rck ∧
    (setPendingSwitch p s).svc = s.svc ∧ (setPendingSwitch p s).txu = s.txu ∧
    (setPendingSwitch p s).scu = s.scu ∧ (setPendingSwitch p s).ltu = s.ltu ∧
    (setPendingSwitch p s).pcu = s.pcu ∧ (setPendingSwitch p s).lfc = s.lfc ∧
    (setPendingSwitch p s).sgu = s.sgu ∧ (setPendingSwitch p s).rjn = s.rjn ∧
    (setPendingSwitch p s).ads = s.ads ∧ (setPendingSwitch p s).inp = s.inp := by
  unfold setPendingSwitch
  repeat' split
  all_goals simp

@[simp] theorem writeChunk_frame (off : Nat) (data : List Byte) (s : State) :
    (writeChunk off data s).powered = s.powered ∧ (writeChunk off data s).pending = s.pending ∧
    (writeChunk off data s).lpt = s.lpt ∧ (writeChunk off data s).stl = s.stl ∧
    (writeChunk off data s).setup = s.setup ∧ (writeChunk off data s).rck = s.rck ∧
    (writeChunk off data s).svc = s.svc ∧ (writeChunk off data s).txu = s.txu ∧
    (writeChunk off data s).scu = s.scu ∧ (writeChunk off data s).ltu = s.ltu ∧
    (writeChunk off data s).pcu = s.pcu ∧ (writeChunk off data s).lfc = s.lfc ∧
    (writeChunk off data s).sgu = s.sgu ∧ (writeChunk off data s).rjn = s.rjn ∧
    (writeChunk off data s).ads = s.ads ∧ (writeChunk off data s).inp = s.inp := by
  unfold writeChunk
  repeat' split
  all_goals simp

@[simp] theorem failClose_frame (s : State) :
    (failClose s).powered = s.powered ∧ (failClose s).pending = s.pending ∧ (failClose s).lpt = s.lpt ∧
    (failClose s).stl = s.stl ∧ (failClose s).setup = s.setup ∧ (failClose s).rck = s.rck ∧
    (failClose s).svc = s.svc ∧ (failClose s).txu = s.txu ∧ (failClose s).scu = s.scu ∧
    (failClose s).ltu = s.ltu ∧ (failClose s).pcu = s.pcu ∧ (failClose s).lfc = s.lfc ∧
    (failClose s).sgu = s.sgu ∧ (failClose s).rjn = s.rjn ∧ (failClose s).ads = s.ads ∧
    (failClose s).inp = s.inp := by
  unfold failClose
  repeat' split
  all_goals simp

@[simp] theorem passClose_frame (s : State) :
    (passClose s).powered = s.powered ∧ (passClose s).pending = s.pending ∧ (passClose s).lpt = s.lpt ∧
    (passClose s).stl = s.stl ∧ (passClose s).setup = s.setup ∧ (passClose s).rck = s.rck ∧
    (passClose s).svc = s.svc ∧ (passClose s).txu = s.txu ∧ (passClose s).scu = s.scu ∧
    (passClose s).ltu = s.ltu ∧ (passClose s).pcu = s.pcu ∧ (passClose s).lfc = s.lfc ∧
    (passClose s).sgu = s.sgu ∧ (passClose s).rjn = s.rjn ∧ (passClose s).ads = s.ads ∧
    (passClose s).inp = s.inp := by
  unfold passClose
  repeat' split
  all_goals simp

@[simp] theorem swapBanks_frame (r : Reason) (s : State) :
    (swapBanks r s).powered = s.powered ∧ (swapBanks r s).pending = s.pending ∧
    (swapBanks r s).setup = s.setup ∧ (swapBanks r s).rck = s.rck ∧ (swapBanks r s).txu = s.txu ∧
    (swapBanks r s).scu = s.scu ∧ (swapBanks r s).ltu = s.ltu ∧ (swapBanks r s).pcu = s.pcu ∧
    (swapBanks r s).lfc = s.lfc ∧ (swapBanks r s).sgu = s.sgu ∧ (swapBanks r s).ads = s.ads ∧
    (swapBanks r s).inp = s.inp := by
  unfold swapBanks
  repeat' split
  all_goals simp

@[simp] theorem takeTimedSwitch_frame (s : State) :
    (takeTimedSwitch s).powered = s.powered ∧ (takeTimedSwitch s).pending = s.pending ∧
    (takeTimedSwitch s).setup = s.setup ∧ (takeTimedSwitch s).rck = s.rck ∧
    (takeTimedSwitch s).txu = s.txu ∧ (takeTimedSwitch s).scu = s.scu ∧
    (takeTimedSwitch s).ltu = s.ltu ∧ (takeTimedSwitch s).pcu = s.pcu ∧
    (takeTimedSwitch s).lfc = s.lfc ∧ (takeTimedSwitch s).sgu = s.sgu ∧
    (takeTimedSwitch s).ads = s.ads ∧ (takeTimedSwitch s).inp = s.inp := by
  unfold takeTimedSwitch
  repeat' split
  all_goals simp

@[simp] theorem fruTakes_frame (s : State) :
    (fruTakes s).powered = s.powered ∧ (fruTakes s).pending = s.pending ∧
    (fruTakes s).setup = s.setup ∧ (fruTakes s).rck = s.rck ∧ (fruTakes s).txu = s.txu ∧
    (fruTakes s).scu = s.scu ∧ (fruTakes s).ltu = s.ltu ∧ (fruTakes s).pcu = s.pcu ∧
    (fruTakes s).lfc = s.lfc ∧ (fruTakes s).sgu = s.sgu ∧ (fruTakes s).ads = s.ads ∧
    (fruTakes s).inp = s.inp := by
  unfold fruTakes
  repeat' split
  all_goals simp

end Sys2Proof.Machine
end

