-- ==== Sys2Proof/Laws/Flags.lean ====
section
/-! SUPPORT. Frames of what ends an event: the blocks each operation leaves as they were. -/

namespace Sys2Proof.Machine

@[simp] theorem formLamps_frame (s : State) :
    (formLamps s).powered = s.powered ∧ (formLamps s).pending = s.pending ∧ (formLamps s).lpt = s.lpt ∧
    (formLamps s).stl = s.stl ∧ (formLamps s).setup = s.setup ∧ (formLamps s).rck = s.rck ∧
    (formLamps s).svc = s.svc ∧ (formLamps s).txu = s.txu ∧ (formLamps s).fru = s.fru ∧
    (formLamps s).scu = s.scu ∧ (formLamps s).ltu = s.ltu ∧ (formLamps s).pcu = s.pcu ∧
    (formLamps s).lfc = s.lfc ∧ (formLamps s).rjn = s.rjn ∧ (formLamps s).ads = s.ads ∧
    (formLamps s).inp = s.inp := by
  unfold formLamps
  repeat' split
  all_goals simp

@[simp] theorem formAttn_frame (s : State) :
    (formAttn s).powered = s.powered ∧ (formAttn s).pending = s.pending ∧ (formAttn s).stl = s.stl ∧
    (formAttn s).setup = s.setup ∧ (formAttn s).rck = s.rck ∧ (formAttn s).svc = s.svc ∧
    (formAttn s).txu = s.txu ∧ (formAttn s).fru = s.fru ∧ (formAttn s).scu = s.scu ∧
    (formAttn s).ltu = s.ltu ∧ (formAttn s).pcu = s.pcu ∧ (formAttn s).lfc = s.lfc ∧
    (formAttn s).sgu = s.sgu ∧ (formAttn s).rjn = s.rjn ∧ (formAttn s).ads = s.ads ∧
    (formAttn s).inp = s.inp := by
  unfold formAttn
  repeat' split
  all_goals simp

@[simp] theorem raiseService_frame (s : State) :
    (raiseService s).powered = s.powered ∧ (raiseService s).pending = s.pending ∧
    (raiseService s).setup = s.setup ∧ (raiseService s).rck = s.rck ∧ (raiseService s).txu = s.txu ∧
    (raiseService s).fru = s.fru ∧ (raiseService s).scu = s.scu ∧ (raiseService s).ltu = s.ltu ∧
    (raiseService s).pcu = s.pcu ∧ (raiseService s).lfc = s.lfc ∧ (raiseService s).sgu = s.sgu ∧
    (raiseService s).rjn = s.rjn ∧ (raiseService s).ads = s.ads ∧ (raiseService s).inp = s.inp := by
  unfold raiseService
  repeat' split
  all_goals simp

@[simp] theorem finish_frame (s : State) :
    (finish s).powered = s.powered ∧ (finish s).pending = s.pending ∧ (finish s).setup = s.setup ∧
    (finish s).rck = s.rck ∧ (finish s).txu = s.txu ∧ (finish s).fru = s.fru ∧ (finish s).scu = s.scu ∧
    (finish s).ltu = s.ltu ∧ (finish s).pcu = s.pcu ∧ (finish s).lfc = s.lfc ∧ (finish s).rjn = s.rjn ∧
    (finish s).ads = s.ads ∧ (finish s).inp = s.inp := by
  unfold finish
  repeat' split
  all_goals simp

/-- While the tone is off, TONE is low (R145). -/
theorem toneOut_off (s : State) (h : s.sgu.toneOn = false) : s.toneOut = .low := by
  simp [State.toneOut, h]

/-- While the tone of a pattern is on, TONE carries its frequency (R145). -/
theorem toneOut_on (s : State) (t : Tone) (h : s.sgu.toneOn = true) (ht : s.sgu.tone = some t) :
    s.toneOut = .square t.frequency := by
  simp [State.toneOut, h, ht]

/-- A pattern that starts sounds at its frequency (R145, R146). -/
@[simp] theorem toneOut_startTone (t : Tone) (n : Nat) (s : State) :
    (startTone t n s).toneOut = .square t.frequency := by
  simp [State.toneOut, startTone, chanStart, setChan]

end Sys2Proof.Machine
end

