-- ==== Sys2Proof/Laws/Journal.lean ====
section
/-! SUPPORT. What each operation of the journal, the timer channels and the service reasons can do, said once: the
provers cite these in place of unfolding the operation. -/

namespace Sys2Proof.Machine

/-! ## Space conditions (R161) -/

theorem judgeLow_rjn (s : State) : (judgeLow s).rjn = { s.rjn with low := decide (s.free < 256) } := by
  unfold judgeLow
  split
  · rename_i h
    split
    · rename_i h2
      rw [decide_eq_true h]
      cases hs : s.rjn
      simp_all
    · simp [h]
  · rename_i h
    simp [h]

theorem judgeStop_rjn (s : State) : (judgeStop s).rjn = { s.rjn with stop := decide (s.free < 64) } := by
  unfold judgeStop
  split
  · rename_i h
    split
    · rename_i h2
      rw [decide_eq_true h]
      cases hs : s.rjn
      simp_all
    · simp [h]
  · rename_i h
    simp [h]

theorem judgeLow_free (s : State) : (judgeLow s).free = s.free := by
  simp [State.free, judgeLow_rjn]

/-- Judging the space sets both conditions from the free count and touches no entry, reservation or counter. -/
theorem judgeSpace_rjn (s : State) :
    (judgeSpace s).rjn = { s.rjn with low := decide (s.free < 256), stop := decide (s.free < 64) } := by
  unfold judgeSpace
  rw [judgeStop_rjn, judgeLow_free, judgeLow_rjn]

theorem judgeSpace_free (s : State) : (judgeSpace s).free = s.free := by
  simp [State.free, judgeSpace_rjn]

/-! ## Entries (R155, R158, R162, R163) -/

/-- An entry from the free pool with no place free: one overrun more, nothing else of the journal. -/
theorem writeFree_full (e : Entry) (s : State) (h : s.free = 0) :
    (writeFree e s).rjn = { s.rjn with overrun := min 65535 (s.rjn.overrun + 1) } := by
  simp [writeFree, h, countOverrun]

/-- An entry from the free pool with a place: last in the journal, under the next sequence, the conditions judged. -/
theorem writeFree_room (e : Entry) (s : State) (h : s.free ≠ 0) :
    (writeFree e s).rjn = { s.rjn with
      journal := s.rjn.journal ++ [{ e with seq := s.rjn.nextSeq }], nextSeq := s.rjn.nextSeq + 1
      low := decide (s.free - 1 < 256), stop := decide (s.free - 1 < 64) } := by
  have hf : (appendEntry e s).free = s.free - 1 := by
    simp [State.free, appendEntry]
    omega
  simp only [writeFree, h, if_false, judgeSpace_rjn, hf]
  simp [appendEntry]

/-- An entry from a reservation: last in the journal, under the next sequence, one reservation less. -/
theorem writeReserved_held (e : Entry) (s : State) (h : s.rjn.reserved ≠ 0) :
    (writeReserved e s).rjn = { s.rjn with
      journal := s.rjn.journal ++ [{ e with seq := s.rjn.nextSeq }], nextSeq := s.rjn.nextSeq + 1
      reserved := s.rjn.reserved - 1 } := by
  simp [writeReserved, h, appendEntry]

/-- A reservation released while no overrun is due: one less reserved, the conditions judged, no entry. -/
theorem release1_plain (s : State) (h : s.rjn.reserved ≠ 0) (ho : s.free ≠ 0 ∨ s.rjn.overrun = 0) :
    (release1 s).rjn.journal = s.rjn.journal ∧ (release1 s).rjn.reserved = s.rjn.reserved - 1
      ∧ (release1 s).rjn.nextSeq = s.rjn.nextSeq ∧ (release1 s).rjn.overrun = s.rjn.overrun := by
  unfold release1 overrunEntry
  rcases ho with ho | ho <;> simp [h, ho, judgeSpace_rjn]

/-- Places reserved: no entry, and as many more reserved as were asked for and free. -/
theorem reserve_rjn (k : Nat) (s : State) :
    (reserve k s).rjn.journal = s.rjn.journal ∧ (reserve k s).rjn.reserved = s.rjn.reserved + min k s.free
      ∧ (reserve k s).rjn.nextSeq = s.rjn.nextSeq ∧ (reserve k s).rjn.overrun = s.rjn.overrun := by
  simp [reserve, judgeSpace_rjn]

/-! ## Service reasons (R28, R29) -/

/-- The reasons after a change are the ones asked for. -/
theorem setReasons_reasons (r : Reasons) (s : State) : (setReasons r s).svc.reasons = r := by
  unfold setReasons
  split
  · assumption
  · simp

/-- The event is marked as a change of the set exactly when it was, or the set differs. -/
theorem setReasons_touched (r : Reasons) (s : State) :
    (setReasons r s).svc.serviceTouched = (s.svc.serviceTouched || decide (s.svc.reasons ≠ r)) := by
  unfold setReasons
  split <;> simp_all

/-! ## Channels (R103 to R106) -/

/-- A channel replaced is that channel; every other stands. -/
theorem chan_setChan (i j : ChanId) (c : Channel) (s : State) :
    (setChan i c s).chan j = if i = j then c else s.chan j := by
  cases i <;> cases j <;> rfl

theorem chan_chanStart (i j : ChanId) (r c : Nat) (s : State) :
    (chanStart i r c s).chan j = if i = j then Channel.start r c else s.chan j := chan_setChan ..

theorem chan_chanStop (i j : ChanId) (s : State) :
    (chanStop i s).chan j = if i = j then (s.chan i).stop else s.chan j := chan_setChan ..

theorem chan_chanHold (i j : ChanId) (s : State) :
    (chanHold i s).chan j = if i = j then (s.chan i).hold else s.chan j := chan_setChan ..

theorem chan_chanResume (i j : ChanId) (s : State) :
    (chanResume i s).chan j = if i = j then (s.chan i).resume else s.chan j := chan_setChan ..

/-! ## Slots and queues (R31, R108) -/

theorem slot_setSlot (x y : Side) (v : Option Slot) (s : State) :
    (setSlot x v s).slot y = if x = y then v else s.slot y := by
  cases x <;> cases y <;> rfl

theorem queue_setQueue (d e : Side) (q : List Credit) (s : State) :
    (setQueue d q s).queue e = if d = e then q else s.queue e := by
  cases d <;> cases e <;> rfl

/-! ## Tones (R147) -/

/-- A request that starts sets the pattern and its pulses; one that is dropped changes nothing. -/
theorem requestTone_cases (t : Tone) (n : Nat) (s : State) :
    requestTone t n s = if toneStarts s t then startTone t n s else s := rfl

end Sys2Proof.Machine
end

