-- ==== Sys2Proof/Laws/Screening.lean ====
section
/-! SUPPORT. Frames of the screening unit: the blocks each operation leaves as they were. -/

namespace Sys2Proof.Machine

@[simp] theorem setDeny_frame (w : DenyWork) (s : State) :
    (setDeny w s).powered = s.powered ∧ (setDeny w s).pending = s.pending ∧ (setDeny w s).lpt = s.lpt ∧
    (setDeny w s).stl = s.stl ∧ (setDeny w s).setup = s.setup ∧ (setDeny w s).rck = s.rck ∧
    (setDeny w s).svc = s.svc ∧ (setDeny w s).txu = s.txu ∧ (setDeny w s).fru = s.fru ∧
    (setDeny w s).ltu = s.ltu ∧ (setDeny w s).pcu = s.pcu ∧ (setDeny w s).lfc = s.lfc ∧
    (setDeny w s).sgu = s.sgu ∧ (setDeny w s).rjn = s.rjn ∧ (setDeny w s).ads = s.ads ∧
    (setDeny w s).inp = s.inp := by
  unfold setDeny
  (repeat' apply And.intro) <;> (try dsimp only) <;> (repeat' split) <;> simp

@[simp] theorem denyWiped_frame (s : State) :
    (denyWiped s).powered = s.powered ∧ (denyWiped s).pending = s.pending ∧ (denyWiped s).lpt = s.lpt ∧
    (denyWiped s).stl = s.stl ∧ (denyWiped s).setup = s.setup ∧ (denyWiped s).rck = s.rck ∧
    (denyWiped s).svc = s.svc ∧ (denyWiped s).txu = s.txu ∧ (denyWiped s).fru = s.fru ∧
    (denyWiped s).ltu = s.ltu ∧ (denyWiped s).pcu = s.pcu ∧ (denyWiped s).lfc = s.lfc ∧
    (denyWiped s).sgu = s.sgu ∧ (denyWiped s).rjn = s.rjn ∧ (denyWiped s).ads = s.ads ∧
    (denyWiped s).inp = s.inp := by
  unfold denyWiped
  (repeat' apply And.intro) <;> (try dsimp only) <;> (repeat' split) <;> simp

@[simp] theorem putSighting_frame (e : Sighting) (s : State) :
    (putSighting e s).powered = s.powered ∧ (putSighting e s).pending = s.pending ∧
    (putSighting e s).lpt = s.lpt ∧ (putSighting e s).stl = s.stl ∧ (putSighting e s).setup = s.setup ∧
    (putSighting e s).rck = s.rck ∧ (putSighting e s).svc = s.svc ∧ (putSighting e s).txu = s.txu ∧
    (putSighting e s).fru = s.fru ∧ (putSighting e s).ltu = s.ltu ∧ (putSighting e s).pcu = s.pcu ∧
    (putSighting e s).lfc = s.lfc ∧ (putSighting e s).sgu = s.sgu ∧ (putSighting e s).rjn = s.rjn ∧
    (putSighting e s).ads = s.ads ∧ (putSighting e s).inp = s.inp := by
  unfold putSighting
  (repeat' apply And.intro) <;> (try dsimp only) <;> (repeat' split) <;> simp

@[simp] theorem touchSighting_frame (e : Sighting) (s : State) :
    (touchSighting e s).powered = s.powered ∧ (touchSighting e s).pending = s.pending ∧
    (touchSighting e s).lpt = s.lpt ∧ (touchSighting e s).stl = s.stl ∧
    (touchSighting e s).setup = s.setup ∧ (touchSighting e s).rck = s.rck ∧
    (touchSighting e s).svc = s.svc ∧ (touchSighting e s).txu = s.txu ∧
    (touchSighting e s).fru = s.fru ∧ (touchSighting e s).ltu = s.ltu ∧
    (touchSighting e s).pcu = s.pcu ∧ (touchSighting e s).lfc = s.lfc ∧
    (touchSighting e s).sgu = s.sgu ∧ (touchSighting e s).rjn = s.rjn ∧
    (touchSighting e s).ads = s.ads ∧ (touchSighting e s).inp = s.inp := by
  unfold touchSighting
  (repeat' apply And.intro) <;> (try dsimp only) <;> (repeat' split) <;> simp

@[simp] theorem insertSighting_frame (e : Sighting) (s : State) :
    (insertSighting e s).powered = s.powered ∧ (insertSighting e s).pending = s.pending ∧
    (insertSighting e s).lpt = s.lpt ∧ (insertSighting e s).stl = s.stl ∧
    (insertSighting e s).setup = s.setup ∧ (insertSighting e s).rck = s.rck ∧
    (insertSighting e s).svc = s.svc ∧ (insertSighting e s).txu = s.txu ∧
    (insertSighting e s).fru = s.fru ∧ (insertSighting e s).ltu = s.ltu ∧
    (insertSighting e s).pcu = s.pcu ∧ (insertSighting e s).lfc = s.lfc ∧
    (insertSighting e s).sgu = s.sgu ∧ (insertSighting e s).rjn = s.rjn ∧
    (insertSighting e s).ads = s.ads ∧ (insertSighting e s).inp = s.inp := by
  unfold insertSighting
  (repeat' apply And.intro) <;> (try dsimp only) <;> (repeat' split) <;> simp

@[simp] theorem sightIssue_frame (c : Nat) (ev : SightEvent) (fl : InFlight) (s : State) :
    (sightIssue c ev fl s).powered = s.powered ∧ (sightIssue c ev fl s).pending = s.pending ∧
    (sightIssue c ev fl s).lpt = s.lpt ∧ (sightIssue c ev fl s).stl = s.stl ∧
    (sightIssue c ev fl s).setup = s.setup ∧ (sightIssue c ev fl s).rck = s.rck ∧
    (sightIssue c ev fl s).svc = s.svc ∧ (sightIssue c ev fl s).txu = s.txu ∧
    (sightIssue c ev fl s).fru = s.fru ∧ (sightIssue c ev fl s).ltu = s.ltu ∧
    (sightIssue c ev fl s).pcu = s.pcu ∧ (sightIssue c ev fl s).lfc = s.lfc ∧
    (sightIssue c ev fl s).sgu = s.sgu ∧ (sightIssue c ev fl s).rjn = s.rjn ∧
    (sightIssue c ev fl s).ads = s.ads ∧ (sightIssue c ev fl s).inp = s.inp := by
  unfold sightIssue
  (repeat' apply And.intro) <;> (try dsimp only) <;> (repeat' split) <;> simp

@[simp] theorem sightRefusal_frame (c : Nat) (q t : Word16) (s : State) :
    (sightRefusal c q t s).powered = s.powered ∧ (sightRefusal c q t s).pending = s.pending ∧
    (sightRefusal c q t s).lpt = s.lpt ∧ (sightRefusal c q t s).stl = s.stl ∧
    (sightRefusal c q t s).setup = s.setup ∧ (sightRefusal c q t s).rck = s.rck ∧
    (sightRefusal c q t s).svc = s.svc ∧ (sightRefusal c q t s).txu = s.txu ∧
    (sightRefusal c q t s).fru = s.fru ∧ (sightRefusal c q t s).ltu = s.ltu ∧
    (sightRefusal c q t s).pcu = s.pcu ∧ (sightRefusal c q t s).lfc = s.lfc ∧
    (sightRefusal c q t s).sgu = s.sgu ∧ (sightRefusal c q t s).rjn = s.rjn ∧
    (sightRefusal c q t s).ads = s.ads ∧ (sightRefusal c q t s).inp = s.inp := by
  unfold sightRefusal
  (repeat' apply And.intro) <;> (try dsimp only) <;> (repeat' split) <;> simp

@[simp] theorem sightTouch_frame (c : Nat) (s : State) :
    (sightTouch c s).powered = s.powered ∧ (sightTouch c s).pending = s.pending ∧
    (sightTouch c s).lpt = s.lpt ∧ (sightTouch c s).stl = s.stl ∧ (sightTouch c s).setup = s.setup ∧
    (sightTouch c s).rck = s.rck ∧ (sightTouch c s).svc = s.svc ∧ (sightTouch c s).txu = s.txu ∧
    (sightTouch c s).fru = s.fru ∧ (sightTouch c s).ltu = s.ltu ∧ (sightTouch c s).pcu = s.pcu ∧
    (sightTouch c s).lfc = s.lfc ∧ (sightTouch c s).sgu = s.sgu ∧ (sightTouch c s).rjn = s.rjn ∧
    (sightTouch c s).ads = s.ads ∧ (sightTouch c s).inp = s.inp := by
  unfold sightTouch
  (repeat' apply And.intro) <;> (try dsimp only) <;> (repeat' split) <;> simp

@[simp] theorem sightNotWritten_frame (c : Nat) (s : State) :
    (sightNotWritten c s).powered = s.powered ∧ (sightNotWritten c s).pending = s.pending ∧
    (sightNotWritten c s).lpt = s.lpt ∧ (sightNotWritten c s).stl = s.stl ∧
    (sightNotWritten c s).setup = s.setup ∧ (sightNotWritten c s).rck = s.rck ∧
    (sightNotWritten c s).svc = s.svc ∧ (sightNotWritten c s).txu = s.txu ∧
    (sightNotWritten c s).fru = s.fru ∧ (sightNotWritten c s).ltu = s.ltu ∧
    (sightNotWritten c s).pcu = s.pcu ∧ (sightNotWritten c s).lfc = s.lfc ∧
    (sightNotWritten c s).sgu = s.sgu ∧ (sightNotWritten c s).rjn = s.rjn ∧
    (sightNotWritten c s).ads = s.ads ∧ (sightNotWritten c s).inp = s.inp := by
  unfold sightNotWritten
  (repeat' apply And.intro) <;> (try dsimp only) <;> (repeat' split) <;> simp

@[simp] theorem dropMark_frame (c : Nat) (s : State) :
    (dropMark c s).powered = s.powered ∧ (dropMark c s).pending = s.pending ∧
    (dropMark c s).lpt = s.lpt ∧ (dropMark c s).stl = s.stl ∧ (dropMark c s).setup = s.setup ∧
    (dropMark c s).rck = s.rck ∧ (dropMark c s).svc = s.svc ∧ (dropMark c s).txu = s.txu ∧
    (dropMark c s).fru = s.fru ∧ (dropMark c s).ltu = s.ltu ∧ (dropMark c s).pcu = s.pcu ∧
    (dropMark c s).lfc = s.lfc ∧ (dropMark c s).sgu = s.sgu ∧ (dropMark c s).rjn = s.rjn ∧
    (dropMark c s).ads = s.ads ∧ (dropMark c s).inp = s.inp := by
  unfold dropMark
  (repeat' apply And.intro) <;> (try dsimp only) <;> (repeat' split) <;> simp

@[simp] theorem dropNinthMark_frame (s : State) :
    (dropNinthMark s).powered = s.powered ∧ (dropNinthMark s).pending = s.pending ∧
    (dropNinthMark s).lpt = s.lpt ∧ (dropNinthMark s).stl = s.stl ∧ (dropNinthMark s).setup = s.setup ∧
    (dropNinthMark s).rck = s.rck ∧ (dropNinthMark s).svc = s.svc ∧ (dropNinthMark s).txu = s.txu ∧
    (dropNinthMark s).fru = s.fru ∧ (dropNinthMark s).ltu = s.ltu ∧ (dropNinthMark s).pcu = s.pcu ∧
    (dropNinthMark s).lfc = s.lfc ∧ (dropNinthMark s).sgu = s.sgu ∧ (dropNinthMark s).rjn = s.rjn ∧
    (dropNinthMark s).ads = s.ads ∧ (dropNinthMark s).inp = s.inp := by
  unfold dropNinthMark
  (repeat' apply And.intro) <;> (try dsimp only) <;> (repeat' split) <;> simp

@[simp] theorem placeMark_frame (c : Nat) (m : Mark) (s : State) :
    (placeMark c m s).powered = s.powered ∧ (placeMark c m s).pending = s.pending ∧
    (placeMark c m s).lpt = s.lpt ∧ (placeMark c m s).stl = s.stl ∧ (placeMark c m s).setup = s.setup ∧
    (placeMark c m s).rck = s.rck ∧ (placeMark c m s).svc = s.svc ∧ (placeMark c m s).txu = s.txu ∧
    (placeMark c m s).fru = s.fru ∧ (placeMark c m s).ltu = s.ltu ∧ (placeMark c m s).pcu = s.pcu ∧
    (placeMark c m s).lfc = s.lfc ∧ (placeMark c m s).sgu = s.sgu ∧ (placeMark c m s).rjn = s.rjn ∧
    (placeMark c m s).ads = s.ads ∧ (placeMark c m s).inp = s.inp := by
  unfold placeMark
  (repeat' apply And.intro) <;> (try dsimp only) <;> (repeat' split) <;> simp

@[simp] theorem setMark_frame (c : Nat) (d : Side) (s : State) :
    (setMark c d s).powered = s.powered ∧ (setMark c d s).pending = s.pending ∧
    (setMark c d s).lpt = s.lpt ∧ (setMark c d s).stl = s.stl ∧ (setMark c d s).setup = s.setup ∧
    (setMark c d s).rck = s.rck ∧ (setMark c d s).svc = s.svc ∧ (setMark c d s).txu = s.txu ∧
    (setMark c d s).fru = s.fru ∧ (setMark c d s).ltu = s.ltu ∧ (setMark c d s).pcu = s.pcu ∧
    (setMark c d s).lfc = s.lfc ∧ (setMark c d s).sgu = s.sgu ∧ (setMark c d s).rjn = s.rjn ∧
    (setMark c d s).ads = s.ads ∧ (setMark c d s).inp = s.inp := by
  unfold setMark
  (repeat' apply And.intro) <;> (try dsimp only) <;> (repeat' split) <;> simp

@[simp] theorem dropTear_frame (c : Nat) (s : State) :
    (dropTear c s).powered = s.powered ∧ (dropTear c s).pending = s.pending ∧
    (dropTear c s).lpt = s.lpt ∧ (dropTear c s).stl = s.stl ∧ (dropTear c s).setup = s.setup ∧
    (dropTear c s).rck = s.rck ∧ (dropTear c s).svc = s.svc ∧ (dropTear c s).txu = s.txu ∧
    (dropTear c s).fru = s.fru ∧ (dropTear c s).ltu = s.ltu ∧ (dropTear c s).pcu = s.pcu ∧
    (dropTear c s).lfc = s.lfc ∧ (dropTear c s).sgu = s.sgu ∧ (dropTear c s).rjn = s.rjn ∧
    (dropTear c s).ads = s.ads ∧ (dropTear c s).inp = s.inp := by
  unfold dropTear
  (repeat' apply And.intro) <;> (try dsimp only) <;> (repeat' split) <;> simp

@[simp] theorem unresolveTear_frame (c : Nat) (t : Tear) (s : State) :
    (unresolveTear c t s).powered = s.powered ∧ (unresolveTear c t s).pending = s.pending ∧
    (unresolveTear c t s).lpt = s.lpt ∧ (unresolveTear c t s).setup = s.setup ∧
    (unresolveTear c t s).rck = s.rck ∧ (unresolveTear c t s).txu = s.txu ∧
    (unresolveTear c t s).fru = s.fru ∧ (unresolveTear c t s).ltu = s.ltu ∧
    (unresolveTear c t s).pcu = s.pcu ∧ (unresolveTear c t s).lfc = s.lfc ∧
    (unresolveTear c t s).sgu = s.sgu ∧ (unresolveTear c t s).ads = s.ads ∧
    (unresolveTear c t s).inp = s.inp := by
  unfold unresolveTear
  (repeat' apply And.intro) <;> (try dsimp only) <;> (repeat' split) <;> simp

@[simp] theorem displaceTear_frame (s : State) :
    (displaceTear s).powered = s.powered ∧ (displaceTear s).pending = s.pending ∧
    (displaceTear s).lpt = s.lpt ∧ (displaceTear s).setup = s.setup ∧ (displaceTear s).rck = s.rck ∧
    (displaceTear s).txu = s.txu ∧ (displaceTear s).fru = s.fru ∧ (displaceTear s).ltu = s.ltu ∧
    (displaceTear s).pcu = s.pcu ∧ (displaceTear s).lfc = s.lfc ∧ (displaceTear s).sgu = s.sgu ∧
    (displaceTear s).ads = s.ads ∧ (displaceTear s).inp = s.inp := by
  unfold displaceTear
  (repeat' apply And.intro) <;> (try dsimp only) <;> (repeat' split) <;> simp

@[simp] theorem localAdd_frame (c : Nat) (s : State) :
    (localAdd c s).1.powered = s.powered ∧ (localAdd c s).1.pending = s.pending ∧
    (localAdd c s).1.lpt = s.lpt ∧ (localAdd c s).1.stl = s.stl ∧ (localAdd c s).1.setup = s.setup ∧
    (localAdd c s).1.rck = s.rck ∧ (localAdd c s).1.svc = s.svc ∧ (localAdd c s).1.txu = s.txu ∧
    (localAdd c s).1.fru = s.fru ∧ (localAdd c s).1.ltu = s.ltu ∧ (localAdd c s).1.pcu = s.pcu ∧
    (localAdd c s).1.lfc = s.lfc ∧ (localAdd c s).1.sgu = s.sgu ∧ (localAdd c s).1.rjn = s.rjn ∧
    (localAdd c s).1.ads = s.ads ∧ (localAdd c s).1.inp = s.inp := by
  unfold localAdd
  (repeat' apply And.intro) <;> (try dsimp only) <;> (repeat' split) <;> simp

@[simp] theorem expireMarks_frame (s : State) :
    (expireMarks s).powered = s.powered ∧ (expireMarks s).pending = s.pending ∧
    (expireMarks s).lpt = s.lpt ∧ (expireMarks s).stl = s.stl ∧ (expireMarks s).setup = s.setup ∧
    (expireMarks s).rck = s.rck ∧ (expireMarks s).svc = s.svc ∧ (expireMarks s).txu = s.txu ∧
    (expireMarks s).fru = s.fru ∧ (expireMarks s).ltu = s.ltu ∧ (expireMarks s).pcu = s.pcu ∧
    (expireMarks s).lfc = s.lfc ∧ (expireMarks s).sgu = s.sgu ∧ (expireMarks s).rjn = s.rjn ∧
    (expireMarks s).ads = s.ads ∧ (expireMarks s).inp = s.inp := by
  unfold expireMarks
  generalize List.map Sighting.card (List.filter (markDue s) s.scu.sightings) = l
  induction l generalizing s with
  | nil => simp
  | cons c l ih => simp [ih]

@[simp] theorem expireTearsN_frame (n : Nat) (s : State) :
    (expireTearsN n s).powered = s.powered ∧ (expireTearsN n s).pending = s.pending ∧
    (expireTearsN n s).lpt = s.lpt ∧ (expireTearsN n s).setup = s.setup ∧
    (expireTearsN n s).rck = s.rck ∧ (expireTearsN n s).txu = s.txu ∧ (expireTearsN n s).fru = s.fru ∧
    (expireTearsN n s).ltu = s.ltu ∧ (expireTearsN n s).pcu = s.pcu ∧ (expireTearsN n s).lfc = s.lfc ∧
    (expireTearsN n s).sgu = s.sgu ∧ (expireTearsN n s).ads = s.ads ∧ (expireTearsN n s).inp = s.inp := by
  induction n generalizing s with
  | zero => simp [expireTearsN]
  | succ n ih =>
    unfold expireTearsN
    split <;> simp [ih]

@[simp] theorem expireTears_frame (s : State) :
    (expireTears s).powered = s.powered ∧ (expireTears s).pending = s.pending ∧
    (expireTears s).lpt = s.lpt ∧ (expireTears s).setup = s.setup ∧ (expireTears s).rck = s.rck ∧
    (expireTears s).txu = s.txu ∧ (expireTears s).fru = s.fru ∧ (expireTears s).ltu = s.ltu ∧
    (expireTears s).pcu = s.pcu ∧ (expireTears s).lfc = s.lfc ∧ (expireTears s).sgu = s.sgu ∧
    (expireTears s).ads = s.ads ∧ (expireTears s).inp = s.inp := by
  unfold expireTears
  (repeat' apply And.intro) <;> (try dsimp only) <;> (repeat' split) <;> simp

@[simp] theorem marksTake_frame (s : State) :
    (marksTake s).powered = s.powered ∧ (marksTake s).pending = s.pending ∧ (marksTake s).lpt = s.lpt ∧
    (marksTake s).stl = s.stl ∧ (marksTake s).setup = s.setup ∧ (marksTake s).rck = s.rck ∧
    (marksTake s).svc = s.svc ∧ (marksTake s).txu = s.txu ∧ (marksTake s).fru = s.fru ∧
    (marksTake s).ltu = s.ltu ∧ (marksTake s).pcu = s.pcu ∧ (marksTake s).lfc = s.lfc ∧
    (marksTake s).sgu = s.sgu ∧ (marksTake s).rjn = s.rjn ∧ (marksTake s).ads = s.ads ∧
    (marksTake s).inp = s.inp := by
  unfold marksTake
  (repeat' apply And.intro) <;> (try dsimp only) <;> (repeat' split) <;> simp

@[simp] theorem tearsTake_frame (s : State) :
    (tearsTake s).powered = s.powered ∧ (tearsTake s).pending = s.pending ∧ (tearsTake s).lpt = s.lpt ∧
    (tearsTake s).setup = s.setup ∧ (tearsTake s).rck = s.rck ∧ (tearsTake s).txu = s.txu ∧
    (tearsTake s).fru = s.fru ∧ (tearsTake s).ltu = s.ltu ∧ (tearsTake s).pcu = s.pcu ∧
    (tearsTake s).lfc = s.lfc ∧ (tearsTake s).sgu = s.sgu ∧ (tearsTake s).ads = s.ads ∧
    (tearsTake s).inp = s.inp := by
  unfold tearsTake
  (repeat' apply And.intro) <;> (try dsimp only) <;> (repeat' split) <;> simp

@[simp] theorem resolveTear_frame (c : Nat) (t : Tear) (w : Bool) (s : State) :
    (resolveTear c t w s).powered = s.powered ∧ (resolveTear c t w s).pending = s.pending ∧
    (resolveTear c t w s).lpt = s.lpt ∧ (resolveTear c t w s).setup = s.setup ∧
    (resolveTear c t w s).rck = s.rck ∧ (resolveTear c t w s).txu = s.txu ∧
    (resolveTear c t w s).fru = s.fru ∧ (resolveTear c t w s).ltu = s.ltu ∧
    (resolveTear c t w s).pcu = s.pcu ∧ (resolveTear c t w s).lfc = s.lfc ∧
    (resolveTear c t w s).sgu = s.sgu ∧ (resolveTear c t w s).ads = s.ads ∧
    (resolveTear c t w s).inp = s.inp := by
  unfold resolveTear
  (repeat' apply And.intro) <;> (try dsimp only) <;> (repeat' split) <;> simp

@[simp] theorem sightLost_frame (c : Nat) (q e : Word16) (s : State) :
    (sightLost c q e s).powered = s.powered ∧ (sightLost c q e s).pending = s.pending ∧
    (sightLost c q e s).lpt = s.lpt ∧ (sightLost c q e s).stl = s.stl ∧
    (sightLost c q e s).setup = s.setup ∧ (sightLost c q e s).rck = s.rck ∧
    (sightLost c q e s).svc = s.svc ∧ (sightLost c q e s).txu = s.txu ∧
    (sightLost c q e s).fru = s.fru ∧ (sightLost c q e s).ltu = s.ltu ∧
    (sightLost c q e s).pcu = s.pcu ∧ (sightLost c q e s).lfc = s.lfc ∧
    (sightLost c q e s).sgu = s.sgu ∧ (sightLost c q e s).rjn = s.rjn ∧
    (sightLost c q e s).ads = s.ads ∧ (sightLost c q e s).inp = s.inp := by
  unfold sightLost
  (repeat' apply And.intro) <;> (try dsimp only) <;> (repeat' split) <;> simp

@[simp] theorem resolveRow_frame (c : Nat) (t : Tear) (r : TearRow) (q e : Word16) (s : State) :
    (resolveRow c t r q e s).powered = s.powered ∧ (resolveRow c t r q e s).pending = s.pending ∧
    (resolveRow c t r q e s).lpt = s.lpt ∧ (resolveRow c t r q e s).setup = s.setup ∧
    (resolveRow c t r q e s).rck = s.rck ∧ (resolveRow c t r q e s).txu = s.txu ∧
    (resolveRow c t r q e s).fru = s.fru ∧ (resolveRow c t r q e s).ltu = s.ltu ∧
    (resolveRow c t r q e s).pcu = s.pcu ∧ (resolveRow c t r q e s).lfc = s.lfc ∧
    (resolveRow c t r q e s).sgu = s.sgu ∧ (resolveRow c t r q e s).ads = s.ads ∧
    (resolveRow c t r q e s).inp = s.inp := by
  unfold resolveRow
  (repeat' apply And.intro) <;> (try dsimp only) <;> (repeat' split) <;> simp

@[simp] theorem cloneEvidence_frame (c : Nat) (x : Option Side) (q t h : Word16) (s : State) :
    (cloneEvidence c x q t h s).powered = s.powered ∧ (cloneEvidence c x q t h s).pending = s.pending ∧
    (cloneEvidence c x q t h s).lpt = s.lpt ∧ (cloneEvidence c x q t h s).setup = s.setup ∧
    (cloneEvidence c x q t h s).rck = s.rck ∧ (cloneEvidence c x q t h s).txu = s.txu ∧
    (cloneEvidence c x q t h s).fru = s.fru ∧ (cloneEvidence c x q t h s).ltu = s.ltu ∧
    (cloneEvidence c x q t h s).pcu = s.pcu ∧ (cloneEvidence c x q t h s).lfc = s.lfc ∧
    (cloneEvidence c x q t h s).sgu = s.sgu ∧ (cloneEvidence c x q t h s).ads = s.ads ∧
    (cloneEvidence c x q t h s).inp = s.inp := by
  unfold cloneEvidence
  (repeat' apply And.intro) <;> (try dsimp only) <;> (repeat' split) <;> simp

@[simp] theorem sightDone_frame (c : Nat) (x : Side) (a b q t : Word16) (s : State) :
    (sightDone c x a b q t s).powered = s.powered ∧ (sightDone c x a b q t s).pending = s.pending ∧
    (sightDone c x a b q t s).lpt = s.lpt ∧ (sightDone c x a b q t s).setup = s.setup ∧
    (sightDone c x a b q t s).rck = s.rck ∧ (sightDone c x a b q t s).txu = s.txu ∧
    (sightDone c x a b q t s).fru = s.fru ∧ (sightDone c x a b q t s).ltu = s.ltu ∧
    (sightDone c x a b q t s).pcu = s.pcu ∧ (sightDone c x a b q t s).lfc = s.lfc ∧
    (sightDone c x a b q t s).sgu = s.sgu ∧ (sightDone c x a b q t s).ads = s.ads ∧
    (sightDone c x a b q t s).inp = s.inp := by
  unfold sightDone
  (repeat' apply And.intro) <;> (try dsimp only) <;> (repeat' split) <;> simp

@[simp] theorem sightTear_frame (c : Nat) (t : Tear) (s : State) :
    (sightTear c t s).powered = s.powered ∧ (sightTear c t s).pending = s.pending ∧
    (sightTear c t s).lpt = s.lpt ∧ (sightTear c t s).stl = s.stl ∧ (sightTear c t s).setup = s.setup ∧
    (sightTear c t s).rck = s.rck ∧ (sightTear c t s).svc = s.svc ∧ (sightTear c t s).txu = s.txu ∧
    (sightTear c t s).fru = s.fru ∧ (sightTear c t s).ltu = s.ltu ∧ (sightTear c t s).pcu = s.pcu ∧
    (sightTear c t s).lfc = s.lfc ∧ (sightTear c t s).sgu = s.sgu ∧ (sightTear c t s).rjn = s.rjn ∧
    (sightTear c t s).ads = s.ads ∧ (sightTear c t s).inp = s.inp := by
  unfold sightTear
  (repeat' apply And.intro) <;> (try dsimp only) <;> (repeat' split) <;> simp

@[simp] theorem remoteResolve_frame (c : Nat) (t : Tear) (w : Bool) (f : Sighting → Sighting) (s : State) :
    (remoteResolve c t w f s).powered = s.powered ∧ (remoteResolve c t w f s).pending = s.pending ∧
    (remoteResolve c t w f s).lpt = s.lpt ∧ (remoteResolve c t w f s).setup = s.setup ∧
    (remoteResolve c t w f s).rck = s.rck ∧ (remoteResolve c t w f s).txu = s.txu ∧
    (remoteResolve c t w f s).fru = s.fru ∧ (remoteResolve c t w f s).ltu = s.ltu ∧
    (remoteResolve c t w f s).pcu = s.pcu ∧ (remoteResolve c t w f s).lfc = s.lfc ∧
    (remoteResolve c t w f s).sgu = s.sgu ∧ (remoteResolve c t w f s).ads = s.ads ∧
    (remoteResolve c t w f s).inp = s.inp := by
  unfold remoteResolve
  (repeat' apply And.intro) <;> (try dsimp only) <;> (repeat' split) <;> simp

@[simp] theorem mergePlain_frame (e : Sighting) (b : SightBody) (ev : SightEvent) (s : State) :
    (mergePlain e b ev s).1.powered = s.powered ∧ (mergePlain e b ev s).1.pending = s.pending ∧
    (mergePlain e b ev s).1.lpt = s.lpt ∧ (mergePlain e b ev s).1.setup = s.setup ∧
    (mergePlain e b ev s).1.rck = s.rck ∧ (mergePlain e b ev s).1.txu = s.txu ∧
    (mergePlain e b ev s).1.fru = s.fru ∧ (mergePlain e b ev s).1.ltu = s.ltu ∧
    (mergePlain e b ev s).1.pcu = s.pcu ∧ (mergePlain e b ev s).1.lfc = s.lfc ∧
    (mergePlain e b ev s).1.sgu = s.sgu ∧ (mergePlain e b ev s).1.ads = s.ads ∧
    (mergePlain e b ev s).1.inp = s.inp := by
  unfold mergePlain
  (repeat' apply And.intro) <;> (try dsimp only) <;> (repeat' split) <;> simp

@[simp] theorem mergeTear_frame (e : Sighting) (t : Tear) (b : SightBody) (ev : SightEvent) (s : State) :
    (mergeTear e t b ev s).1.powered = s.powered ∧ (mergeTear e t b ev s).1.pending = s.pending ∧
    (mergeTear e t b ev s).1.lpt = s.lpt ∧ (mergeTear e t b ev s).1.setup = s.setup ∧
    (mergeTear e t b ev s).1.rck = s.rck ∧ (mergeTear e t b ev s).1.txu = s.txu ∧
    (mergeTear e t b ev s).1.fru = s.fru ∧ (mergeTear e t b ev s).1.ltu = s.ltu ∧
    (mergeTear e t b ev s).1.pcu = s.pcu ∧ (mergeTear e t b ev s).1.lfc = s.lfc ∧
    (mergeTear e t b ev s).1.sgu = s.sgu ∧ (mergeTear e t b ev s).1.ads = s.ads ∧
    (mergeTear e t b ev s).1.inp = s.inp := by
  unfold mergeTear
  (repeat' apply And.intro) <;> (try dsimp only) <;> (repeat' split) <;> simp

@[simp] theorem mergeSighting_frame (b : SightBody) (ev : SightEvent) (s : State) :
    (mergeSighting b ev s).1.powered = s.powered ∧ (mergeSighting b ev s).1.pending = s.pending ∧
    (mergeSighting b ev s).1.lpt = s.lpt ∧ (mergeSighting b ev s).1.setup = s.setup ∧
    (mergeSighting b ev s).1.rck = s.rck ∧ (mergeSighting b ev s).1.txu = s.txu ∧
    (mergeSighting b ev s).1.fru = s.fru ∧ (mergeSighting b ev s).1.ltu = s.ltu ∧
    (mergeSighting b ev s).1.pcu = s.pcu ∧ (mergeSighting b ev s).1.lfc = s.lfc ∧
    (mergeSighting b ev s).1.sgu = s.sgu ∧ (mergeSighting b ev s).1.ads = s.ads ∧
    (mergeSighting b ev s).1.inp = s.inp := by
  unfold mergeSighting
  (repeat' apply And.intro) <;> (try dsimp only) <;> (repeat' split) <;> simp

end Sys2Proof.Machine
end

