-- ==== Sys2Proof/Laws/Passage.lean ====
section
/-! SUPPORT. Frames of passage control and the leaf controller: the blocks each operation leaves as they were. -/

namespace Sys2Proof.Machine

@[simp] theorem startWindow_frame (d : Side) (s : State) :
    (startWindow d s).powered = s.powered ∧ (startWindow d s).pending = s.pending ∧
    (startWindow d s).lpt = s.lpt ∧ (startWindow d s).stl = s.stl ∧ (startWindow d s).setup = s.setup ∧
    (startWindow d s).rck = s.rck ∧ (startWindow d s).svc = s.svc ∧ (startWindow d s).txu = s.txu ∧
    (startWindow d s).fru = s.fru ∧ (startWindow d s).scu = s.scu ∧ (startWindow d s).pcu = s.pcu ∧
    (startWindow d s).lfc = s.lfc ∧ (startWindow d s).rjn = s.rjn ∧ (startWindow d s).ads = s.ads ∧
    (startWindow d s).inp = s.inp := by
  unfold startWindow
  (repeat' apply And.intro) <;> (try dsimp only) <;> (repeat' split) <;> simp

@[simp] theorem stopWindow_frame (d : Side) (s : State) :
    (stopWindow d s).powered = s.powered ∧ (stopWindow d s).pending = s.pending ∧
    (stopWindow d s).lpt = s.lpt ∧ (stopWindow d s).stl = s.stl ∧ (stopWindow d s).setup = s.setup ∧
    (stopWindow d s).rck = s.rck ∧ (stopWindow d s).svc = s.svc ∧ (stopWindow d s).txu = s.txu ∧
    (stopWindow d s).fru = s.fru ∧ (stopWindow d s).scu = s.scu ∧ (stopWindow d s).pcu = s.pcu ∧
    (stopWindow d s).lfc = s.lfc ∧ (stopWindow d s).rjn = s.rjn ∧ (stopWindow d s).ads = s.ads ∧
    (stopWindow d s).inp = s.inp := by
  unfold stopWindow
  (repeat' apply And.intro) <;> (try dsimp only) <;> (repeat' split) <;> simp

@[simp] theorem headWindow_frame (d : Side) (s : State) :
    (headWindow d s).powered = s.powered ∧ (headWindow d s).pending = s.pending ∧
    (headWindow d s).lpt = s.lpt ∧ (headWindow d s).stl = s.stl ∧ (headWindow d s).setup = s.setup ∧
    (headWindow d s).rck = s.rck ∧ (headWindow d s).svc = s.svc ∧ (headWindow d s).txu = s.txu ∧
    (headWindow d s).fru = s.fru ∧ (headWindow d s).scu = s.scu ∧ (headWindow d s).pcu = s.pcu ∧
    (headWindow d s).lfc = s.lfc ∧ (headWindow d s).rjn = s.rjn ∧ (headWindow d s).ads = s.ads ∧
    (headWindow d s).inp = s.inp := by
  unfold headWindow
  (repeat' apply And.intro) <;> (try dsimp only) <;> (repeat' split) <;> simp

@[simp] theorem startMove_frame (s : State) :
    (startMove s).powered = s.powered ∧ (startMove s).pending = s.pending ∧ (startMove s).lpt = s.lpt ∧
    (startMove s).stl = s.stl ∧ (startMove s).setup = s.setup ∧ (startMove s).rck = s.rck ∧
    (startMove s).svc = s.svc ∧ (startMove s).txu = s.txu ∧ (startMove s).fru = s.fru ∧
    (startMove s).scu = s.scu ∧ (startMove s).pcu = s.pcu ∧ (startMove s).lfc = s.lfc ∧
    (startMove s).sgu = s.sgu ∧ (startMove s).rjn = s.rjn ∧ (startMove s).ads = s.ads ∧
    (startMove s).inp = s.inp := by
  unfold startMove
  (repeat' apply And.intro) <;> (try dsimp only) <;> (repeat' split) <;> simp

@[simp] theorem startHold_frame (s : State) :
    (startHold s).powered = s.powered ∧ (startHold s).pending = s.pending ∧ (startHold s).lpt = s.lpt ∧
    (startHold s).stl = s.stl ∧ (startHold s).setup = s.setup ∧ (startHold s).rck = s.rck ∧
    (startHold s).svc = s.svc ∧ (startHold s).txu = s.txu ∧ (startHold s).fru = s.fru ∧
    (startHold s).scu = s.scu ∧ (startHold s).pcu = s.pcu ∧ (startHold s).lfc = s.lfc ∧
    (startHold s).sgu = s.sgu ∧ (startHold s).rjn = s.rjn ∧ (startHold s).ads = s.ads ∧
    (startHold s).inp = s.inp := by
  unfold startHold
  (repeat' apply And.intro) <;> (try dsimp only) <;> (repeat' split) <;> simp

@[simp] theorem openCheck_frame (d : Side) (s : State) :
    (openCheck d s).powered = s.powered ∧ (openCheck d s).pending = s.pending ∧
    (openCheck d s).lpt = s.lpt ∧ (openCheck d s).stl = s.stl ∧ (openCheck d s).setup = s.setup ∧
    (openCheck d s).rck = s.rck ∧ (openCheck d s).svc = s.svc ∧ (openCheck d s).txu = s.txu ∧
    (openCheck d s).fru = s.fru ∧ (openCheck d s).scu = s.scu ∧ (openCheck d s).pcu = s.pcu ∧
    (openCheck d s).lfc = s.lfc ∧ (openCheck d s).sgu = s.sgu ∧ (openCheck d s).rjn = s.rjn ∧
    (openCheck d s).ads = s.ads ∧ (openCheck d s).inp = s.inp := by
  unfold openCheck
  (repeat' apply And.intro) <;> (try dsimp only) <;> (repeat' split) <;> simp

@[simp] theorem enterOpen_frame (d : Side) (s : State) :
    (enterOpen d s).powered = s.powered ∧ (enterOpen d s).pending = s.pending ∧
    (enterOpen d s).lpt = s.lpt ∧ (enterOpen d s).stl = s.stl ∧ (enterOpen d s).setup = s.setup ∧
    (enterOpen d s).rck = s.rck ∧ (enterOpen d s).svc = s.svc ∧ (enterOpen d s).txu = s.txu ∧
    (enterOpen d s).fru = s.fru ∧ (enterOpen d s).scu = s.scu ∧ (enterOpen d s).pcu = s.pcu ∧
    (enterOpen d s).rjn = s.rjn ∧ (enterOpen d s).ads = s.ads ∧ (enterOpen d s).inp = s.inp := by
  unfold enterOpen
  (repeat' apply And.intro) <;> (try dsimp only) <;> (repeat' split) <;> simp

@[simp] theorem beginOpening_frame (d : Side) (r : Bool) (s : State) :
    (beginOpening d r s).powered = s.powered ∧ (beginOpening d r s).pending = s.pending ∧
    (beginOpening d r s).lpt = s.lpt ∧ (beginOpening d r s).stl = s.stl ∧
    (beginOpening d r s).setup = s.setup ∧ (beginOpening d r s).rck = s.rck ∧
    (beginOpening d r s).svc = s.svc ∧ (beginOpening d r s).txu = s.txu ∧
    (beginOpening d r s).fru = s.fru ∧ (beginOpening d r s).scu = s.scu ∧
    (beginOpening d r s).pcu = s.pcu ∧ (beginOpening d r s).rjn = s.rjn ∧
    (beginOpening d r s).ads = s.ads ∧ (beginOpening d r s).inp = s.inp := by
  unfold beginOpening
  (repeat' apply And.intro) <;> (try dsimp only) <;> (repeat' split) <;> simp

@[simp] theorem grantLeaves_frame (d : Side) (s : State) :
    (grantLeaves d s).powered = s.powered ∧ (grantLeaves d s).pending = s.pending ∧
    (grantLeaves d s).lpt = s.lpt ∧ (grantLeaves d s).stl = s.stl ∧ (grantLeaves d s).setup = s.setup ∧
    (grantLeaves d s).rck = s.rck ∧ (grantLeaves d s).svc = s.svc ∧ (grantLeaves d s).txu = s.txu ∧
    (grantLeaves d s).fru = s.fru ∧ (grantLeaves d s).scu = s.scu ∧ (grantLeaves d s).pcu = s.pcu ∧
    (grantLeaves d s).rjn = s.rjn ∧ (grantLeaves d s).inp = s.inp := by
  unfold grantLeaves
  (repeat' apply And.intro) <;> (try dsimp only) <;> (repeat' split) <;> simp

@[simp] theorem enterClosed_frame (s : State) :
    (enterClosed s).powered = s.powered ∧ (enterClosed s).pending = s.pending ∧
    (enterClosed s).lpt = s.lpt ∧ (enterClosed s).stl = s.stl ∧ (enterClosed s).setup = s.setup ∧
    (enterClosed s).rck = s.rck ∧ (enterClosed s).svc = s.svc ∧ (enterClosed s).txu = s.txu ∧
    (enterClosed s).fru = s.fru ∧ (enterClosed s).scu = s.scu ∧ (enterClosed s).pcu = s.pcu ∧
    (enterClosed s).rjn = s.rjn ∧ (enterClosed s).inp = s.inp := by
  unfold enterClosed
  (repeat' apply And.intro) <;> (try dsimp only) <;> (repeat' split) <;> simp

@[simp] theorem driveClosed_frame (s : State) :
    (driveClosed s).powered = s.powered ∧ (driveClosed s).pending = s.pending ∧
    (driveClosed s).lpt = s.lpt ∧ (driveClosed s).stl = s.stl ∧ (driveClosed s).setup = s.setup ∧
    (driveClosed s).rck = s.rck ∧ (driveClosed s).svc = s.svc ∧ (driveClosed s).txu = s.txu ∧
    (driveClosed s).fru = s.fru ∧ (driveClosed s).scu = s.scu ∧ (driveClosed s).pcu = s.pcu ∧
    (driveClosed s).rjn = s.rjn ∧ (driveClosed s).inp = s.inp := by
  unfold driveClosed
  (repeat' apply And.intro) <;> (try dsimp only) <;> (repeat' split) <;> simp

@[simp] theorem leaveOpen_frame (s : State) :
    (leaveOpen s).powered = s.powered ∧ (leaveOpen s).pending = s.pending ∧ (leaveOpen s).lpt = s.lpt ∧
    (leaveOpen s).stl = s.stl ∧ (leaveOpen s).setup = s.setup ∧ (leaveOpen s).rck = s.rck ∧
    (leaveOpen s).svc = s.svc ∧ (leaveOpen s).txu = s.txu ∧ (leaveOpen s).fru = s.fru ∧
    (leaveOpen s).scu = s.scu ∧ (leaveOpen s).pcu = s.pcu ∧ (leaveOpen s).lfc = s.lfc ∧
    (leaveOpen s).rjn = s.rjn ∧ (leaveOpen s).ads = s.ads ∧ (leaveOpen s).inp = s.inp := by
  unfold leaveOpen
  (repeat' apply And.intro) <;> (try dsimp only) <;> (repeat' split) <;> simp

@[simp] theorem beginClosing_frame (g : Option Side) (n : Nat) (s : State) :
    (beginClosing g n s).powered = s.powered ∧ (beginClosing g n s).pending = s.pending ∧
    (beginClosing g n s).lpt = s.lpt ∧ (beginClosing g n s).stl = s.stl ∧
    (beginClosing g n s).setup = s.setup ∧ (beginClosing g n s).rck = s.rck ∧
    (beginClosing g n s).svc = s.svc ∧ (beginClosing g n s).txu = s.txu ∧
    (beginClosing g n s).fru = s.fru ∧ (beginClosing g n s).scu = s.scu ∧
    (beginClosing g n s).pcu = s.pcu ∧ (beginClosing g n s).rjn = s.rjn ∧
    (beginClosing g n s).inp = s.inp := by
  unfold beginClosing
  (repeat' apply And.intro) <;> (try dsimp only) <;> (repeat' split) <;> simp

@[simp] theorem lfcQueue_frame (s : State) :
    (lfcQueue s).powered = s.powered ∧ (lfcQueue s).pending = s.pending ∧ (lfcQueue s).lpt = s.lpt ∧
    (lfcQueue s).stl = s.stl ∧ (lfcQueue s).setup = s.setup ∧ (lfcQueue s).rck = s.rck ∧
    (lfcQueue s).svc = s.svc ∧ (lfcQueue s).txu = s.txu ∧ (lfcQueue s).fru = s.fru ∧
    (lfcQueue s).scu = s.scu ∧ (lfcQueue s).pcu = s.pcu ∧ (lfcQueue s).rjn = s.rjn ∧
    (lfcQueue s).inp = s.inp := by
  unfold lfcQueue
  (repeat' apply And.intro) <;> (try dsimp only) <;> (repeat' split) <;> simp

@[simp] theorem freeOpen_frame (s : State) :
    (freeOpen s).powered = s.powered ∧ (freeOpen s).pending = s.pending ∧ (freeOpen s).lpt = s.lpt ∧
    (freeOpen s).stl = s.stl ∧ (freeOpen s).setup = s.setup ∧ (freeOpen s).rck = s.rck ∧
    (freeOpen s).svc = s.svc ∧ (freeOpen s).txu = s.txu ∧ (freeOpen s).fru = s.fru ∧
    (freeOpen s).scu = s.scu ∧ (freeOpen s).pcu = s.pcu ∧ (freeOpen s).rjn = s.rjn ∧
    (freeOpen s).ads = s.ads ∧ (freeOpen s).inp = s.inp := by
  unfold freeOpen
  (repeat' apply And.intro) <;> (try dsimp only) <;> (repeat' split) <;> simp

@[simp] theorem commandLeaves_frame (n : Nat) (s : State) :
    (commandLeaves n s).powered = s.powered ∧ (commandLeaves n s).pending = s.pending ∧
    (commandLeaves n s).lpt = s.lpt ∧ (commandLeaves n s).stl = s.stl ∧
    (commandLeaves n s).setup = s.setup ∧ (commandLeaves n s).rck = s.rck ∧
    (commandLeaves n s).svc = s.svc ∧ (commandLeaves n s).txu = s.txu ∧
    (commandLeaves n s).fru = s.fru ∧ (commandLeaves n s).scu = s.scu ∧
    (commandLeaves n s).pcu = s.pcu ∧ (commandLeaves n s).rjn = s.rjn ∧ (commandLeaves n s).inp = s.inp := by
  unfold commandLeaves
  (repeat' apply And.intro) <;> (try dsimp only) <;> (repeat' split) <;> simp

@[simp] theorem lastSwitchTaken_frame (s : State) :
    (lastSwitchTaken s).powered = s.powered ∧ (lastSwitchTaken s).pending = s.pending ∧
    (lastSwitchTaken s).lpt = s.lpt ∧ (lastSwitchTaken s).stl = s.stl ∧
    (lastSwitchTaken s).setup = s.setup ∧ (lastSwitchTaken s).rck = s.rck ∧
    (lastSwitchTaken s).svc = s.svc ∧ (lastSwitchTaken s).txu = s.txu ∧
    (lastSwitchTaken s).fru = s.fru ∧ (lastSwitchTaken s).scu = s.scu ∧
    (lastSwitchTaken s).pcu = s.pcu ∧ (lastSwitchTaken s).rjn = s.rjn ∧ (lastSwitchTaken s).inp = s.inp := by
  unfold lastSwitchTaken
  (repeat' apply And.intro) <;> (try dsimp only) <;> (repeat' split) <;> simp

@[simp] theorem leaveFault_frame (s : State) :
    (leaveFault s).powered = s.powered ∧ (leaveFault s).pending = s.pending ∧
    (leaveFault s).lpt = s.lpt ∧ (leaveFault s).stl = s.stl ∧ (leaveFault s).setup = s.setup ∧
    (leaveFault s).rck = s.rck ∧ (leaveFault s).txu = s.txu ∧ (leaveFault s).fru = s.fru ∧
    (leaveFault s).scu = s.scu ∧ (leaveFault s).pcu = s.pcu ∧ (leaveFault s).rjn = s.rjn ∧
    (leaveFault s).inp = s.inp := by
  unfold leaveFault
  (repeat' apply And.intro) <;> (try dsimp only) <;> (repeat' split) <;> simp

@[simp] theorem openFree_frame (r : Reason) (s : State) :
    (openFree r s).powered = s.powered ∧ (openFree r s).pending = s.pending ∧
    (openFree r s).lpt = s.lpt ∧ (openFree r s).stl = s.stl ∧ (openFree r s).setup = s.setup ∧
    (openFree r s).rck = s.rck ∧ (openFree r s).svc = s.svc ∧ (openFree r s).txu = s.txu ∧
    (openFree r s).fru = s.fru ∧ (openFree r s).scu = s.scu ∧ (openFree r s).ltu = s.ltu ∧
    (openFree r s).lfc = s.lfc ∧ (openFree r s).sgu = s.sgu ∧ (openFree r s).rjn = s.rjn ∧
    (openFree r s).ads = s.ads ∧ (openFree r s).inp = s.inp := by
  unfold openFree
  (repeat' apply And.intro) <;> (try dsimp only) <;> (repeat' split) <;> simp

@[simp] theorem closeFree_frame (s : State) :
    (closeFree s).powered = s.powered ∧ (closeFree s).pending = s.pending ∧ (closeFree s).lpt = s.lpt ∧
    (closeFree s).setup = s.setup ∧ (closeFree s).rck = s.rck ∧ (closeFree s).txu = s.txu ∧
    (closeFree s).fru = s.fru ∧ (closeFree s).scu = s.scu ∧ (closeFree s).ltu = s.ltu ∧
    (closeFree s).lfc = s.lfc ∧ (closeFree s).sgu = s.sgu ∧ (closeFree s).ads = s.ads ∧
    (closeFree s).inp = s.inp := by
  unfold closeFree
  (repeat' apply And.intro) <;> (try dsimp only) <;> (repeat' split) <;> simp

@[simp] theorem settleFree_frame (s : State) :
    (settleFree s).powered = s.powered ∧ (settleFree s).pending = s.pending ∧
    (settleFree s).lpt = s.lpt ∧ (settleFree s).setup = s.setup ∧ (settleFree s).rck = s.rck ∧
    (settleFree s).txu = s.txu ∧ (settleFree s).fru = s.fru ∧ (settleFree s).scu = s.scu ∧
    (settleFree s).ltu = s.ltu ∧ (settleFree s).lfc = s.lfc ∧ (settleFree s).sgu = s.sgu ∧
    (settleFree s).ads = s.ads ∧ (settleFree s).inp = s.inp := by
  unfold settleFree
  (repeat' apply And.intro) <;> (try dsimp only) <;> (repeat' split) <;> simp

@[simp] theorem countFree_frame (d : Side) (s : State) :
    (countFree d s).powered = s.powered ∧ (countFree d s).pending = s.pending ∧
    (countFree d s).lpt = s.lpt ∧ (countFree d s).stl = s.stl ∧ (countFree d s).setup = s.setup ∧
    (countFree d s).rck = s.rck ∧ (countFree d s).svc = s.svc ∧ (countFree d s).txu = s.txu ∧
    (countFree d s).fru = s.fru ∧ (countFree d s).scu = s.scu ∧ (countFree d s).ltu = s.ltu ∧
    (countFree d s).lfc = s.lfc ∧ (countFree d s).sgu = s.sgu ∧ (countFree d s).rjn = s.rjn ∧
    (countFree d s).ads = s.ads ∧ (countFree d s).inp = s.inp := by
  unfold countFree
  (repeat' apply And.intro) <;> (try dsimp only) <;> (repeat' split) <;> simp

@[simp] theorem markCredit_frame (d : Side) (c : Credit) (s : State) :
    (markCredit d c s).powered = s.powered ∧ (markCredit d c s).pending = s.pending ∧
    (markCredit d c s).lpt = s.lpt ∧ (markCredit d c s).stl = s.stl ∧
    (markCredit d c s).setup = s.setup ∧ (markCredit d c s).rck = s.rck ∧
    (markCredit d c s).svc = s.svc ∧ (markCredit d c s).txu = s.txu ∧ (markCredit d c s).fru = s.fru ∧
    (markCredit d c s).ltu = s.ltu ∧ (markCredit d c s).pcu = s.pcu ∧ (markCredit d c s).lfc = s.lfc ∧
    (markCredit d c s).sgu = s.sgu ∧ (markCredit d c s).rjn = s.rjn ∧ (markCredit d c s).ads = s.ads ∧
    (markCredit d c s).inp = s.inp := by
  unfold markCredit
  (repeat' apply And.intro) <;> (try dsimp only) <;> (repeat' split) <;> simp

@[simp] theorem cancelCredit_frame (d : Side) (r : Reason) (c : Credit) (s : State) :
    (cancelCredit d r c s).powered = s.powered ∧ (cancelCredit d r c s).pending = s.pending ∧
    (cancelCredit d r c s).lpt = s.lpt ∧ (cancelCredit d r c s).setup = s.setup ∧
    (cancelCredit d r c s).rck = s.rck ∧ (cancelCredit d r c s).txu = s.txu ∧
    (cancelCredit d r c s).fru = s.fru ∧ (cancelCredit d r c s).ltu = s.ltu ∧
    (cancelCredit d r c s).pcu = s.pcu ∧ (cancelCredit d r c s).lfc = s.lfc ∧
    (cancelCredit d r c s).sgu = s.sgu ∧ (cancelCredit d r c s).inp = s.inp := by
  unfold cancelCredit
  (repeat' apply And.intro) <;> (try dsimp only) <;> (repeat' split) <;> simp

@[simp] theorem cancelFrom_frame (d : Side) (r : Reason) (l : List Credit) (s : State) :
    (cancelFrom d r l s).powered = s.powered ∧ (cancelFrom d r l s).pending = s.pending ∧
    (cancelFrom d r l s).lpt = s.lpt ∧ (cancelFrom d r l s).setup = s.setup ∧
    (cancelFrom d r l s).rck = s.rck ∧ (cancelFrom d r l s).txu = s.txu ∧
    (cancelFrom d r l s).fru = s.fru ∧ (cancelFrom d r l s).ltu = s.ltu ∧
    (cancelFrom d r l s).lfc = s.lfc ∧ (cancelFrom d r l s).sgu = s.sgu ∧
    (cancelFrom d r l s).inp = s.inp := by
  induction l generalizing s with
  | nil => simp [cancelFrom]
  | cons c l ih => simp [cancelFrom, ih]

@[simp] theorem cancelQueue_frame (d : Side) (r : Reason) (s : State) :
    (cancelQueue d r s).powered = s.powered ∧ (cancelQueue d r s).pending = s.pending ∧
    (cancelQueue d r s).lpt = s.lpt ∧ (cancelQueue d r s).setup = s.setup ∧
    (cancelQueue d r s).rck = s.rck ∧ (cancelQueue d r s).txu = s.txu ∧
    (cancelQueue d r s).fru = s.fru ∧ (cancelQueue d r s).lfc = s.lfc ∧ (cancelQueue d r s).inp = s.inp := by
  unfold cancelQueue
  (repeat' apply And.intro) <;> (try dsimp only) <;> (repeat' split) <;> simp

@[simp] theorem cancelBoth_frame (r : Reason) (s : State) :
    (cancelBoth r s).powered = s.powered ∧ (cancelBoth r s).pending = s.pending ∧
    (cancelBoth r s).lpt = s.lpt ∧ (cancelBoth r s).setup = s.setup ∧ (cancelBoth r s).rck = s.rck ∧
    (cancelBoth r s).txu = s.txu ∧ (cancelBoth r s).fru = s.fru ∧ (cancelBoth r s).lfc = s.lfc ∧
    (cancelBoth r s).inp = s.inp := by
  unfold cancelBoth
  (repeat' apply And.intro) <;> (try dsimp only) <;> (repeat' split) <;> simp

@[simp] theorem createCredit_frame (d : Side) (c : Credit) (s : State) :
    (createCredit d c s).powered = s.powered ∧ (createCredit d c s).pending = s.pending ∧
    (createCredit d c s).lpt = s.lpt ∧ (createCredit d c s).stl = s.stl ∧
    (createCredit d c s).setup = s.setup ∧ (createCredit d c s).rck = s.rck ∧
    (createCredit d c s).svc = s.svc ∧ (createCredit d c s).txu = s.txu ∧
    (createCredit d c s).fru = s.fru ∧ (createCredit d c s).scu = s.scu ∧
    (createCredit d c s).rjn = s.rjn ∧ (createCredit d c s).inp = s.inp := by
  unfold createCredit
  (repeat' apply And.intro) <;> (try dsimp only) <;> (repeat' split) <;> simp

@[simp] theorem expireHead_frame (d : Side) (s : State) :
    (expireHead d s).powered = s.powered ∧ (expireHead d s).pending = s.pending ∧
    (expireHead d s).setup = s.setup ∧ (expireHead d s).rck = s.rck ∧ (expireHead d s).txu = s.txu ∧
    (expireHead d s).fru = s.fru ∧ (expireHead d s).inp = s.inp := by
  unfold expireHead
  (repeat' apply And.intro) <;> (try dsimp only) <;> (repeat' split) <;> simp

@[simp] theorem consumeHead_frame (d : Side) (s : State) :
    (consumeHead d s).powered = s.powered ∧ (consumeHead d s).pending = s.pending ∧
    (consumeHead d s).lpt = s.lpt ∧ (consumeHead d s).setup = s.setup ∧ (consumeHead d s).rck = s.rck ∧
    (consumeHead d s).txu = s.txu ∧ (consumeHead d s).fru = s.fru ∧ (consumeHead d s).inp = s.inp := by
  unfold consumeHead
  (repeat' apply And.intro) <;> (try dsimp only) <;> (repeat' split) <;> simp

@[simp] theorem unpaidPassage_frame (d : Side) (s : State) :
    (unpaidPassage d s).powered = s.powered ∧ (unpaidPassage d s).pending = s.pending ∧
    (unpaidPassage d s).setup = s.setup ∧ (unpaidPassage d s).rck = s.rck ∧
    (unpaidPassage d s).txu = s.txu ∧ (unpaidPassage d s).fru = s.fru ∧
    (unpaidPassage d s).scu = s.scu ∧ (unpaidPassage d s).pcu = s.pcu ∧
    (unpaidPassage d s).lfc = s.lfc ∧ (unpaidPassage d s).ads = s.ads ∧ (unpaidPassage d s).inp = s.inp := by
  unfold unpaidPassage
  (repeat' apply And.intro) <;> (try dsimp only) <;> (repeat' split) <;> simp

@[simp] theorem wrongWay_frame (d : Side) (s : State) :
    (wrongWay d s).powered = s.powered ∧ (wrongWay d s).pending = s.pending ∧
    (wrongWay d s).setup = s.setup ∧ (wrongWay d s).rck = s.rck ∧ (wrongWay d s).txu = s.txu ∧
    (wrongWay d s).fru = s.fru ∧ (wrongWay d s).scu = s.scu ∧ (wrongWay d s).pcu = s.pcu ∧
    (wrongWay d s).lfc = s.lfc ∧ (wrongWay d s).ads = s.ads ∧ (wrongWay d s).inp = s.inp := by
  unfold wrongWay
  (repeat' apply And.intro) <;> (try dsimp only) <;> (repeat' split) <;> simp

@[simp] theorem passage_frame (d : Side) (s : State) :
    (passage d s).powered = s.powered ∧ (passage d s).pending = s.pending ∧
    (passage d s).setup = s.setup ∧ (passage d s).rck = s.rck ∧ (passage d s).txu = s.txu ∧
    (passage d s).fru = s.fru ∧ (passage d s).inp = s.inp := by
  unfold passage
  (repeat' apply And.intro) <;> (try dsimp only) <;> (repeat' split) <;> simp

@[simp] theorem directEpisode_frame (b : Beam) (s : State) :
    (directEpisode b s).powered = s.powered ∧ (directEpisode b s).pending = s.pending ∧
    (directEpisode b s).lpt = s.lpt ∧ (directEpisode b s).stl = s.stl ∧
    (directEpisode b s).setup = s.setup ∧ (directEpisode b s).rck = s.rck ∧
    (directEpisode b s).svc = s.svc ∧ (directEpisode b s).txu = s.txu ∧
    (directEpisode b s).fru = s.fru ∧ (directEpisode b s).scu = s.scu ∧
    (directEpisode b s).ltu = s.ltu ∧ (directEpisode b s).lfc = s.lfc ∧
    (directEpisode b s).sgu = s.sgu ∧ (directEpisode b s).rjn = s.rjn ∧
    (directEpisode b s).ads = s.ads ∧ (directEpisode b s).inp = s.inp := by
  unfold directEpisode
  (repeat' apply And.intro) <;> (try dsimp only) <;> (repeat' split) <;> simp

@[simp] theorem episodeStart_frame (s : State) :
    (episodeStart s).powered = s.powered ∧ (episodeStart s).pending = s.pending ∧
    (episodeStart s).lpt = s.lpt ∧ (episodeStart s).stl = s.stl ∧ (episodeStart s).setup = s.setup ∧
    (episodeStart s).rck = s.rck ∧ (episodeStart s).svc = s.svc ∧ (episodeStart s).txu = s.txu ∧
    (episodeStart s).fru = s.fru ∧ (episodeStart s).scu = s.scu ∧ (episodeStart s).lfc = s.lfc ∧
    (episodeStart s).sgu = s.sgu ∧ (episodeStart s).rjn = s.rjn ∧ (episodeStart s).ads = s.ads ∧
    (episodeStart s).inp = s.inp := by
  unfold episodeStart
  (repeat' apply And.intro) <;> (try dsimp only) <;> (repeat' split) <;> simp

@[simp] theorem lfcEmpty_frame (s : State) :
    (lfcEmpty s).powered = s.powered ∧ (lfcEmpty s).pending = s.pending ∧ (lfcEmpty s).lpt = s.lpt ∧
    (lfcEmpty s).stl = s.stl ∧ (lfcEmpty s).setup = s.setup ∧ (lfcEmpty s).rck = s.rck ∧
    (lfcEmpty s).svc = s.svc ∧ (lfcEmpty s).txu = s.txu ∧ (lfcEmpty s).fru = s.fru ∧
    (lfcEmpty s).scu = s.scu ∧ (lfcEmpty s).pcu = s.pcu ∧ (lfcEmpty s).lfc = s.lfc ∧
    (lfcEmpty s).sgu = s.sgu ∧ (lfcEmpty s).rjn = s.rjn ∧ (lfcEmpty s).ads = s.ads ∧
    (lfcEmpty s).inp = s.inp := by
  unfold lfcEmpty
  (repeat' apply And.intro) <;> (try dsimp only) <;> (repeat' split) <;> simp

@[simp] theorem episodeEnd_frame (s : State) :
    (episodeEnd s).powered = s.powered ∧ (episodeEnd s).pending = s.pending ∧
    (episodeEnd s).lpt = s.lpt ∧ (episodeEnd s).setup = s.setup ∧ (episodeEnd s).rck = s.rck ∧
    (episodeEnd s).svc = s.svc ∧ (episodeEnd s).txu = s.txu ∧ (episodeEnd s).fru = s.fru ∧
    (episodeEnd s).scu = s.scu ∧ (episodeEnd s).lfc = s.lfc ∧ (episodeEnd s).sgu = s.sgu ∧
    (episodeEnd s).rjn = s.rjn ∧ (episodeEnd s).inp = s.inp := by
  unfold episodeEnd
  (repeat' apply And.intro) <;> (try dsimp only) <;> (repeat' split) <;> simp

@[simp] theorem farClear_frame (d : Side) (s : State) :
    (farClear d s).powered = s.powered ∧ (farClear d s).pending = s.pending ∧
    (farClear d s).setup = s.setup ∧ (farClear d s).rck = s.rck ∧ (farClear d s).txu = s.txu ∧
    (farClear d s).fru = s.fru ∧ (farClear d s).inp = s.inp := by
  unfold farClear
  (repeat' apply And.intro) <;> (try dsimp only) <;> (repeat' split) <;> simp

@[simp] theorem beamCleared_frame (b : Beam) (s : State) :
    (beamCleared b s).powered = s.powered ∧ (beamCleared b s).pending = s.pending ∧
    (beamCleared b s).setup = s.setup ∧ (beamCleared b s).rck = s.rck ∧ (beamCleared b s).txu = s.txu ∧
    (beamCleared b s).fru = s.fru ∧ (beamCleared b s).inp = s.inp := by
  unfold beamCleared
  (repeat' apply And.intro) <;> (try dsimp only) <;> (repeat' split) <;> simp

@[simp] theorem beamChanged_frame (b : Beam) (v : Bool) (s : State) :
    (beamChanged b v s).powered = s.powered ∧ (beamChanged b v s).pending = s.pending ∧
    (beamChanged b v s).setup = s.setup ∧ (beamChanged b v s).rck = s.rck ∧
    (beamChanged b v s).txu = s.txu ∧ (beamChanged b v s).fru = s.fru ∧ (beamChanged b v s).inp = s.inp := by
  unfold beamChanged
  (repeat' apply And.intro) <;> (try dsimp only) <;> (repeat' split) <;> simp

@[simp] theorem clearTracker_frame (s : State) :
    (clearTracker s).powered = s.powered ∧ (clearTracker s).pending = s.pending ∧
    (clearTracker s).lpt = s.lpt ∧ (clearTracker s).stl = s.stl ∧ (clearTracker s).setup = s.setup ∧
    (clearTracker s).rck = s.rck ∧ (clearTracker s).svc = s.svc ∧ (clearTracker s).txu = s.txu ∧
    (clearTracker s).fru = s.fru ∧ (clearTracker s).scu = s.scu ∧ (clearTracker s).ltu = s.ltu ∧
    (clearTracker s).lfc = s.lfc ∧ (clearTracker s).sgu = s.sgu ∧ (clearTracker s).rjn = s.rjn ∧
    (clearTracker s).ads = s.ads ∧ (clearTracker s).inp = s.inp := by
  unfold clearTracker
  (repeat' apply And.intro) <;> (try dsimp only) <;> (repeat' split) <;> simp

@[simp] theorem enterFault_frame (r : Reason) (n : Nat) (s : State) :
    (enterFault r n s).powered = s.powered ∧ (enterFault r n s).pending = s.pending ∧
    (enterFault r n s).setup = s.setup ∧ (enterFault r n s).rck = s.rck ∧
    (enterFault r n s).txu = s.txu ∧ (enterFault r n s).fru = s.fru ∧ (enterFault r n s).inp = s.inp := by
  unfold enterFault
  (repeat' apply And.intro) <;> (try dsimp only) <;> (repeat' split) <;> simp

@[simp] theorem forceLeaf_frame (l : Leaf) (s : State) :
    (forceLeaf l s).powered = s.powered ∧ (forceLeaf l s).pending = s.pending ∧
    (forceLeaf l s).setup = s.setup ∧ (forceLeaf l s).rck = s.rck ∧ (forceLeaf l s).txu = s.txu ∧
    (forceLeaf l s).fru = s.fru ∧ (forceLeaf l s).scu = s.scu ∧ (forceLeaf l s).pcu = s.pcu ∧
    (forceLeaf l s).ads = s.ads ∧ (forceLeaf l s).inp = s.inp := by
  unfold forceLeaf
  (repeat' apply And.intro) <;> (try dsimp only) <;> (repeat' split) <;> simp

@[simp] theorem pausedClosed_frame (l : Leaf) (s : State) :
    (pausedClosed l s).powered = s.powered ∧ (pausedClosed l s).pending = s.pending ∧
    (pausedClosed l s).lpt = s.lpt ∧ (pausedClosed l s).stl = s.stl ∧
    (pausedClosed l s).setup = s.setup ∧ (pausedClosed l s).rck = s.rck ∧
    (pausedClosed l s).svc = s.svc ∧ (pausedClosed l s).txu = s.txu ∧ (pausedClosed l s).fru = s.fru ∧
    (pausedClosed l s).scu = s.scu ∧ (pausedClosed l s).pcu = s.pcu ∧ (pausedClosed l s).rjn = s.rjn ∧
    (pausedClosed l s).inp = s.inp := by
  unfold pausedClosed
  (repeat' apply And.intro) <;> (try dsimp only) <;> (repeat' split) <;> simp

@[simp] theorem pauseClose_frame (s : State) :
    (pauseClose s).powered = s.powered ∧ (pauseClose s).pending = s.pending ∧
    (pauseClose s).lpt = s.lpt ∧ (pauseClose s).stl = s.stl ∧ (pauseClose s).setup = s.setup ∧
    (pauseClose s).rck = s.rck ∧ (pauseClose s).svc = s.svc ∧ (pauseClose s).txu = s.txu ∧
    (pauseClose s).fru = s.fru ∧ (pauseClose s).scu = s.scu ∧ (pauseClose s).pcu = s.pcu ∧
    (pauseClose s).sgu = s.sgu ∧ (pauseClose s).rjn = s.rjn ∧ (pauseClose s).ads = s.ads ∧
    (pauseClose s).inp = s.inp := by
  unfold pauseClose
  (repeat' apply And.intro) <;> (try dsimp only) <;> (repeat' split) <;> simp

@[simp] theorem obstruction_frame (l : Leaf) (s : State) :
    (obstruction l s).powered = s.powered ∧ (obstruction l s).pending = s.pending ∧
    (obstruction l s).setup = s.setup ∧ (obstruction l s).rck = s.rck ∧ (obstruction l s).txu = s.txu ∧
    (obstruction l s).fru = s.fru ∧ (obstruction l s).inp = s.inp := by
  unfold obstruction
  (repeat' apply And.intro) <;> (try dsimp only) <;> (repeat' split) <;> simp

@[simp] theorem sampleTaken_frame (v : Nat) (s : State) :
    (sampleTaken v s).powered = s.powered ∧ (sampleTaken v s).pending = s.pending ∧
    (sampleTaken v s).setup = s.setup ∧ (sampleTaken v s).rck = s.rck ∧ (sampleTaken v s).txu = s.txu ∧
    (sampleTaken v s).fru = s.fru ∧ (sampleTaken v s).inp = s.inp := by
  unfold sampleTaken
  (repeat' apply And.intro) <;> (try dsimp only) <;> (repeat' split) <;> simp

@[simp] theorem resumeClose_frame (s : State) :
    (resumeClose s).powered = s.powered ∧ (resumeClose s).pending = s.pending ∧
    (resumeClose s).lpt = s.lpt ∧ (resumeClose s).stl = s.stl ∧ (resumeClose s).setup = s.setup ∧
    (resumeClose s).rck = s.rck ∧ (resumeClose s).svc = s.svc ∧ (resumeClose s).txu = s.txu ∧
    (resumeClose s).fru = s.fru ∧ (resumeClose s).scu = s.scu ∧ (resumeClose s).pcu = s.pcu ∧
    (resumeClose s).rjn = s.rjn ∧ (resumeClose s).inp = s.inp := by
  unfold resumeClose
  (repeat' apply And.intro) <;> (try dsimp only) <;> (repeat' split) <;> simp

@[simp] theorem holdEnds_frame (s : State) :
    (holdEnds s).powered = s.powered ∧ (holdEnds s).pending = s.pending ∧ (holdEnds s).lpt = s.lpt ∧
    (holdEnds s).stl = s.stl ∧ (holdEnds s).setup = s.setup ∧ (holdEnds s).rck = s.rck ∧
    (holdEnds s).svc = s.svc ∧ (holdEnds s).txu = s.txu ∧ (holdEnds s).fru = s.fru ∧
    (holdEnds s).scu = s.scu ∧ (holdEnds s).pcu = s.pcu ∧ (holdEnds s).rjn = s.rjn ∧
    (holdEnds s).inp = s.inp := by
  unfold holdEnds
  (repeat' apply And.intro) <;> (try dsimp only) <;> (repeat' split) <;> simp

@[simp] theorem moveTimeout_frame (s : State) :
    (moveTimeout s).powered = s.powered ∧ (moveTimeout s).pending = s.pending ∧
    (moveTimeout s).setup = s.setup ∧ (moveTimeout s).rck = s.rck ∧ (moveTimeout s).txu = s.txu ∧
    (moveTimeout s).fru = s.fru ∧ (moveTimeout s).inp = s.inp := by
  unfold moveTimeout
  (repeat' apply And.intro) <;> (try dsimp only) <;> (repeat' split) <;> simp

@[simp] theorem switchTaken_frame (l : Leaf) (sw : Switch) (m : Bool) (s : State) :
    (switchTaken l sw m s).powered = s.powered ∧ (switchTaken l sw m s).pending = s.pending ∧
    (switchTaken l sw m s).setup = s.setup ∧ (switchTaken l sw m s).rck = s.rck ∧
    (switchTaken l sw m s).txu = s.txu ∧ (switchTaken l sw m s).fru = s.fru ∧
    (switchTaken l sw m s).inp = s.inp := by
  unfold switchTaken reachTarget
  (repeat' apply And.intro) <;> (try dsimp only) <;> (repeat' split) <;> simp

@[simp] theorem switchChanged_frame (l : Leaf) (sw : Switch) (m : Bool) (s : State) :
    (switchChanged l sw m s).powered = s.powered ∧ (switchChanged l sw m s).pending = s.pending ∧
    (switchChanged l sw m s).setup = s.setup ∧ (switchChanged l sw m s).rck = s.rck ∧
    (switchChanged l sw m s).txu = s.txu ∧ (switchChanged l sw m s).fru = s.fru ∧
    (switchChanged l sw m s).inp = s.inp := by
  unfold switchChanged
  (repeat' apply And.intro) <;> (try dsimp only) <;> (repeat' split) <;> simp

@[simp] theorem cancelForMode_frame (s : State) :
    (cancelForMode s).powered = s.powered ∧ (cancelForMode s).pending = s.pending ∧
    (cancelForMode s).lpt = s.lpt ∧ (cancelForMode s).setup = s.setup ∧ (cancelForMode s).rck = s.rck ∧
    (cancelForMode s).txu = s.txu ∧ (cancelForMode s).fru = s.fru ∧ (cancelForMode s).inp = s.inp := by
  unfold cancelForMode
  (repeat' apply And.intro) <;> (try dsimp only) <;> (repeat' split) <;> simp

@[simp] theorem leavesForMode_frame (m : Mode) (s : State) :
    (leavesForMode m s).powered = s.powered ∧ (leavesForMode m s).pending = s.pending ∧
    (leavesForMode m s).lpt = s.lpt ∧ (leavesForMode m s).stl = s.stl ∧
    (leavesForMode m s).setup = s.setup ∧ (leavesForMode m s).rck = s.rck ∧
    (leavesForMode m s).svc = s.svc ∧ (leavesForMode m s).txu = s.txu ∧
    (leavesForMode m s).fru = s.fru ∧ (leavesForMode m s).scu = s.scu ∧
    (leavesForMode m s).pcu = s.pcu ∧ (leavesForMode m s).rjn = s.rjn ∧ (leavesForMode m s).inp = s.inp := by
  unfold leavesForMode
  (repeat' apply And.intro) <;> (try dsimp only) <;> (repeat' split) <;> simp

@[simp] theorem modeEffects_frame (m : Mode) (r : Reason) (s : State) :
    (modeEffects m r s).powered = s.powered ∧ (modeEffects m r s).pending = s.pending ∧
    (modeEffects m r s).setup = s.setup ∧ (modeEffects m r s).rck = s.rck ∧
    (modeEffects m r s).txu = s.txu ∧ (modeEffects m r s).fru = s.fru ∧ (modeEffects m r s).inp = s.inp := by
  unfold modeEffects
  (repeat' apply And.intro) <;> (try dsimp only) <;> (repeat' split) <;> simp

@[simp] theorem takeLaneMode_frame (m : Mode) (s : State) :
    (takeLaneMode m s).powered = s.powered ∧ (takeLaneMode m s).pending = s.pending ∧
    (takeLaneMode m s).setup = s.setup ∧ (takeLaneMode m s).rck = s.rck ∧
    (takeLaneMode m s).txu = s.txu ∧ (takeLaneMode m s).fru = s.fru ∧ (takeLaneMode m s).inp = s.inp := by
  unfold takeLaneMode
  (repeat' apply And.intro) <;> (try dsimp only) <;> (repeat' split) <;> simp

@[simp] theorem takeEmerg_frame (b : Bool) (s : State) :
    (takeEmerg b s).powered = s.powered ∧ (takeEmerg b s).pending = s.pending ∧
    (takeEmerg b s).setup = s.setup ∧ (takeEmerg b s).rck = s.rck ∧ (takeEmerg b s).txu = s.txu ∧
    (takeEmerg b s).fru = s.fru ∧ (takeEmerg b s).inp = s.inp := by
  unfold takeEmerg
  (repeat' apply And.intro) <;> (try dsimp only) <;> (repeat' split) <;> simp

/-- The converter runs exactly in a CLOSING that is not paused (R137). -/
theorem converting_iff (s : State) : converting s = true ↔ s.lfc.leaf = .closing ∧ s.lfc.paused = false := by
  simp [converting]

/-- A leaf at its CLOSED switch passes its turn on and nothing else (R137). -/
theorem sampleTaken_atClosed (v : Nat) (s : State) (h : s.lfc.atClosed s.lfc.nextLeaf = true) :
    sampleTaken v s = s.setLfc { s.lfc with nextLeaf := otherLeaf s.lfc.nextLeaf } := by
  simp [sampleTaken, h]

/-- Everything the resumption of a paused close does while a switch is untaken (R139, R144; log 8). -/
theorem resumeClose_untaken (s : State) (h : s.lfc.allTaken = false) :
    resumeClose s = s.setLfc { s.lfc with paused := false, runL := 0, runR := 0, nextLeaf := .left } := by
  simp [resumeClose, h]

end Sys2Proof.Machine
end

