-- ==== Sys2Proof/Laws/Sense.lean ====
section
/-! SUPPORT. Frames of the input filters: the blocks each operation leaves as they were. -/

namespace Sys2Proof.Machine

@[simp] theorem pinLevel_frame (i : Input) (v : Bool) (s : State) :
    (pinLevel i v s).powered = s.powered ∧ (pinLevel i v s).pending = s.pending ∧
    (pinLevel i v s).lpt = s.lpt ∧ (pinLevel i v s).stl = s.stl ∧ (pinLevel i v s).setup = s.setup ∧
    (pinLevel i v s).rck = s.rck ∧ (pinLevel i v s).svc = s.svc ∧ (pinLevel i v s).txu = s.txu ∧
    (pinLevel i v s).fru = s.fru ∧ (pinLevel i v s).scu = s.scu ∧ (pinLevel i v s).ltu = s.ltu ∧
    (pinLevel i v s).pcu = s.pcu ∧ (pinLevel i v s).lfc = s.lfc ∧ (pinLevel i v s).sgu = s.sgu ∧
    (pinLevel i v s).rjn = s.rjn ∧ (pinLevel i v s).ads = s.ads := by
  unfold pinLevel
  repeat' split
  all_goals simp

@[simp] theorem clearFilters_frame (s : State) :
    (clearFilters s).powered = s.powered ∧ (clearFilters s).pending = s.pending ∧
    (clearFilters s).lpt = s.lpt ∧ (clearFilters s).stl = s.stl ∧ (clearFilters s).setup = s.setup ∧
    (clearFilters s).rck = s.rck ∧ (clearFilters s).svc = s.svc ∧ (clearFilters s).txu = s.txu ∧
    (clearFilters s).fru = s.fru ∧ (clearFilters s).scu = s.scu ∧ (clearFilters s).ltu = s.ltu ∧
    (clearFilters s).pcu = s.pcu ∧ (clearFilters s).lfc = s.lfc ∧ (clearFilters s).sgu = s.sgu ∧
    (clearFilters s).rjn = s.rjn ∧ (clearFilters s).ads = s.ads := by
  unfold clearFilters
  repeat' split
  all_goals simp

@[simp] theorem clearBeamFilters_frame (s : State) :
    (clearBeamFilters s).powered = s.powered ∧ (clearBeamFilters s).pending = s.pending ∧
    (clearBeamFilters s).lpt = s.lpt ∧ (clearBeamFilters s).stl = s.stl ∧
    (clearBeamFilters s).setup = s.setup ∧ (clearBeamFilters s).rck = s.rck ∧
    (clearBeamFilters s).svc = s.svc ∧ (clearBeamFilters s).txu = s.txu ∧
    (clearBeamFilters s).fru = s.fru ∧ (clearBeamFilters s).scu = s.scu ∧
    (clearBeamFilters s).ltu = s.ltu ∧ (clearBeamFilters s).pcu = s.pcu ∧
    (clearBeamFilters s).lfc = s.lfc ∧ (clearBeamFilters s).sgu = s.sgu ∧
    (clearBeamFilters s).rjn = s.rjn ∧ (clearBeamFilters s).ads = s.ads := by
  unfold clearBeamFilters
  repeat' split
  all_goals simp

@[simp] theorem senseTick_frame (s : State) :
    (senseTick s).powered = s.powered ∧ (senseTick s).lpt = s.lpt ∧ (senseTick s).stl = s.stl ∧
    (senseTick s).setup = s.setup ∧ (senseTick s).rck = s.rck ∧ (senseTick s).svc = s.svc ∧
    (senseTick s).txu = s.txu ∧ (senseTick s).fru = s.fru ∧ (senseTick s).scu = s.scu ∧
    (senseTick s).ltu = s.ltu ∧ (senseTick s).pcu = s.pcu ∧ (senseTick s).lfc = s.lfc ∧
    (senseTick s).sgu = s.sgu ∧ (senseTick s).rjn = s.rjn ∧ (senseTick s).ads = s.ads := by
  unfold senseTick
  repeat' split
  all_goals simp

/-- Every filter of a rule for each is that rule's. -/
@[simp] theorem Inputs.of_each (f : Input → InFilter) (i : Input) : (Inputs.each f).of i = f i := by
  cases i with
  | beam b => cases b <;> rfl
  | switch leaf sw => cases leaf <;> cases sw <;> rfl
  | emerg => rfl

/-- One filter replaced, and no other. -/
@[simp] theorem Inputs.of_put (x : Inputs) (i j : Input) (f : InFilter) :
    (x.put i f).of j = if j = i then f else x.of j := by
  simp [Inputs.put]

/-- A level at the pin, and the filters beside it. -/
theorem pinLevel_of (i j : Input) (v : Bool) (s : State) :
    (pinLevel i v s).inp.of j = if j = i then { raw := v, count := 0 } else s.inp.of j := by
  simp [pinLevel]

/-- The beam filters' counts are 0 after a lane restart's clearing, and every other filter stands. -/
theorem clearBeamFilters_of (i : Input) (s : State) :
    (clearBeamFilters s).inp.of i
      = match i with
        | .beam _ => (s.inp.of i).cleared
        | .switch _ _ => s.inp.of i
        | .emerg => s.inp.of i := by
  cases i with
  | beam b => cases b <;> rfl
  | switch leaf sw => cases leaf <;> cases sw <;> rfl
  | emerg => rfl

/-- All that a sense tick does: each filter counts or is back at 0, and the change events join the queue. -/
theorem senseTick_eq (s : State) :
    (∀ i, (senseTick s).inp.of i
      = { s.inp.of i with count := if differs s i && !changesNow s i then (s.inp.of i).count + 1 else 0 })
    ∧ (senseTick s).pending = s.pending ++ eitherOrder s.svc.tickCount.toNat (senseEvents s) := by
  refine ⟨fun i => ?_, rfl⟩
  simp [senseTick, filterTicked]

end Sys2Proof.Machine
end

