-- ==== Sys2Proof/Laws/Transactions.lean ====
section
/-! SUPPORT. Frames of the transaction unit: the blocks each operation leaves as they were. -/

namespace Sys2Proof.Machine

@[simp] theorem refuseEarly_frame (x : Side) (r : Reason) (s : State) :
    (refuseEarly x r s).1.powered = s.powered ∧ (refuseEarly x r s).1.pending = s.pending ∧
    (refuseEarly x r s).1.lpt = s.lpt ∧ (refuseEarly x r s).1.stl = s.stl ∧
    (refuseEarly x r s).1.setup = s.setup ∧ (refuseEarly x r s).1.rck = s.rck ∧
    (refuseEarly x r s).1.svc = s.svc ∧ (refuseEarly x r s).1.txu = s.txu ∧
    (refuseEarly x r s).1.fru = s.fru ∧ (refuseEarly x r s).1.scu = s.scu ∧
    (refuseEarly x r s).1.pcu = s.pcu ∧ (refuseEarly x r s).1.lfc = s.lfc ∧
    (refuseEarly x r s).1.rjn = s.rjn ∧ (refuseEarly x r s).1.ads = s.ads ∧
    (refuseEarly x r s).1.inp = s.inp := by
  unfold refuseEarly
  (repeat' apply And.intro) <;> (try dsimp only) <;> (repeat' split) <;> simp

@[simp] theorem refuseWith_frame (p : Shown) (e : Entry) (r : Reason) (s : State) :
    (refuseWith p e r s).1.powered = s.powered ∧ (refuseWith p e r s).1.pending = s.pending ∧
    (refuseWith p e r s).1.lpt = s.lpt ∧ (refuseWith p e r s).1.setup = s.setup ∧
    (refuseWith p e r s).1.rck = s.rck ∧ (refuseWith p e r s).1.txu = s.txu ∧
    (refuseWith p e r s).1.fru = s.fru ∧ (refuseWith p e r s).1.scu = s.scu ∧
    (refuseWith p e r s).1.pcu = s.pcu ∧ (refuseWith p e r s).1.lfc = s.lfc ∧
    (refuseWith p e r s).1.ads = s.ads ∧ (refuseWith p e r s).1.inp = s.inp := by
  unfold refuseWith
  (repeat' apply And.intro) <;> (try dsimp only) <;> (repeat' split) <;> simp

@[simp] theorem refuseUnreadable_frame (p : Shown) (n : Nat) (s : State) :
    (refuseUnreadable p n s).1.powered = s.powered ∧ (refuseUnreadable p n s).1.pending = s.pending ∧
    (refuseUnreadable p n s).1.lpt = s.lpt ∧ (refuseUnreadable p n s).1.setup = s.setup ∧
    (refuseUnreadable p n s).1.rck = s.rck ∧ (refuseUnreadable p n s).1.txu = s.txu ∧
    (refuseUnreadable p n s).1.fru = s.fru ∧ (refuseUnreadable p n s).1.scu = s.scu ∧
    (refuseUnreadable p n s).1.pcu = s.pcu ∧ (refuseUnreadable p n s).1.lfc = s.lfc ∧
    (refuseUnreadable p n s).1.ads = s.ads ∧ (refuseUnreadable p n s).1.inp = s.inp := by
  unfold refuseUnreadable
  (repeat' apply And.intro) <;> (try dsimp only) <;> (repeat' split) <;> simp

@[simp] theorem refuseTampered_frame (p : Shown) (s : State) :
    (refuseTampered p s).1.powered = s.powered ∧ (refuseTampered p s).1.pending = s.pending ∧
    (refuseTampered p s).1.lpt = s.lpt ∧ (refuseTampered p s).1.setup = s.setup ∧
    (refuseTampered p s).1.rck = s.rck ∧ (refuseTampered p s).1.txu = s.txu ∧
    (refuseTampered p s).1.fru = s.fru ∧ (refuseTampered p s).1.scu = s.scu ∧
    (refuseTampered p s).1.pcu = s.pcu ∧ (refuseTampered p s).1.lfc = s.lfc ∧
    (refuseTampered p s).1.ads = s.ads ∧ (refuseTampered p s).1.inp = s.inp := by
  unfold refuseTampered
  (repeat' apply And.intro) <;> (try dsimp only) <;> (repeat' split) <;> simp

@[simp] theorem refuseSeen_frame (p : Shown) (e : Entry) (r : Reason) (s : State) :
    (refuseSeen p e r s).1.powered = s.powered ∧ (refuseSeen p e r s).1.pending = s.pending ∧
    (refuseSeen p e r s).1.lpt = s.lpt ∧ (refuseSeen p e r s).1.setup = s.setup ∧
    (refuseSeen p e r s).1.rck = s.rck ∧ (refuseSeen p e r s).1.txu = s.txu ∧
    (refuseSeen p e r s).1.fru = s.fru ∧ (refuseSeen p e r s).1.pcu = s.pcu ∧
    (refuseSeen p e r s).1.lfc = s.lfc ∧ (refuseSeen p e r s).1.ads = s.ads ∧
    (refuseSeen p e r s).1.inp = s.inp := by
  unfold refuseSeen
  (repeat' apply And.intro) <;> (try dsimp only) <;> (repeat' split) <;> simp

@[simp] theorem refuseBlocked_frame (p : Shown) (s : State) :
    (refuseBlocked p s).1.powered = s.powered ∧ (refuseBlocked p s).1.pending = s.pending ∧
    (refuseBlocked p s).1.lpt = s.lpt ∧ (refuseBlocked p s).1.setup = s.setup ∧
    (refuseBlocked p s).1.rck = s.rck ∧ (refuseBlocked p s).1.txu = s.txu ∧
    (refuseBlocked p s).1.fru = s.fru ∧ (refuseBlocked p s).1.pcu = s.pcu ∧
    (refuseBlocked p s).1.lfc = s.lfc ∧ (refuseBlocked p s).1.ads = s.ads ∧
    (refuseBlocked p s).1.inp = s.inp := by
  unfold refuseBlocked
  (repeat' apply And.intro) <;> (try dsimp only) <;> (repeat' split) <;> simp

@[simp] theorem refuseConcurrent_frame (p : Shown) (o : Slot) (s : State) :
    (refuseConcurrent p o s).1.powered = s.powered ∧ (refuseConcurrent p o s).1.pending = s.pending ∧
    (refuseConcurrent p o s).1.lpt = s.lpt ∧ (refuseConcurrent p o s).1.setup = s.setup ∧
    (refuseConcurrent p o s).1.rck = s.rck ∧ (refuseConcurrent p o s).1.txu = s.txu ∧
    (refuseConcurrent p o s).1.fru = s.fru ∧ (refuseConcurrent p o s).1.pcu = s.pcu ∧
    (refuseConcurrent p o s).1.lfc = s.lfc ∧ (refuseConcurrent p o s).1.ads = s.ads ∧
    (refuseConcurrent p o s).1.inp = s.inp := by
  unfold refuseConcurrent
  (repeat' apply And.intro) <;> (try dsimp only) <;> (repeat' split) <;> simp

@[simp] theorem refuseClone_frame (p : Shown) (h : Word16) (s : State) :
    (refuseClone p h s).1.powered = s.powered ∧ (refuseClone p h s).1.pending = s.pending ∧
    (refuseClone p h s).1.lpt = s.lpt ∧ (refuseClone p h s).1.setup = s.setup ∧
    (refuseClone p h s).1.rck = s.rck ∧ (refuseClone p h s).1.txu = s.txu ∧
    (refuseClone p h s).1.fru = s.fru ∧ (refuseClone p h s).1.pcu = s.pcu ∧
    (refuseClone p h s).1.lfc = s.lfc ∧ (refuseClone p h s).1.ads = s.ads ∧
    (refuseClone p h s).1.inp = s.inp := by
  unfold refuseClone
  (repeat' apply And.intro) <;> (try dsimp only) <;> (repeat' split) <;> simp

@[simp] theorem refusePassback_frame (p : Shown) (s : State) :
    (refusePassback p s).1.powered = s.powered ∧ (refusePassback p s).1.pending = s.pending ∧
    (refusePassback p s).1.lpt = s.lpt ∧ (refusePassback p s).1.setup = s.setup ∧
    (refusePassback p s).1.rck = s.rck ∧ (refusePassback p s).1.txu = s.txu ∧
    (refusePassback p s).1.fru = s.fru ∧ (refusePassback p s).1.pcu = s.pcu ∧
    (refusePassback p s).1.lfc = s.lfc ∧ (refusePassback p s).1.ads = s.ads ∧
    (refusePassback p s).1.inp = s.inp := by
  unfold refusePassback
  (repeat' apply And.intro) <;> (try dsimp only) <;> (repeat' split) <;> simp

@[simp] theorem refuseLow_frame (p : Shown) (c d : Nat) (s : State) :
    (refuseLow p c d s).1.powered = s.powered ∧ (refuseLow p c d s).1.pending = s.pending ∧
    (refuseLow p c d s).1.lpt = s.lpt ∧ (refuseLow p c d s).1.setup = s.setup ∧
    (refuseLow p c d s).1.rck = s.rck ∧ (refuseLow p c d s).1.txu = s.txu ∧
    (refuseLow p c d s).1.fru = s.fru ∧ (refuseLow p c d s).1.pcu = s.pcu ∧
    (refuseLow p c d s).1.lfc = s.lfc ∧ (refuseLow p c d s).1.ads = s.ads ∧
    (refuseLow p c d s).1.inp = s.inp := by
  unfold refuseLow
  (repeat' apply And.intro) <;> (try dsimp only) <;> (repeat' split) <;> simp

@[simp] theorem issueState_frame (s : State) :
    (issueState s).powered = s.powered ∧ (issueState s).pending = s.pending ∧
    (issueState s).lpt = s.lpt ∧ (issueState s).setup = s.setup ∧ (issueState s).txu = s.txu ∧
    (issueState s).fru = s.fru ∧ (issueState s).scu = s.scu ∧ (issueState s).ltu = s.ltu ∧
    (issueState s).pcu = s.pcu ∧ (issueState s).lfc = s.lfc ∧ (issueState s).sgu = s.sgu ∧
    (issueState s).ads = s.ads ∧ (issueState s).inp = s.inp := by
  unfold issueState
  (repeat' apply And.intro) <;> (try dsimp only) <;> (repeat' split) <;> simp

@[simp] theorem issue_frame (p : Shown) (i : Issue) (s : State) :
    (issue p i s).powered = s.powered ∧ (issue p i s).pending = s.pending ∧ (issue p i s).lpt = s.lpt ∧
    (issue p i s).setup = s.setup ∧ (issue p i s).fru = s.fru ∧ (issue p i s).pcu = s.pcu ∧
    (issue p i s).lfc = s.lfc ∧ (issue p i s).sgu = s.sgu ∧ (issue p i s).ads = s.ads ∧
    (issue p i s).inp = s.inp := by
  unfold issue
  (repeat' apply And.intro) <;> (try dsimp only) <;> (repeat' split) <;> simp

@[simp] theorem refuseAndWrite_frame (p : Shown) (s : State) :
    (refuseAndWrite p s).1.powered = s.powered ∧ (refuseAndWrite p s).1.pending = s.pending ∧
    (refuseAndWrite p s).1.lpt = s.lpt ∧ (refuseAndWrite p s).1.setup = s.setup ∧
    (refuseAndWrite p s).1.fru = s.fru ∧ (refuseAndWrite p s).1.pcu = s.pcu ∧
    (refuseAndWrite p s).1.lfc = s.lfc ∧ (refuseAndWrite p s).1.ads = s.ads ∧
    (refuseAndWrite p s).1.inp = s.inp := by
  unfold refuseAndWrite
  (repeat' apply And.intro) <;> (try dsimp only) <;> (repeat' split) <;> simp

@[simp] theorem accept_frame (p : Shown) (k : Classified) (s : State) :
    (accept p k s).1.powered = s.powered ∧ (accept p k s).1.pending = s.pending ∧
    (accept p k s).1.lpt = s.lpt ∧ (accept p k s).1.setup = s.setup ∧ (accept p k s).1.fru = s.fru ∧
    (accept p k s).1.pcu = s.pcu ∧ (accept p k s).1.lfc = s.lfc ∧ (accept p k s).1.sgu = s.sgu ∧
    (accept p k s).1.inp = s.inp := by
  unfold accept
  (repeat' apply And.intro) <;> (try dsimp only) <;> (repeat' split) <;> simp

@[simp] theorem acceptNoWrite_frame (p : Shown) (k : CreditKind) (r : Reason) (w : Word32) (s : State) :
    (acceptNoWrite p k r w s).powered = s.powered ∧ (acceptNoWrite p k r w s).pending = s.pending ∧
    (acceptNoWrite p k r w s).lpt = s.lpt ∧ (acceptNoWrite p k r w s).stl = s.stl ∧
    (acceptNoWrite p k r w s).setup = s.setup ∧ (acceptNoWrite p k r w s).rck = s.rck ∧
    (acceptNoWrite p k r w s).svc = s.svc ∧ (acceptNoWrite p k r w s).txu = s.txu ∧
    (acceptNoWrite p k r w s).fru = s.fru ∧ (acceptNoWrite p k r w s).scu = s.scu ∧
    (acceptNoWrite p k r w s).rjn = s.rjn ∧ (acceptNoWrite p k r w s).inp = s.inp := by
  unfold acceptNoWrite
  (repeat' apply And.intro) <;> (try dsimp only) <;> (repeat' split) <;> simp

@[simp] theorem sightReopen_frame (p : Shown) (s : State) :
    (sightReopen p s).powered = s.powered ∧ (sightReopen p s).pending = s.pending ∧
    (sightReopen p s).lpt = s.lpt ∧ (sightReopen p s).stl = s.stl ∧ (sightReopen p s).setup = s.setup ∧
    (sightReopen p s).rck = s.rck ∧ (sightReopen p s).svc = s.svc ∧ (sightReopen p s).txu = s.txu ∧
    (sightReopen p s).fru = s.fru ∧ (sightReopen p s).ltu = s.ltu ∧ (sightReopen p s).pcu = s.pcu ∧
    (sightReopen p s).lfc = s.lfc ∧ (sightReopen p s).sgu = s.sgu ∧ (sightReopen p s).rjn = s.rjn ∧
    (sightReopen p s).ads = s.ads ∧ (sightReopen p s).inp = s.inp := by
  unfold sightReopen
  (repeat' apply And.intro) <;> (try dsimp only) <;> (repeat' split) <;> simp

@[simp] theorem reopen_frame (p : Shown) (s : State) :
    (reopen p s).1.powered = s.powered ∧ (reopen p s).1.pending = s.pending ∧
    (reopen p s).1.lpt = s.lpt ∧ (reopen p s).1.setup = s.setup ∧ (reopen p s).1.rck = s.rck ∧
    (reopen p s).1.txu = s.txu ∧ (reopen p s).1.fru = s.fru ∧ (reopen p s).1.inp = s.inp := by
  unfold reopen
  (repeat' apply And.intro) <;> (try dsimp only) <;> (repeat' split) <;> simp

@[simp] theorem sightCompleted_frame (p : Shown) (s : State) :
    (sightCompleted p s).powered = s.powered ∧ (sightCompleted p s).pending = s.pending ∧
    (sightCompleted p s).lpt = s.lpt ∧ (sightCompleted p s).stl = s.stl ∧
    (sightCompleted p s).setup = s.setup ∧ (sightCompleted p s).rck = s.rck ∧
    (sightCompleted p s).svc = s.svc ∧ (sightCompleted p s).txu = s.txu ∧
    (sightCompleted p s).fru = s.fru ∧ (sightCompleted p s).ltu = s.ltu ∧
    (sightCompleted p s).pcu = s.pcu ∧ (sightCompleted p s).lfc = s.lfc ∧
    (sightCompleted p s).sgu = s.sgu ∧ (sightCompleted p s).rjn = s.rjn ∧
    (sightCompleted p s).ads = s.ads ∧ (sightCompleted p s).inp = s.inp := by
  unfold sightCompleted
  (repeat' apply And.intro) <;> (try dsimp only) <;> (repeat' split) <;> simp

@[simp] theorem tearCompleted_frame (p : Shown) (t : Tear) (s : State) :
    (tearCompleted p t s).1.powered = s.powered ∧ (tearCompleted p t s).1.pending = s.pending ∧
    (tearCompleted p t s).1.lpt = s.lpt ∧ (tearCompleted p t s).1.setup = s.setup ∧
    (tearCompleted p t s).1.rck = s.rck ∧ (tearCompleted p t s).1.txu = s.txu ∧
    (tearCompleted p t s).1.fru = s.fru ∧ (tearCompleted p t s).1.inp = s.inp := by
  unfold tearCompleted
  (repeat' apply And.intro) <;> (try dsimp only) <;> (repeat' split) <;> simp

@[simp] theorem entrySteps_frame (p : Shown) (s : State) :
    (entrySteps p s).1.powered = s.powered ∧ (entrySteps p s).1.pending = s.pending ∧
    (entrySteps p s).1.lpt = s.lpt ∧ (entrySteps p s).1.setup = s.setup ∧
    (entrySteps p s).1.fru = s.fru ∧ (entrySteps p s).1.inp = s.inp := by
  unfold entrySteps
  (repeat' apply And.intro) <;> (try dsimp only) <;> (repeat' split) <;> simp

@[simp] theorem exitSteps_frame (p : Shown) (s : State) :
    (exitSteps p s).1.powered = s.powered ∧ (exitSteps p s).1.pending = s.pending ∧
    (exitSteps p s).1.lpt = s.lpt ∧ (exitSteps p s).1.setup = s.setup ∧ (exitSteps p s).1.fru = s.fru ∧
    (exitSteps p s).1.inp = s.inp := by
  unfold exitSteps
  (repeat' apply And.intro) <;> (try dsimp only) <;> (repeat' split) <;> simp

@[simp] theorem screenFresh_frame (p : Shown) (s : State) :
    (screenFresh p s).1.powered = s.powered ∧ (screenFresh p s).1.pending = s.pending ∧
    (screenFresh p s).1.lpt = s.lpt ∧ (screenFresh p s).1.setup = s.setup ∧
    (screenFresh p s).1.fru = s.fru ∧ (screenFresh p s).1.inp = s.inp := by
  unfold screenFresh
  (repeat' apply And.intro) <;> (try dsimp only) <;> (repeat' split) <;> simp

@[simp] theorem screenTear_frame (p : Shown) (e : Sighting) (t : Tear) (s : State) :
    (screenTear p e t s).1.powered = s.powered ∧ (screenTear p e t s).1.pending = s.pending ∧
    (screenTear p e t s).1.lpt = s.lpt ∧ (screenTear p e t s).1.setup = s.setup ∧
    (screenTear p e t s).1.fru = s.fru ∧ (screenTear p e t s).1.inp = s.inp := by
  unfold screenTear
  (repeat' apply And.intro) <;> (try dsimp only) <;> (repeat' split) <;> simp

@[simp] theorem screenSighting_frame (p : Shown) (s : State) :
    (screenSighting p s).1.powered = s.powered ∧ (screenSighting p s).1.pending = s.pending ∧
    (screenSighting p s).1.lpt = s.lpt ∧ (screenSighting p s).1.setup = s.setup ∧
    (screenSighting p s).1.fru = s.fru ∧ (screenSighting p s).1.inp = s.inp := by
  unfold screenSighting
  (repeat' apply And.intro) <;> (try dsimp only) <;> (repeat' split) <;> simp

@[simp] theorem present_frame (x : Side) (im : List Byte) (s : State) :
    (present x im s).1.powered = s.powered ∧ (present x im s).1.pending = s.pending ∧
    (present x im s).1.lpt = s.lpt ∧ (present x im s).1.setup = s.setup ∧
    (present x im s).1.fru = s.fru ∧ (present x im s).1.inp = s.inp := by
  unfold present
  (repeat' apply And.intro) <;> (try dsimp only) <;> (repeat' split) <;> simp

@[simp] theorem auditOutcome_frame (sl : Slot) (r : WriteResult) (t : SampleTone) (s : State) :
    (auditOutcome sl r t s).powered = s.powered ∧ (auditOutcome sl r t s).pending = s.pending ∧
    (auditOutcome sl r t s).lpt = s.lpt ∧ (auditOutcome sl r t s).stl = s.stl ∧
    (auditOutcome sl r t s).setup = s.setup ∧ (auditOutcome sl r t s).rck = s.rck ∧
    (auditOutcome sl r t s).svc = s.svc ∧ (auditOutcome sl r t s).txu = s.txu ∧
    (auditOutcome sl r t s).fru = s.fru ∧ (auditOutcome sl r t s).scu = s.scu ∧
    (auditOutcome sl r t s).ltu = s.ltu ∧ (auditOutcome sl r t s).pcu = s.pcu ∧
    (auditOutcome sl r t s).lfc = s.lfc ∧ (auditOutcome sl r t s).sgu = s.sgu ∧
    (auditOutcome sl r t s).rjn = s.rjn ∧ (auditOutcome sl r t s).inp = s.inp := by
  unfold auditOutcome
  (repeat' apply And.intro) <;> (try dsimp only) <;> (repeat' split) <;> simp

@[simp] theorem doneCredit_frame (x : Side) (sl : Slot) (w : Word32) (s : State) :
    (doneCredit x sl w s).powered = s.powered ∧ (doneCredit x sl w s).pending = s.pending ∧
    (doneCredit x sl w s).lpt = s.lpt ∧ (doneCredit x sl w s).setup = s.setup ∧
    (doneCredit x sl w s).rck = s.rck ∧ (doneCredit x sl w s).txu = s.txu ∧
    (doneCredit x sl w s).fru = s.fru ∧ (doneCredit x sl w s).inp = s.inp := by
  unfold doneCredit
  (repeat' apply And.intro) <;> (try dsimp only) <;> (repeat' split) <;> simp

@[simp] theorem freeSlot_frame (x : Side) (s : State) :
    (freeSlot x s).powered = s.powered ∧ (freeSlot x s).pending = s.pending ∧
    (freeSlot x s).lpt = s.lpt ∧ (freeSlot x s).stl = s.stl ∧ (freeSlot x s).setup = s.setup ∧
    (freeSlot x s).rck = s.rck ∧ (freeSlot x s).svc = s.svc ∧ (freeSlot x s).fru = s.fru ∧
    (freeSlot x s).scu = s.scu ∧ (freeSlot x s).ltu = s.ltu ∧ (freeSlot x s).pcu = s.pcu ∧
    (freeSlot x s).lfc = s.lfc ∧ (freeSlot x s).sgu = s.sgu ∧ (freeSlot x s).rjn = s.rjn ∧
    (freeSlot x s).ads = s.ads ∧ (freeSlot x s).inp = s.inp := by
  unfold freeSlot
  (repeat' apply And.intro) <;> (try dsimp only) <;> (repeat' split) <;> simp

@[simp] theorem settleDone_frame (x : Side) (sl : Slot) (s : State) :
    (settleDone x sl s).powered = s.powered ∧ (settleDone x sl s).pending = s.pending ∧
    (settleDone x sl s).lpt = s.lpt ∧ (settleDone x sl s).setup = s.setup ∧
    (settleDone x sl s).rck = s.rck ∧ (settleDone x sl s).fru = s.fru ∧ (settleDone x sl s).inp = s.inp := by
  unfold settleDone
  (repeat' apply And.intro) <;> (try dsimp only) <;> (repeat' split) <;> simp

@[simp] theorem settleNotWritten_frame (x : Side) (sl : Slot) (s : State) :
    (settleNotWritten x sl s).powered = s.powered ∧ (settleNotWritten x sl s).pending = s.pending ∧
    (settleNotWritten x sl s).lpt = s.lpt ∧ (settleNotWritten x sl s).setup = s.setup ∧
    (settleNotWritten x sl s).rck = s.rck ∧ (settleNotWritten x sl s).fru = s.fru ∧
    (settleNotWritten x sl s).pcu = s.pcu ∧ (settleNotWritten x sl s).lfc = s.lfc ∧
    (settleNotWritten x sl s).inp = s.inp := by
  unfold settleNotWritten
  (repeat' apply And.intro) <;> (try dsimp only) <;> (repeat' split) <;> simp

@[simp] theorem settleUncertain_frame (o : AuditOutcome) (x : Side) (sl : Slot) (s : State) :
    (settleUncertain o x sl s).powered = s.powered ∧ (settleUncertain o x sl s).pending = s.pending ∧
    (settleUncertain o x sl s).lpt = s.lpt ∧ (settleUncertain o x sl s).setup = s.setup ∧
    (settleUncertain o x sl s).rck = s.rck ∧ (settleUncertain o x sl s).fru = s.fru ∧
    (settleUncertain o x sl s).ltu = s.ltu ∧ (settleUncertain o x sl s).pcu = s.pcu ∧
    (settleUncertain o x sl s).lfc = s.lfc ∧ (settleUncertain o x sl s).sgu = s.sgu ∧
    (settleUncertain o x sl s).inp = s.inp := by
  unfold settleUncertain
  (repeat' apply And.intro) <;> (try dsimp only) <;> (repeat' split) <;> simp

@[simp] theorem settleSlot_frame (r : WriteResult) (x : Side) (sl : Slot) (s : State) :
    (settleSlot r x sl s).powered = s.powered ∧ (settleSlot r x sl s).pending = s.pending ∧
    (settleSlot r x sl s).lpt = s.lpt ∧ (settleSlot r x sl s).setup = s.setup ∧
    (settleSlot r x sl s).rck = s.rck ∧ (settleSlot r x sl s).fru = s.fru ∧
    (settleSlot r x sl s).inp = s.inp := by
  unfold settleSlot
  (repeat' apply And.intro) <;> (try dsimp only) <;> (repeat' split) <;> simp

@[simp] theorem writeWaitEnds_frame (x : Side) (s : State) :
    (writeWaitEnds x s).powered = s.powered ∧ (writeWaitEnds x s).pending = s.pending ∧
    (writeWaitEnds x s).lpt = s.lpt ∧ (writeWaitEnds x s).setup = s.setup ∧
    (writeWaitEnds x s).rck = s.rck ∧ (writeWaitEnds x s).fru = s.fru ∧
    (writeWaitEnds x s).ltu = s.ltu ∧ (writeWaitEnds x s).pcu = s.pcu ∧
    (writeWaitEnds x s).lfc = s.lfc ∧ (writeWaitEnds x s).sgu = s.sgu ∧ (writeWaitEnds x s).inp = s.inp := by
  unfold writeWaitEnds
  (repeat' apply And.intro) <;> (try dsimp only) <;> (repeat' split) <;> simp

@[simp] theorem tearSlot_frame (x : Side) (s : State) :
    (tearSlot x s).powered = s.powered ∧ (tearSlot x s).pending = s.pending ∧
    (tearSlot x s).lpt = s.lpt ∧ (tearSlot x s).setup = s.setup ∧ (tearSlot x s).rck = s.rck ∧
    (tearSlot x s).fru = s.fru ∧ (tearSlot x s).pcu = s.pcu ∧ (tearSlot x s).lfc = s.lfc ∧
    (tearSlot x s).sgu = s.sgu ∧ (tearSlot x s).inp = s.inp := by
  unfold tearSlot
  (repeat' apply And.intro) <;> (try dsimp only) <;> (repeat' split) <;> simp

@[simp] theorem tearSlots_frame (s : State) :
    (tearSlots s).powered = s.powered ∧ (tearSlots s).pending = s.pending ∧ (tearSlots s).lpt = s.lpt ∧
    (tearSlots s).setup = s.setup ∧ (tearSlots s).rck = s.rck ∧ (tearSlots s).fru = s.fru ∧
    (tearSlots s).pcu = s.pcu ∧ (tearSlots s).lfc = s.lfc ∧ (tearSlots s).sgu = s.sgu ∧
    (tearSlots s).inp = s.inp := by
  unfold tearSlots
  (repeat' apply And.intro) <;> (try dsimp only) <;> (repeat' split) <;> simp

@[simp] theorem staffCredit_frame (d : Side) (s : State) :
    (staffCredit d s).powered = s.powered ∧ (staffCredit d s).pending = s.pending ∧
    (staffCredit d s).lpt = s.lpt ∧ (staffCredit d s).setup = s.setup ∧ (staffCredit d s).rck = s.rck ∧
    (staffCredit d s).txu = s.txu ∧ (staffCredit d s).fru = s.fru ∧ (staffCredit d s).inp = s.inp := by
  unfold staffCredit
  (repeat' apply And.intro) <;> (try dsimp only) <;> (repeat' split) <;> simp

@[simp] theorem takeOutcome_frame (x : Side) (r : WriteResult) (t : Word16) (s : State) :
    (takeOutcome x r t s).1.powered = s.powered ∧ (takeOutcome x r t s).1.pending = s.pending ∧
    (takeOutcome x r t s).1.lpt = s.lpt ∧ (takeOutcome x r t s).1.setup = s.setup ∧
    (takeOutcome x r t s).1.rck = s.rck ∧ (takeOutcome x r t s).1.fru = s.fru ∧
    (takeOutcome x r t s).1.inp = s.inp := by
  unfold takeOutcome
  (repeat' apply And.intro) <;> (try dsimp only) <;> (repeat' split) <;> simp

end Sys2Proof.Machine
end

