-- ==== Sys2Proof/WellFormed.lean ====
section
/-! DEFINITION. Which commands can arrive as they are written: frame bodies that fit a frame, transfers that are of
the kind the row names. The meanings are total: they answer for every command all the same. -/

namespace Sys2Proof

/-- A lane request's body fits its frame: the length byte is 0..250 (R195). -/
def laneBodyFits (body : List Byte) : Bool := body.length ≤ 250

/-- A station request's body fits its frame: the length character is 0..240 (R195). -/
def stationBodyFits (body : List Byte) : Bool := body.length ≤ 240

/-- The body fits the frame of the port it arrives on. -/
def bodyFits : Via → List Byte → Bool
  | .lane, body => laneBodyFits body
  | .station _ _, body => stationBodyFits body

/-- The shape the port itself gives each command's operands. -/
def Instr.wellFormed : Instr → Bool
  | .coldStart _ _ | .warmStart _ _ | .writeWaitUnderflow _ | .portPoll _ | .timedFareSwitch
  | .frameGapTimeout | .stationReply | .second | .markExpiry | .tearDeadline | .emergChange _
  | .beamChange _ _ | .switchChange _ _ _ | .currentSample _ | .passageWarning _ | .creditExpiry _
  | .leafHoldUnderflow | .leafMoveUnderflow | .occupancyUnderflow | .signalCompare
  | .signalUnderflow | .refusalFlashLapse _ | .tick | .stationCharacter _ _ _ | .replyEnd
  | .lcsSeenHigh | .vddLoss => true
  | .cardPresent b | .writeOutcome b | .laneHold b | .laneRelease b | .staffPass b
  | .cueTone b => laneBodyFits b
  | .laneStatus v b | .noticeFetch v b | .noticeMask v b | .laneRestart v b => bodyFits v b
  | .responseRead n _ => decide (1 ≤ n)
  | .laneFrameFault bytes ragged =>
    match bytes with
    | [] => false
    | first :: rest => first != 0x7F && (rest != [] || ragged)
  | .stationPoll _ _ b | .journalFetch _ _ b | .journalRelease _ _ b | .denyDelta _ _ b
  | .denyWipe _ _ b | .denyProbe _ _ b | .sighting _ _ b | .fareChunk _ _ b | .fareClose _ _ b
  | .fareSwitch _ _ b | .clockSet _ _ b | .keyLoad _ _ b | .laneMode _ _ b | .laneSetup _ _ b
  | .auditSetup _ _ b | .auditRead _ _ b | .auditRelease _ _ b | .auditTag _ _ b
  | .stationFrameFault _ _ _ b _ => stationBodyFits b

end Sys2Proof
end

