-- ==== Sys2Proof/Tests/Slice0.lean ====
section
/-! SUPPORT. Tests by hand: the smoke test of WellFormed, one-step tests whose values come from the manual's examples and
tables, and for each obligation with hypotheses a witness that meets them. -/

set_option Elab.async false

namespace Sys2Proof.Tests

open Sys2Proof.Machine

/-! ## Well-formed commands -/

theorem test_lane_body_too_long : (Instr.cardPresent (List.replicate 251 0)).wellFormed = false := by decide +kernel
theorem test_lane_via_body_too_long :
    (Instr.noticeMask .lane (List.replicate 251 0)).wellFormed = false := by decide +kernel
theorem test_station_body_too_long :
    (Instr.denyDelta 12 0 (List.replicate 241 0)).wellFormed = false := by decide +kernel
theorem test_station_via_body_too_long :
    (Instr.laneStatus (.station 12 0) (List.replicate 241 0)).wellFormed = false := by
  decide +kernel
theorem test_read_of_nothing : (Instr.responseRead 0 true).wellFormed = false := by decide +kernel
theorem test_transfer_of_nothing : (Instr.laneFrameFault [] true).wellFormed = false := by decide +kernel
theorem test_transfer_is_a_poll : (Instr.laneFrameFault [3] false).wellFormed = false := by decide +kernel
theorem test_transfer_is_a_read : (Instr.laneFrameFault [0x7F, 0, 0, 0] false).wellFormed = false := by decide +kernel
theorem test_whole_bodies_fit : (Instr.cardPresent (List.replicate 49 0)).wellFormed = true := by decide +kernel

/-! ## States -/

/-- The state a command leaves. -/
def after (c : Instr) (s : State) : State :=
  match exec c s with
  | .next t => t
  | .fault _ => s
  | .refused _ => s

/-- Outputs formed as between events. -/
def settle (s : State) : State := formAttn (formLamps s)

theorem formed_settle (s : State) (h : s.svc.serviceTouched = false) : (settle s).formed :=
  ⟨⟨rfl, rfl, rfl, rfl⟩, rfl, h⟩

/-- A table of R58 whose one used band starts at 0 with 100%. -/
def oneBand : List Byte := [0, 0, 0, 100] ++ (List.replicate 7 [(255 : Byte), 255, 0, 0]).flatten

/-- A fare image in range: identifier 3002, 340 cents from zone 2 to zone 4, transfer window 30 and credit 100, fare unit
10, minimum balance 300. -/
def fares : List Byte :=
  toBE 4 3002 ++ (List.replicate 72 0 ++ (toBE 2 340 ++ (List.replicate 438 0 ++ (oneBand ++ (oneBand ++ (oneBand
    ++ (List.replicate 40 0 ++ ([0, 30, 0, 100, 2, 10, 0, 200, 1, 44, 0, 150, 0, 20, 0, 5, 0, 180, 3]
    ++ List.replicate 33 0))))))))

/-- The VALID bank of the tests. -/
def bank : Bank := { buffer := fares, valid := true, maxima := some (maximaOf fares) }

theorem bank_length : bank.buffer.length = 704 := by decide +kernel
theorem bank_sound : fieldFault bank.buffer = none := by decide +kernel
theorem bank_ok : bank.ok := ⟨bank_length, fun _ => ⟨bank_sound, rfl⟩, fun h => nomatch h⟩

/-- The cleared bank. -/
theorem reset_bank_ok : Bank.reset.ok := ⟨by decide +kernel, fun h => (nomatch h), fun _ => rfl⟩

/-- No reason stands. -/
def noReasons : Reasons :=
  { noKey := false, noFare := false, noTime := false, noSetup := false, journalStop := false, leafFault := false
    laneHold := false, modeClosed := false }

/-- A lane in service: address 12, mode BOTH, leaves CLOSED, one VALID bank, a key, the time 9131, 30000. -/
def base : State :=
  let s := State.reset
  settle { s with
    stl := { s.stl with ownAddr := 12 }
    lpt := { s.lpt with ready := true, notices := noticesOf laneCauses }
    setup := { s.setup with stationCode := 2609, zone := 4 }
    rck := { current := some { word := 0x11223344, label := 7 }, previous := none, w := 57 }
    svc := { s.svc with
      timeKnown := true, day := 9131, secs := 30000, stationMode := .both, reasons := noReasons }
    fru := { s.fru with bankA := bank }
    lfc := { s.lfc with
      leaf := .closed, driveL := .brake, driveR := .brake, swLC := some true, swLO := some false
      swRC := some true, swRO := some false } }

/-- A stored-value card with an open entry in zone 2 of the same day (section 3.9). -/
def card : Card :=
  { number := 30117442, kindCode := 1, cls := 0, flags := 1, transfers := 0, seq := 1204, tag := 22190
    balance := 1500, entryStation := 2480, entryZone := 2, entryLane := 3, entryDay := 9131, entrySecs := 28500
    exitDay := 0, exitSecs := 0, spendDay := 0, spendAmount := 0, passFirst := 0, passLast := 0, passLow := 0
    passHigh := 0, writer := 2480 }

/-- Its image under the key of `base`. -/
def image : List Byte := imageOf base card

/-- A card without an open entry. -/
def freshCard : Card := { card with flags := 0, entryStation := 0, entryZone := 0, entryLane := 0, entryDay := 0, entrySecs := 0 }

/-- A sighting of the card. -/
def seenCard : Sighting := localSighting base card.number card.seq card.tag .entry

/-- A slot awaiting the write of the card. -/
def waiting (k : WriteKind) : Slot :=
  { card := card.number, oldSeq := 1204, oldTag := 22190, kind := k, reason := .ok, charge := 340, newBalance := 1160
    newSeq := 1205, newTag := 58498, entryStation := 2480, audit := false, tick := 0 }

/-- Slot P awaiting its write. -/
def slotted (k : WriteKind) : State :=
  settle { base with
    txu := { slotU := none, slotP := some (waiting k) }
    scu := { base.scu with
      sightings := [{ seenCard with
        inFlight := some { side := .p, oldSeq := 1204, oldTag := 22190, newSeq := 1205, newTag := 58498 } }] }
    rjn := { base.rjn with reserved := 3 }
    ltu := { base.ltu with writeP := .start 128 0 } }

/-- A credit of some card. -/
def credit (n : Option Nat) : Credit :=
  { kind := if n.isSome then .paid else .staff, card := n, creator := 1, tick := 0, audit := false }

/-- Two credits in the queue UP, the first of the sighted card. -/
def credited : State :=
  settle { base with
    pcu := { base.pcu with queueUp := [credit (some card.number), credit none] }
    scu := { base.scu with sightings := [seenCard] }
    rjn := { base.rjn with reserved := 2 } }

/-- A pending-tear of the card. -/
def tearOf (deadline : DayTime) : Tear :=
  { side := .p, kind := .accept, oldSeq := 1204, oldTag := 22190, newSeq := 1205, newTag := 58498, charge := 340
    newBalance := 1160, tearSeq := 1, deadline := deadline }

/-- The card's pending-tear stands. -/
def torn (deadline : DayTime) : State :=
  settle { base with
    scu := { base.scu with sightings := [{ seenCard with tear := some (tearOf deadline) }] }
    rjn := { base.rjn with reserved := 2 } }

/-- The leaves in a state, with switches and drives. -/
def leaves (l : Lfc → Lfc) (s : State) : State := settle (s.setLfc (l s.lfc))

/-- A close that is driven with a grant toward UP: both leaves off their switches. -/
def closing : State :=
  leaves (fun l => { l with
    leaf := .closing, grant := some .u, openSide := some .p, driveL := .swingU, driveR := .swingU
    swLC := some false, swRC := some false }) base

/-- An opening toward UP for its credit, the right leaf at its target. -/
def opening : State :=
  leaves (fun l => { l with
    leaf := .opening .u, grant := some .u, openSide := some .p, driveL := .swingP, driveR := .brake
    swLC := some false, swRC := some false, swRO := some true }) credited

/-- The leaves open toward UP. -/
def opened : State :=
  leaves (fun l => { l with
    leaf := .opened .u, grant := some .u, openSide := some .p, swLC := some false, swLO := some true
    swRC := some false, swRO := some true }) credited

/-- A paused close. -/
def pausedClose : State :=
  leaves (fun l => { l with grant := none, paused := true, driveL := .released, driveR := .released }) closing

/-- A paused close after a start with the left OPEN switch still untaken. -/
def slack : State :=
  leaves (fun l => { l with
    leaf := .closing, grant := none, paused := true, reversalCount := 1, driveL := .released, driveR := .released
    swLC := some false, swRC := some false, swLO := none }) base

/-- The leaves in FAULT. -/
def faulted : State :=
  settle { base with
    lfc := { base.lfc with leaf := .fault, driveL := .released, driveR := .released }
    svc := { base.svc with reasons := { noReasons with leafFault := true } } }

/-- The channel's events made due. -/
def due (i : ChanId) (s : State) : State :=
  setChan i { s.chan i with compareDue := true, underflowDue := true } s

/-- The station mode replaced. -/
def inMode (m : Mode) (s : State) : State :=
  settle (s.setSvc { s.svc with
    stationMode := m, reasons := { s.svc.reasons with modeClosed := m == .closed } })

/-- A response waits. -/
def answeredState : State :=
  settle (base.setLpt { base.lpt with responseSlot := some { kind := 0x83, body := [0], overrun := false } })

/-! ## Checks of the invariants that the kernel can evaluate -/

def slotSeenB (s : State) (x : Side) : Bool :=
  match s.slot x with
  | none => true
  | some sl =>
    match s.sighting sl.card with
    | some e => e.inFlight.isSome && e.tear.isNone
    | none => false

def ownedB (s : State) (e : Sighting) : Bool :=
  !e.inFlight.isSome || [Side.u, .p].any fun x =>
    match s.slot x with
    | some sl => sl.card == e.card
    | none => false

def apartB (s : State) : Bool :=
  match s.txu.slotU, s.txu.slotP with
  | some a, some b => a.card != b.card
  | _, _ => true

def marksB (s : State) : Bool :=
  s.scu.markOrder.all (fun c => s.scu.sightings.any fun e => e.card == c && e.mark.isSome)
    && s.scu.sightings.all fun e => !e.mark.isSome || s.scu.markOrder.contains e.card

def acceptB (s : State) (x : Side) : Bool :=
  match s.slot x with
  | none => true
  | some sl => !sl.audit || sl.kind == .accept

def booksB (s : State) : Bool :=
  decide (s.rjn.journal.length + s.rjn.reserved ≤ 4096)
    && decide (s.rjn.low = decide (s.free < 256) ∧ s.rjn.stop = decide (s.free < 64)
        ∧ s.svc.reasons.journalStop = s.rjn.stop)
    && decide (s.rjn.reserved = s.held)
    && decide ((s.queue .u).length + (s.claim .u).toNat ≤ 4 ∧ (s.queue .p).length + (s.claim .p).toNat ≤ 4)
    && apartB s
    && decide ((s.scu.sightings.map Sighting.card).Nodup ∧ s.scu.sightings.length ≤ 512)
    && (slotSeenB s .u && slotSeenB s .p) && s.scu.sightings.all (ownedB s)
    && decide (s.tears.length ≤ 32)
    && (decide (s.scu.markOrder.Nodup ∧ s.scu.markOrder.length ≤ 8) && marksB s)
    && (decide (s.tags = (if s.ads.phase = .tracking then 1 else 0) ∧ s.ads.sample.isSome = s.ads.phase.holdsSample)
      && (acceptB s .u && acceptB s .p))

theorem slotSeen_of (s : State) (x : Side) (h : slotSeenB s x = true) (sl : Slot) (hx : s.slot x = some sl) :
    ∃ e, s.sighting sl.card = some e ∧ e.inFlight.isSome ∧ e.tear = none := by
  unfold slotSeenB at h
  rw [hx] at h
  cases he : s.sighting sl.card with
  | none => simp [he] at h
  | some e => simp [he] at h; exact ⟨e, rfl, h⟩

theorem owned_of (s : State) (e : Sighting) (h : ownedB s e = true) (hf : e.inFlight.isSome) :
    ∃ x sl, s.slot x = some sl ∧ sl.card = e.card := by
  simp only [ownedB, hf, Bool.not_true, Bool.false_or, List.any_eq_true] at h
  obtain ⟨x, _, hx⟩ := h
  cases hs : s.slot x with
  | none => simp [hs] at hx
  | some sl => exact ⟨x, sl, hs, by simpa [hs] using hx⟩

theorem marks_of (s : State) (h : marksB s = true) (c : Nat) :
    c ∈ s.scu.markOrder ↔ ∃ e ∈ s.scu.sightings, e.card = c ∧ e.mark.isSome := by
  simp only [marksB, Bool.and_eq_true, List.all_eq_true, List.any_eq_true, beq_iff_eq, Bool.or_eq_true,
    List.contains_iff_mem] at h
  constructor
  · intro hc
    obtain ⟨e, he, h1, h2⟩ := h.1 c hc
    exact ⟨e, he, h1, h2⟩
  · rintro ⟨e, he, rfl, hm⟩
    rcases h.2 e he with h0 | h0
    · simp [hm] at h0
    · exact h0

theorem accept_of (s : State) (x : Side) (h : acceptB s x = true) (sl : Slot) (hx : s.slot x = some sl)
    (ha : sl.audit = true) : sl.kind = .accept := by
  simpa [acceptB, hx, ha] using h

theorem books_of (s : State) (h : booksB s = true) : s.books := by
  simp only [booksB, Bool.and_eq_true, decide_eq_true_eq, List.all_eq_true] at h
  obtain ⟨⟨⟨⟨⟨⟨⟨⟨⟨⟨h1, h2⟩, h3⟩, h4⟩, h5⟩, h6⟩, h7⟩, h8⟩, h9⟩, h10, h11⟩, h12, h13⟩ := h
  refine ⟨h1, h2, h3, ?_, ?_, h6, ?_, ?_, h9, ⟨h10.1, h10.2, marks_of s h11⟩,
    h12.1, h12.2, ?_⟩
  · intro d; cases d <;> simp [h4]
  · intro a b ha hb; simpa [apartB, ha, hb] using h5
  · intro x sl hx; cases x
    · exact slotSeen_of s .u h7.1 sl hx
    · exact slotSeen_of s .p h7.2 sl hx
  · intro e he hf; exact owned_of s e (h8 e he) hf
  · intro x sl hx ha; cases x
    · exact accept_of s .u h13.1 sl hx ha
    · exact accept_of s .p h13.2 sl hx ha

def leavesB (s : State) : Bool :=
  decide (s.lfc.reversalCount ≤ 2 ∧ s.lfc.reversal = false)
    && (!s.lfc.paused || (s.lfc.leaf == .closing && s.lfc.grant == none))
    && (s.lfc.allTaken || (s.lfc.leaf == .closing && s.lfc.grant == none))
    && (s.lfc.leaf == .closed && s.lfc.grant == none && s.lfc.driveL == .brake && s.lfc.driveR == .brake
      || s.lfc.leaf == .fault && s.lfc.grant == none && s.lfc.driveL == .released && s.lfc.driveR == .released
      || s.lfc.leaf == .forced && s.lfc.grant == none && s.lfc.driveL == .brake && s.lfc.driveR == .brake
      || s.lfc.leaf == .opened .u && s.lfc.grant == some .u && s.lfc.driveL == .brake && s.lfc.driveR == .brake
      || s.lfc.leaf == .opening .u && s.lfc.grant == some .u && [openSwing .u, .brake].contains s.lfc.driveL
        && [openSwing .u, .brake].contains s.lfc.driveR && s.queue .u != []
      || s.lfc.leaf == .closing && !s.lfc.allTaken && s.lfc.driveL == .released && s.lfc.driveR == .released
      || s.lfc.leaf == .closing && s.lfc.allTaken && s.lfc.paused && [Drive.released, .brake].contains s.lfc.driveL
        && [Drive.released, .brake].contains s.lfc.driveR
      || s.lfc.leaf == .closing && s.lfc.allTaken && !s.lfc.paused && [closeSwing s.lfc.openSide, .brake].contains s.lfc.driveL
        && [closeSwing s.lfc.openSide, .brake].contains s.lfc.driveR)

theorem leaves_of (s : State) (h : leavesB s = true) : s.leavesOk := by
  simp only [leavesB, Bool.and_eq_true, decide_eq_true_eq, Bool.or_eq_true, beq_iff_eq, Bool.not_eq_true',
    List.contains_iff_mem, bne_iff_ne, ne_eq] at h
  obtain ⟨⟨⟨h1, h2⟩, h3⟩, h4⟩ := h
  rcases h4 with ((((((h4 | h4) | h4) | h4) | h4) | h4) | h4) | h4 <;>
  refine ⟨?_, ⟨by omega, by omega⟩, ⟨?_, ?_⟩, ?_, ?_, ?_, ?_⟩ <;>
  simp_all [State.grantOk, State.drivesOk, State.untakenOk, Lfc.drivesIn]

/-! ## The states meet them -/

theorem base_formed : base.formed := formed_settle _ rfl
theorem base_books : base.books := books_of _ (by decide +kernel)
theorem base_leaves : base.leavesOk := leaves_of _ (by decide +kernel)
theorem base_open : base.laneOpen := ⟨by decide +kernel, by decide +kernel⟩
theorem base_link : linkLive base = true := by decide +kernel
theorem base_told : base.reasonsTold := by unfold State.reasonsTold; decide +kernel

theorem base_ready : base.readinessOk := by
  exact ⟨base_told, by unfold State.spaceJudged; decide +kernel, bank_ok, reset_bank_ok, fun h => nomatch h⟩

theorem base_setup : base.setup.ok := by unfold Setup.ok; decide +kernel
theorem base_clock : base.clockOk := by unfold State.clockOk; decide +kernel
theorem base_tracker : base.trackerOk := by unfold State.trackerOk; decide +kernel

theorem presentable_of {s : State} {x : Side} (hf : s.formed) (hb : booksB s = true) (hr : s.readinessOk)
    (h : (laneLive s = true ∧ s.lpt.responseSlot = none) ∧ s.effMode ≠ .free ∧ s.svc.reasons.empty = true
      ∧ s.permits x = true ∧ s.slot x = none ∧ (s.queue x).length < 4) : Presentable s x :=
  ⟨h.1, hf, books_of _ hb, hr, h.2⟩

theorem hears_own (s : State) (rq : Request) (h : linkLive s = true ∧ classOf s 12 = some .own) : s.hears rq 12 :=
  ⟨h.1, .inl h.2⟩

theorem hears_all (s : State) (rq : Request) (h : linkLive s = true ∧ classOf s 255 = some .all)
    (h3 : rq.broadcast = true) : s.hears rq 255 :=
  ⟨h.1, .inr ⟨h3, by rw [h.2]; rfl⟩⟩

theorem base_own (rq : Request) : base.hears rq 12 := hears_own _ _ (by decide +kernel)
theorem base_all (rq : Request) (h : rq.broadcast = true) : base.hears rq 255 := hears_all _ _ (by decide +kernel) h

theorem base_presentable (x : Side) : Presentable base x := by
  refine presentable_of base_formed (by decide +kernel) base_ready ?_
  cases x <;> decide +kernel

/-! ## Witnesses: for each obligation with hypotheses, a state and operands that meet them, clause by clause -/

theorem witness_StepTakesFront : (base.setPending [.tick]).pending = .tick :: []
    ∧ (base.setPowered false).pending = [] ∧ (base.setPowered false).powered = false := by decide +kernel

/-- Beam 1 blocked at its pin and still clear after some sense ticks: 5 are the filter's length. -/
def blocking (count : Nat) : State := base.setInp (base.inp.put (.beam .b1) { raw := true, count := count })

/-- An equal level, a differing one at the third and at the last tick of the filter, and a switch that is unset. -/
theorem witness_SenseTickFilters : base.pending = [] ∧ base.powered = true
    ∧ base.level (.beam .b1) = some (base.inp.of (.beam .b1)).raw
    ∧ (blocking 3).pending = [] ∧ (blocking 3).powered = true
    ∧ (blocking 3).level (.beam .b1) ≠ some ((blocking 3).inp.of (.beam .b1)).raw
    ∧ ((blocking 3).inp.of (.beam .b1)).count + 1 < (blocking 3).setup.beamWidth / 4
    ∧ (blocking 4).setup.beamWidth / 4 ≤ ((blocking 4).inp.of (.beam .b1)).count + 1
    ∧ State.reset.level (.switch .left .closedSw) ≠ some (State.reset.inp.of (.switch .left .closedSw)).raw := by
  decide +kernel

theorem witness_NothingWithoutVdd : (base.setPowered false).powered = false ∧ Instr.laneHold [] ≠ .tick
    ∧ Instr.laneHold [] ≠ .second ∧ (∀ a r, Instr.laneHold [] ≠ .coldStart a r)
    ∧ ∀ a r, Instr.laneHold [] ≠ .warmStart a r := by
  refine ⟨rfl, ?_, ?_, ?_, ?_⟩ <;> simp

/-- A sample of the card. -/
def sampled : Sample := verdictPart base card .p .accept .ok .nothing

/-- The sampler in a state, with a sample. -/
def sampling (phase : AuditState) (s : State) : State := settle (s.setAds { s.ads with phase := phase, sample := some sampled })

/-- Slot P awaiting the write of a tagged transaction. -/
def taggedSlot : State :=
  let s := slotted .accept
  sampling .tracking (s.setTxu { s.txu with slotP := some { waiting .accept with audit := true } })

/-- A tagged credit at the head of the queue UP. -/
def tagCredit (s : State) : State :=
  sampling .tracking (s.setPcu { s.pcu with queueUp := [{ credit (some card.number) with audit := true }, credit none] })

/-- Untagged with a slot, with the tag on a slot and on a credit, with a sample in CLOSING and one VALID. -/
theorem witness_WarmStartKeepsRetained : (slotted .accept).books ∧ taggedSlot.books ∧ (tagCredit credited).books
    ∧ (sampling .closing base).books ∧ (sampling .valid base).books ∧ taggedSlot.ads.phase = .tracking
    ∧ (sampling .closing base).ads.phase = .closing ∧ 4 ≤ base.free :=
  ⟨books_of _ (by decide +kernel), books_of _ (by decide +kernel), books_of _ (by decide +kernel),
    books_of _ rfl, books_of _ rfl, by decide +kernel⟩

theorem witness_LaneRestartSettlesLane : base.books ∧ base.hearsVia reqLaneRestart .lane
    ∧ base.hearsVia reqLaneRestart (.station 12 0) := ⟨base_books, base_open, base_own _⟩

theorem witness_PortSignalsAct : base.powered = true ∧ laneLive base = true ∧ linkLive base = true
    ∧ (after (.stationPoll 12 7 []) base).stl.replyTurn.isSome = true := by decide +kernel

theorem witness_ResponseReadShiftsOut : base.formed ∧ answeredState.formed ∧ laneLive base = true ∧ 0 < 1
    ∧ base.lpt.responseSlot = none
    ∧ laneLive answeredState = true ∧ answeredState.lpt.responseSlot.isSome = true :=
  ⟨base_formed, formed_settle _ rfl, by decide +kernel⟩

theorem witness_LanePortTurnsAway : answeredState.formed ∧ base.laneOpen ∧ base.formed
    ∧ laneForm (.staffPass []) = some (reqStaffPass, [])
    ∧ laneLive State.reset = false ∧ laneLive answeredState = true
    ∧ answeredState.lpt.responseSlot = some { kind := 0x83, body := [0], overrun := false }
    ∧ reqStaffPass.lengthOk 0 = false :=
  ⟨formed_settle _ rfl, base_open, base_formed, rfl, by decide +kernel⟩

/-- Form: three bytes. Check: a wrong CRC. Kind: 0x20 is the station link's. -/
theorem witness_LaneFrameFaultAnswered : base.laneOpen ∧ base.formed ∧ [(0x01 : Byte), 0, 9].length < 4
    ∧ (let b : List Byte := [0x03, 0, 0, 0]
       b.length = (byteAt b 1).toNat + 4 ∧ (crc16 (b.take 2)).toNat ≠ field b 2 2)
    ∧ (let b := laneFrame 0x20 []
       b.length = (byteAt b 1).toNat + 4 ∧ (crc16 (b.take 2)).toNat = field b 2 2
       ∧ (laneKind (byteAt b 0)).isNone = true) :=
  ⟨base_open, base_formed, by decide +kernel⟩

theorem witness_LaneFrameIsItsRequest :
    laneForm (.laneHold (List.replicate 250 0)) = some (reqLaneHold, List.replicate 250 0)
    ∧ (List.replicate 250 (0 : Byte)).length ≤ 250 := ⟨rfl, by decide +kernel⟩

theorem witness_LinkTurnsAway : base.formed ∧ (linkForm (.laneSetup 12 0 [])).isSome = true
    ∧ linkLive (base.setPowered false) = false ∧ linkLive base = true ∧ classOf base 13 = none
    ∧ classOf base 255 = some .all ∧ reqLaneSetup.broadcast = false ∧ classOf base 64 = some .group
    ∧ reqClockSet.lengthOk 4 = false ∧ classOf base 12 = some .own ∧ reqLaneSetup.lengthOk 14 = false
    ∧ (List.replicate 240 (0 : Byte)).length ≤ 240 ∧ (classOf base 12).isSome = true
    ∧ frameCrc 12 0 0x20 [] ≠ 0 ∧ (stationKind 0x01).isNone = true :=
  ⟨base_formed, by decide +kernel⟩

/-- A buffer of two characters, one of four within a frame of 9, and the boundary lengths 240 and 241. -/
theorem witness_CharacterTaken : linkLive base = true ∧ base.stl.rx = .hunting
    ∧ (let s := base.setStl { base.stl with rx := .receiving .own 12, rxBuf := [0, 0x2A] }
       linkLive s = true ∧ s.stl.rx = .receiving .own 12 ∧ (s.stl.rxBuf ++ [240]).length = 3
       ∧ (240 : Byte).toNat ≤ 240 ∧ 240 < (241 : Byte).toNat)
    ∧ (let s := base.setStl { base.stl with rx := .receiving .own 12, rxBuf := [0, 0x2A, 5] }
       3 < (s.stl.rxBuf ++ [0]).length ∧ (s.stl.rxBuf ++ [0]).length < (byteAt (s.stl.rxBuf ++ [0]) 2).toNat + 5) := by
  decide +kernel

theorem witness_CharactersMakeTheFrame : linkLive base = true ∧ ([0] : List Byte).length ≤ 240
    ∧ (exec (.stationFrameFault 12 7 0x99 [0] 0) base = .next (after (.stationFrameFault 12 7 0x99 [0] 0) base))
    ∧ linkForm (.laneMode 12 7 [1]) = some ⟨reqLaneMode, 12, 7, [1]⟩ ∧ reqLaneMode.code = 0x2C :=
  ⟨by decide +kernel, by decide +kernel, rfl, rfl, rfl⟩

theorem witness_TimeGoesOn :
    let s := base.setSvc { base.svc with secondsDue := 1, secs := 86399 }
    s.formed
      ∧ (let v := (base.setSvc { base.svc with secondsDue := 1 }).setFru { base.fru with
           bankB := base.fru.bankA, secondHanded := true, pendingSwitch := some { day := 9131, secs := 30000 } }
         v.powered = true ∧ 0 < v.svc.secondsDue ∧ v.fru.secondHanded = true ∧ v.svc.timeKnown = true
         ∧ v.reached { day := 9131, secs := 30000 } = true)
      ∧ (base.setPowered false).powered = false
      ∧ 0 < s.svc.secondsDue ∧ s.fru.secondHanded = false ∧ s.scu.marksHanded = false
      ∧ s.scu.tearsHanded = false
      ∧ base.powered = true ∧ (base.chan .signal).state ≠ .running
      ∧ ((slotted .accept).chan .writeP).state = .running ∧ 1 < ((slotted .accept).chan .writeP).count
      ∧ (let s := setChan .signal { Channel.start 12 6 with count := 1 } base
         (s.chan .signal).state = .running ∧ (s.chan .signal).count = 1) :=
  ⟨formed_settle (base.setSvc { base.svc with secondsDue := 1, secs := 86399 }) rfl, by decide +kernel⟩

/-- A second handed to FRU, with a pending switch at the present moment or one second later. -/
def handed (secs : Nat) : State :=
  settle { base with fru := { base.fru with
    bankB := base.fru.bankA, secondHanded := true, pendingSwitch := some { day := 9131, secs := secs } } }

/-- A second handed to SCU. -/
def handedScu (s : State) : State :=
  settle { s with scu := { s.scu with marksHanded := true, tearsHanded := true } }

/-- A switch reached and one not, a second handed for the marks, and one for a pending-tear that is due. -/
theorem witness_HandedSecondIsTaken :
    let s := handedScu (torn { day := 9131, secs := 30000 })
    (handed 30000).formed ∧ (handed 30001).formed ∧ s.formed ∧ s.books ∧ s.sightingsKeyed
    ∧ (handed 30000).powered = true
    ∧ (handed 30000).fru.secondHanded = true ∧ (handed 30000).reached { day := 9131, secs := 30000 } = true
    ∧ (handed 30001).reached { day := 9131, secs := 30001 } = false
    ∧ s.powered = true ∧ s.fru.secondHanded = false ∧ s.scu.marksHanded = true ∧ s.scu.tearsHanded = true
    ∧ s.tears ≠ [] ∧ s.reached { day := 9131, secs := 30000 } = true :=
  ⟨formed_settle _ rfl, formed_settle _ rfl, formed_settle _ rfl, books_of _ (by decide +kernel),
    by unfold State.sightingsKeyed; decide +kernel, by decide +kernel⟩

/-- A change that opens FREE, one that leaves it, and one that a station mode of FREE keeps out of sight. -/
theorem witness_EmergencyChangesMode : base.formed ∧ base.powered = true ∧ base.svc.emerg ≠ true
    ∧ base.effMode ≠ .free ∧ base.lfc.allTaken = true
    ∧ 0 < base.free ∧ (after (.emergChange true) base).svc.emerg ≠ false
    ∧ (inMode .free base).svc.emerg ≠ true ∧ (inMode .free base).effMode = .free :=
  ⟨base_formed, by decide +kernel⟩

/-- The lane after a body has blocked beams 1 and 2. -/
def twoBeams : State :=
  settle (base.setPcu { base.pcu with beam1 := true, beam2 := true, episode := true, episodeDir := some .u })

theorem witness_BeamsMakeEpisodes : base.formed ∧ base.trackerOk ∧ twoBeams.formed ∧ twoBeams.trackerOk
    ∧ (let s := settle (twoBeams.setPcu { twoBeams.pcu with beam2 := false })
       s.trackerOk ∧ s.pcu.beam .b1 = true ∧ ∀ o, o ≠ Beam.b1 → s.pcu.beam o = false)
    ∧ base.powered = true ∧ base.pcu.beam .b1 = false
    ∧ base.pcu.episode = false ∧ twoBeams.pcu.beam .b3 = false
    ∧ twoBeams.pcu.episode = true ∧ twoBeams.pcu.beam .b1 = true ∧ Beam.b1 ≠ farBeam .u
    ∧ twoBeams.pcu.beam .b2 = true := by
  refine ⟨base_formed, base_tracker, formed_settle _ rfl, by unfold State.trackerOk; decide +kernel,
    ⟨by unfold State.trackerOk; decide +kernel, by decide +kernel, ?_⟩, by decide +kernel⟩
  intro o; cases o <;> decide +kernel

/-- Beam 4 blocked in an episode of direction UP, beam 1 and the inner neighbour of beam 4 blocked or clear. -/
def farState (first inner : Bool) (s : State) : State :=
  settle (s.setPcu { s.pcu with
    beam1 := first, beam3 := inner, beam4 := true, episode := true, episodeDir := some .u })

/-- One credit in the queue UP. -/
def single (s : State) : State :=
  settle { s with pcu := { s.pcu with queueUp := [credit none] }, rjn := { s.rjn with reserved := 1 } }

/-- The inner neighbour blocked; the last clear of the episode in each row of R117; a credit with the tag, at the last
clear and at one before it. -/
theorem witness_FarEndClearIsJudged :
    (∀ first inner, (farState first inner base).formed ∧ (farState first inner base).books
      ∧ (farState first inner base).powered = true ∧ (farState first inner base).pcu.episode = true
      ∧ (farState first inner base).pcu.episodeDir = some .u
      ∧ (farState first inner base).pcu.beam (farBeam .u) = true
      ∧ (farState first inner base).pcu.beam .b1 = first
      ∧ (farState first inner base).pcu.beam (innerBeam .u) = inner)
    ∧ (∀ o, o ≠ farBeam .u → (farState false false base).pcu.beam o = false)
    ∧ (farState false false opened).books ∧ (farState false false (tagCredit opened)).books
    ∧ (farState true false (tagCredit opened)).books
    ∧ (farState false false (single opened)).books ∧ (farState false false (single opening)).books
    ∧ (farState false false (single opened)).lfc.leaf = .opened .u
    ∧ (farState false false (single opened)).queue .u = [credit none]
    ∧ choice (after (.beamChange .b4 false) (farState false false (single opened))) = none
    ∧ choice (after (.beamChange .b4 false) (farState false false opened)) = some .u
    ∧ (farState false false (single opening)).lfc.leaf = .opening .u
    ∧ (farState false false (single opening)).lfc.grant = some .u
    ∧ (farState false false (single opening)).lfc.reversal = false
    ∧ (farState false false (single opening)).lfc.bothMade .closedSw = false
    ∧ (farState false false (inMode .free base)).effMode = .free
    ∧ (farState false false (inMode .exit base)).permits .u = false
    ∧ (farState false false base).permits .u = true ∧ (farState false false base).lfc.grant ≠ some .u
    ∧ (farState false false opened).lfc.grant = some .u
    ∧ (farState false false opened).queue .u = [credit (some card.number), credit none]
    ∧ ((farState false false (tagCredit opened)).queue .u).map Credit.audit = [true, false] := by
  refine ⟨?_, ?_, books_of _ (by decide +kernel), books_of _ (by decide +kernel), books_of _ (by decide +kernel),
    books_of _ (by decide +kernel), books_of _ (by decide +kernel), by decide +kernel⟩
  · intro first inner
    refine ⟨formed_settle _ rfl, books_of _ ?_, ?_⟩ <;> cases first <;> cases inner <;> decide +kernel
  · intro o; cases o <;> decide +kernel

/-- A switch change: in CLOSED, in an opening whose other leaf is at its target and one whose is not, in a driven close,
in FORCED, in FAULT, and the last switch after a start. -/
theorem witness_SwitchesMoveLeaves : base.formed ∧ base.leavesOk ∧ faulted.leavesOk ∧ opening.leavesOk
    ∧ closing.leavesOk ∧ slack.leavesOk
    ∧ (let s := leaves (fun l => { l with driveR := .brake, swRC := some true }) closing
       s.leavesOk ∧ s.lfc.drive .right = .brake ∧ choice s = none)
    ∧ (let s := leaves (fun l => { l with leaf := .forced, swLC := some false }) base
       s.leavesOk ∧ s.lfc.leaf = .forced ∧ s.lfc.sw .left .closedSw ≠ some true ∧ choice s = none)
    ∧ base.powered = true ∧ base.lfc.sw .left .closedSw = some true
    ∧ base.lfc.sw .left .closedSw ≠ some false ∧ faulted.lfc.leaf = .fault
    ∧ faulted.lfc.sw .left .openSw ≠ some true ∧ opening.lfc.leaf = .opening .u
    ∧ opening.lfc.sw .left .openSw ≠ some true ∧ opening.lfc.drive .right = .brake ∧ opening.queue .u ≠ []
    ∧ closing.lfc.leaf = .closing ∧ closing.lfc.paused = false ∧ closing.lfc.sw .left .closedSw ≠ some true
    ∧ closing.lfc.drive .right ≠ .brake ∧ slack.lfc.paused = true
    ∧ (slack.lfc.setSw .left .openSw (some false)).allTaken = true ∧ State.reset.lfc.allTaken = false ∧ State.reset.lfc.leaf ≠ .fault :=
  ⟨base_formed, base_leaves, leaves_of _ (by decide +kernel), leaves_of _ (by decide +kernel),
    leaves_of _ (by decide +kernel), leaves_of _ (by decide +kernel),
    ⟨leaves_of _ (by decide +kernel), by decide +kernel⟩, ⟨leaves_of _ (by decide +kernel), by decide +kernel⟩,
    by decide +kernel⟩

/-- The left leaf's third sample above the threshold, with a grant, without one, and as the third obstruction; a sample
at the threshold and a run below two; a leaf at its switch; a paused close; a close whose last switch is still untaken. -/
theorem witness_ObstructionsReverse : pausedClose.formed ∧ pausedClose.leavesOk ∧ closing.formed ∧ closing.leavesOk
    ∧ (let s := leaves (fun l => { l with runL := 2 }) closing
       s.leavesOk ∧ 2 ≤ s.lfc.run s.lfc.nextLeaf ∧ s.lfc.grant = some .u ∧ s.lfc.reversalCount < 2
       ∧ s.lfc.bothMade .openSw = false)
    ∧ (let s := leaves (fun l => { l with runL := 2, swLO := some true, swRO := some true }) closing
       s.leavesOk ∧ 2 ≤ s.lfc.run s.lfc.nextLeaf ∧ s.lfc.grant = some .u ∧ s.lfc.reversalCount < 2
       ∧ s.lfc.bothMade .openSw = true)
    ∧ (let s := leaves (fun l => { l with runL := 2, grant := none }) closing
       s.leavesOk ∧ s.lfc.grant = none ∧ s.lfc.reversalCount < 2)
    ∧ (let s := leaves (fun l => { l with runL := 2, reversalCount := 2 }) closing
       s.leavesOk ∧ s.lfc.reversalCount = 2)
    ∧ (let s := leaves (fun l => { l with driveL := .brake, swLC := some true }) closing
       s.leavesOk ∧ s.lfc.atClosed s.lfc.nextLeaf = true)
    ∧ (let s := leaves (fun l => { l with runL := 2, paused := false }) slack
       s.leavesOk ∧ s.lfc.atClosed s.lfc.nextLeaf = false ∧ 2 ≤ s.lfc.run s.lfc.nextLeaf ∧ s.lfc.allTaken = false)
    ∧ pausedClose.lfc.paused = true ∧ closing.powered = true ∧ closing.lfc.leaf = .closing
    ∧ closing.lfc.paused = false
    ∧ closing.lfc.atClosed closing.lfc.nextLeaf = false ∧ (700 : BitVec 10).toNat ≤ closing.setup.threshold
    ∧ closing.setup.threshold < (701 : BitVec 10).toNat ∧ closing.lfc.run closing.lfc.nextLeaf < 2 :=
  ⟨formed_settle _ rfl, leaves_of _ (by decide +kernel), formed_settle _ rfl, leaves_of _ (by decide +kernel),
    ⟨leaves_of _ (by decide +kernel), by decide +kernel⟩, ⟨leaves_of _ (by decide +kernel), by decide +kernel⟩,
    ⟨leaves_of _ (by decide +kernel), by decide +kernel⟩, ⟨leaves_of _ (by decide +kernel), by decide +kernel⟩,
    ⟨leaves_of _ (by decide +kernel), by decide +kernel⟩, ⟨leaves_of _ (by decide +kernel), by decide +kernel⟩,
    by decide +kernel⟩

/-- The leaf channels with their underflow due. -/
def leafDue (s : State) : State := settle (due .leafHold (due .leafMove s))

theorem witness_LeafTimersAct : (leafDue opened).formed ∧ (leafDue opened).leavesOk ∧ (leafDue pausedClose).leavesOk
    ∧ (leafDue base).leavesOk ∧ (leafDue closing).leavesOk ∧ (leafDue slack).leavesOk
    ∧ (leafDue slack).lfc.paused = true ∧ (leafDue slack).lfc.allTaken = false ∧ (leafDue pausedClose).lfc.allTaken = true
    ∧ (leafDue opened).powered = true
    ∧ ((leafDue opened).chan .leafHold).underflowDue = true ∧ (leafDue opened).lfc.leaf = .opened .u
    ∧ (leafDue opened).lfc.bothMade .closedSw = false ∧ (leafDue pausedClose).lfc.paused = true
    ∧ (leafDue pausedClose).lfc.bothMade .closedSw = false ∧ (leafDue base).lfc.leaf = .closed
    ∧ ((leafDue closing).chan .leafMove).underflowDue = true ∧ (leafDue closing).lfc.leaf = .closing :=
  ⟨formed_settle _ rfl, leaves_of _ (by decide +kernel), leaves_of _ (by decide +kernel),
    leaves_of _ (by decide +kernel), leaves_of _ (by decide +kernel), leaves_of _ (by decide +kernel), by decide +kernel⟩

theorem witness_TimerSignalsAct :
    let s := settle (due .windowUp (due .occupancy (due .signal (base.setSgu { base.sgu with
      tone := some .refuse, pulses := 2, flashU := some 5 }))))
    s.powered = true ∧ s.formed ∧ (s.chan (windowOf .u)).compareDue = true ∧ (s.chan .occupancy).underflowDue = true
      ∧ (s.chan .signal).compareDue = true ∧ (s.chan .signal).underflowDue = true ∧ 1 < s.sgu.pulses
      ∧ base.sgu.pulses ≤ 1 ∧ s.flash .u = some 5 ∧ 2147483647 < (s.svc.tickCount - 5).toNat
      ∧ ((5 : Word32) - 5).toNat ≤ 2147483647 := by
  refine ⟨by decide +kernel, formed_settle _ rfl, ?_⟩
  decide +kernel

theorem witness_CreditExpires :
    let s := settle (due .windowUp opened)
    s.formed ∧ s.books ∧ (settle (due .windowUp base)).books ∧ (settle (due .windowUp (tagCredit opened))).books
    ∧ s.powered = true ∧ (s.chan (windowOf .u)).underflowDue = true
    ∧ s.queue .u = credit (some card.number) :: [credit none] ∧ s.sighting card.number = some seenCard
    ∧ s.lfc.leaf = .opened .u ∧ (settle (due .windowUp base)).queue .u = [] :=
  ⟨formed_settle _ rfl, books_of _ (by decide +kernel), books_of _ (by decide +kernel),
    books_of _ (by decide +kernel), by decide +kernel⟩

/-- Slot P awaiting its write while 32 pending-tears stand. -/
def fullTears : State :=
  let s := slotted .accept
  settle { s with
    scu := { s.scu with sightings := s.scu.sightings ++ (List.range 32).map fun i =>
      { seenCard with card := i + 1, tear := some { tearOf { day := 9132, secs := 0 } with tearSeq := BitVec.ofNat 32 (i + 1) } } }
    rjn := { s.rjn with reserved := 67 } }

/-- A side and an outcome outside their sets, a FREE slot and another tag; an underflow with the slot FREE; each
report of an uncertain write, tagged, and with 32 tears of which one is the earliest. -/
theorem witness_UncertainMakesTear : base.laneOpen ∧ base.formed ∧ (slotted .accept).formed ∧ base.books
    ∧ (let s := settle (due .writeP (slotted .accept))
       s.formed ∧ s.books ∧ s.powered = true ∧ (s.chan (writeOf .p)).underflowDue = true
       ∧ s.slot .p = some (waiting .accept) ∧ s.tears.length < 32)
    ∧ fullTears.books ∧ fullTears.formed ∧ fullTears.laneOpen ∧ taggedSlot.books
    ∧ ((3 : Byte) ≠ 1 ∧ (3 : Byte) ≠ 2) ∧ (4 : Byte) ≠ 3 ∧ base.slot .u = none
    ∧ (waiting .accept).newTag.toNat ≠ 0 * 256 + 1 ∧ ((due .writeP base).chan (writeOf .p)).underflowDue = true
    ∧ (due .writeP base).slot .p = none ∧ fullTears.tears.length = 32
    ∧ (fullTears.tears.all fun z => z.1 == 1 || stampLater 1 z.2.tearSeq) = true
    ∧ (taggedSlot.slot .p).map Slot.audit = some true :=
  ⟨base_open, base_formed, formed_settle _ rfl, base_books,
    ⟨formed_settle _ rfl, books_of _ (by decide +kernel), by decide +kernel⟩,
    books_of _ (by decide +kernel), formed_settle _ rfl, ⟨by decide +kernel, rfl⟩, books_of _ (by decide +kernel),
    by decide +kernel⟩

/-- One state for each refusal of step 1, in the order of R34. -/
theorem witness_AvailabilityRefusesEarly : base.laneOpen ∧ base.formed ∧ base.readinessOk
    ∧ (inMode .free base).formed
    ∧ (let s := settle (base.setPcu { base.pcu with queueUp := List.replicate 4 (credit none) })
       s.formed ∧ s.slot .u = none ∧ 4 ≤ (s.queue .u).length + (s.claim .u).toNat)
    ∧ (List.replicate 48 (0 : Byte)).length = 48 ∧ (0 : Byte) ≠ 1 ∧ (0 : Byte) ≠ 2
    ∧ (inMode .free base).effMode = .free
    ∧ (inMode .closed base).svc.reasons.empty = false ∧ (inMode .exit base).permits .u = false
    ∧ (slotted .accept).permits .p = true ∧ (slotted .accept).slot .p ≠ none :=
  ⟨base_open, base_formed, base_ready, formed_settle _ rfl, ⟨formed_settle _ rfl, by decide +kernel⟩,
    by decide +kernel⟩

/-- A class of 8 is form condition 3; a check value of 0 passes under no key. -/
theorem witness_UnsoundImagesRefused : Presentable base .u
    ∧ (let im := imageOf base { card with cls := 8 }
       im.length = 48 ∧ formFault (readCard im) = some 3)
    ∧ (let im := cardBytes card ++ [0, 0, 0, 0]
       im.length = 48 ∧ formFault (readCard im) = none
       ∧ (crc32 0x11223344 (im.take 44)).toNat ≠ field im 44 4 ∧ base.rck.previous = none) :=
  ⟨base_presentable _, by decide +kernel, by decide +kernel⟩

theorem sound_of (s : State) (x : Side) (im : List Byte) (h : (im.length = 48 ∧ formFault (readCard im) = none
    ∧ recordPasses s im = true) ∧ (readCard im).flags.getLsbD 1 = false ∧ s.slot (Side.other x) = none) :
    Sound s x im :=
  ⟨h.1, h.2.1, by simp [h.2.2]⟩

theorem screened (s : State) (x : Side) (im : List Byte) (h : (im.length = 48 ∧ formFault (readCard im) = none
    ∧ recordPasses s im = true) ∧ (readCard im).flags.getLsbD 1 = false ∧ s.slot (Side.other x) = none)
    (h2 : s.sighting (readCard im).number = none) : Screened s x im :=
  ⟨sound_of s x im h, by simp [h2]⟩

/-- The card sighted at its own sequence and tag. -/
def sighted : State := settle (base.setScu { base.scu with sightings := [seenCard] })

/-- The card's pending-tear stands until 40000. -/
def tornLong : State := torn { day := 9131, secs := 40000 }

theorem sighted_presentable : Presentable sighted .p :=
  presentable_of (formed_settle _ rfl) (by decide +kernel) base_ready (by decide +kernel)

theorem tornLong_presentable (x : Side) : Presentable tornLong x := by
  refine presentable_of (formed_settle _ rfl) (by decide +kernel) base_ready ?_
  cases x <;> decide +kernel

theorem slotted_presentable : Presentable (slotted .accept) .u :=
  presentable_of (formed_settle _ rfl) (by decide +kernel) base_ready (by decide +kernel)

/-- BLOCKED without a tear, with one that the old image resolves and one at row 6; CONCURRENT with slot P's card; CLONE
one sequence behind, and at row 6. -/
theorem witness_ScreeningRefuses : Presentable base .p ∧ (∀ x, Presentable tornLong x)
    ∧ Presentable (slotted .accept) .u ∧ Presentable sighted .p
    ∧ (let im := imageOf base { card with flags := 3 }
       Readable base im ∧ Readable tornLong im ∧ (readCard im).flags.getLsbD 1 = true
       ∧ tearVerdict (tearOf { day := 9131, secs := 40000 }) (readCard im).seq (readCard im).tag = some false)
    ∧ Readable (slotted .accept) image
    ∧ Sound sighted .p (imageOf base { card with seq := 1203 })
    ∧ Sound tornLong .p (imageOf base { card with tag := 5 })
    ∧ base.sighting card.number = none ∧ (readCard image).flags.getLsbD 1 = false
    ∧ (slotted .accept).slot .p = some (waiting .accept) ∧ (waiting .accept).card = (readCard image).number
    ∧ sighted.sighting card.number = some seenCard ∧ seqOrder 1203 seenCard.seq = .behind
    ∧ tearVerdict (tearOf { day := 9131, secs := 40000 }) 1204 5 = none :=
  ⟨base_presentable _, tornLong_presentable, slotted_presentable, sighted_presentable,
    ⟨by unfold Readable; decide +kernel, by unfold Readable; decide +kernel, by decide +kernel⟩,
    by unfold Readable; decide +kernel, sound_of _ _ _ (by decide +kernel), sound_of _ _ _ (by decide +kernel),
    by decide +kernel⟩

/-- An open entry of the own station 200 s old; an open entry of another with too little money for its penalty; a
balance below the minimum; an exit beyond the overdraft. -/
theorem witness_ChargesRefused :
    let back : Card := { card with entryStation := 2609, entrySecs := 29800 }
    let poor : Card := { card with balance := 100 }
    let low : Card := { freshCard with balance := 299 }
    (∀ x, Presentable base x) ∧ Screened base .u (imageOf base back) ∧ Screened base .u (imageOf base poor)
      ∧ Screened base .u (imageOf base low) ∧ Screened base .p (imageOf base poor)
      ∧ base.scu.deny = [] ∧ isPassback base back = true ∧ isPassback base poor = false
      ∧ entryPurse base poor (classifyEntry base poor) = some 2 ∧ isPassback base low = false
      ∧ entryPurse base low (classifyEntry base low) = some 1 ∧ (classifyExit base poor).rating.passed = false :=
  ⟨base_presentable, screened _ _ _ (by decide +kernel) rfl, screened _ _ _ (by decide +kernel) rfl,
    screened _ _ _ (by decide +kernel) rfl, screened _ _ _ (by decide +kernel) rfl, by decide +kernel⟩

/-- The lane with the card's block of 8 numbers denied. -/
def denying : State :=
  settle { base with scu := { base.scu with
    deny := [{ base := 30117440, width := 3, reason := .stolen, origin := .station, day := 9131, secs := 1 }] } }

theorem denying_presentable : Presentable denying .p :=
  presentable_of (formed_settle _ rfl) (by decide +kernel) base_ready (by decide +kernel)

theorem witness_DeniedCardIsBlocked : Presentable denying .p ∧ Screened denying .p image ∧ denying.setup.ok
    ∧ denying.rck.current ≠ none ∧ denying.setup.stationCode < 65536
    ∧ ∃ e ∈ denying.scu.deny, e.base ≤ (readCard image).number ∧ (readCard image).number < e.base + 2 ^ e.width :=
  ⟨denying_presentable, screened _ _ _ (by decide +kernel) rfl, base_setup, by decide +kernel⟩

/-- Untagged and with the sampler ARMED. -/
theorem witness_AcceptedCardIsWritten : (∀ x, Presentable base x)
    ∧ Screened base .u (imageOf base freshCard) ∧ Screened base .p image ∧ base.setup.ok ∧ base.clockOk
    ∧ (let s := settle (base.setAds { base.ads with phase := .armed .station })
       Presentable s .p ∧ Screened s .p image ∧ s.ads.phase = .armed .station)
    ∧ base.rck.current ≠ none ∧ 0 < base.setup.stationCode ∧ base.setup.stationCode < 65536 ∧ base.scu.deny = []
    ∧ isPassback base freshCard = false
    ∧ entryPurse base freshCard (classifyEntry base freshCard) = none
    ∧ (classifyExit base card).rating.passed = true :=
  ⟨base_presentable, screened _ _ _ (by decide +kernel) rfl, screened _ _ _ (by decide +kernel) rfl, base_setup,
    base_clock, ⟨presentable_of (formed_settle _ rfl) (by decide +kernel) base_ready (by decide +kernel),
      screened _ _ _ (by decide +kernel) rfl, rfl⟩, by decide +kernel⟩

/-- The card with an unused-credit mark toward PU, one second before its deadline. -/
def markedCard : State :=
  settle (base.setScu { base.scu with
    sightings := [{ seenCard with mark := some { dir := .p, deadline := { day := 9131, secs := 30001 } } }]
    markOrder := [card.number] })

theorem witness_ReopenAccepts : Presentable markedCard .p ∧ Sound markedCard .p image
    ∧ Consistent (readCard image) seenCard
    ∧ markedCard.sighting (readCard image).number
      = some { seenCard with mark := some { dir := .p, deadline := { day := 9131, secs := 30001 } } }
    ∧ markedCard.reached { day := 9131, secs := 30001 } = false ∧ markedCard.lfc.leaf = .closed
    ∧ choice markedCard = none ∧ toneStarts markedCard .accept = true :=
  ⟨presentable_of (formed_settle _ rfl) (by decide +kernel) base_ready (by decide +kernel),
    sound_of _ _ _ (by decide +kernel), .inl (by decide +kernel), by decide +kernel⟩

/-- The old image: accepted at P, denied, and a passback at U; the new image at the tear's side. -/
theorem witness_TearRowsScreen :
    let back : Card := { card with entryStation := 2609, entrySecs := 29800 }
    let done : Card := { clearEntry card with flags := 0, seq := 1205, tag := 58498, balance := 1160 }
    let r := tearOf { day := 9131, secs := 40000 }
    let denied := settle (tornLong.setScu { tornLong.scu with deny := denying.scu.deny })
    (∀ x, Presentable tornLong x) ∧ Presentable denied .p ∧ Sound tornLong .p image
      ∧ Sound denied .p image ∧ Sound tornLong .u (imageOf base back) ∧ Sound tornLong .p (imageOf base done)
      ∧ tornLong.sighting card.number = some { seenCard with tear := some r }
      ∧ tearVerdict r (readCard image).seq (readCard image).tag = some false ∧ (readCard image).seq ≠ r.newSeq
      ∧ (classifyExit tornLong (readCard image)).rating.passed = true ∧ tornLong.scu.deny = []
      ∧ isPassback tornLong back = true ∧ done.seq = r.newSeq ∧ done.tag = r.newTag ∧ r.side = .p
      ∧ r.kind = .accept :=
  ⟨tornLong_presentable, presentable_of (formed_settle _ rfl) (by decide +kernel) base_ready (by decide +kernel),
    sound_of _ _ _ (by decide +kernel), sound_of _ _ _ (by decide +kernel), sound_of _ _ _ (by decide +kernel),
    sound_of _ _ _ (by decide +kernel), by decide +kernel⟩

/-- A DONE of an ACCEPT that stands, of one whose direction is not permitted, and of a REFUSE_AND_WRITE. -/
theorem witness_DoneMakesCredit : (slotted .accept).laneOpen ∧ (slotted .accept).formed ∧ (slotted .accept).books
    ∧ (slotted .refuseAndWrite).books ∧ (inMode .entry (slotted .accept)).formed
    ∧ (inMode .entry (slotted .accept)).books ∧ (slotted .accept).slot .p = some (waiting .accept)
    ∧ (slotted .accept).permits .p = true ∧ (slotted .accept).lfc.leaf = .closed
    ∧ choice (slotted .accept) = none ∧ toneStarts (slotted .accept) .accept = true
    ∧ (slotted .refuseAndWrite).slot .p = some (waiting .refuseAndWrite)
    ∧ (inMode .entry (slotted .accept)).permits .p = false :=
  ⟨⟨by decide +kernel, by decide +kernel⟩, formed_settle _ rfl, books_of _ (by decide +kernel),
    books_of _ (by decide +kernel), formed_settle _ rfl, books_of _ (by decide +kernel), by decide +kernel⟩

theorem witness_NotWrittenVoidsCharge : (slotted .accept).laneOpen ∧ (slotted .accept).formed
    ∧ (slotted .accept).books ∧ taggedSlot.books
    ∧ (slotted .accept).slot .p = some (waiting .accept) ∧ (waiting .accept).audit = false :=
  ⟨⟨by decide +kernel, by decide +kernel⟩, formed_settle _ rfl, books_of _ (by decide +kernel),
    books_of _ (by decide +kernel), by decide +kernel⟩

/-- A direction that is none, one not permitted, a full queue, a FAULT, and the passes in CLOSED and in OPEN(UP). -/
theorem witness_StaffPassMakesCredit : base.laneOpen ∧ base.formed ∧ (0 : Byte) ≠ 1 ∧ (0 : Byte) ≠ 2
    ∧ (inMode .exit base).permits .u = false
    ∧ (let s := settle (base.setPcu { base.pcu with queueUp := List.replicate 4 (credit none) })
       (laneLive s = true ∧ s.lpt.responseSlot = none) ∧ s.permits .u = true
       ∧ 4 ≤ (s.queue .u).length + (s.claim .u).toNat)
    ∧ faulted.permits .u = true ∧ faulted.lfc.leaf = .fault ∧ base.permits .u = true
    ∧ (base.queue .u).length + (base.claim .u).toNat < 4 ∧ 2 ≤ base.free ∧ base.lfc.leaf = .closed
    ∧ (let s := settle (opened.setPcu { opened.pcu with queueUp := [] })
       s.permits .u = true ∧ s.lfc.leaf = .opened .u ∧ s.queue .u = [] ∧ 2 ≤ s.free) :=
  ⟨base_open, base_formed, by decide +kernel⟩

theorem witness_HoldAndCueAct : base.laneOpen ∧ base.formed
    ∧ (let s := base.setSgu { base.sgu with tone := some .cue }
       s.laneOpen ∧ s.formed ∧ s.sgu.tone ≠ none ∧ s.sgu.tone = some .cue)
    ∧ 8 < (9 : Byte).toNat ∧ 0 < (8 : Byte).toNat ∧ (8 : Byte).toNat ≤ 8 ∧ base.sgu.tone = none
    ∧ Tone.accept ≠ .cue :=
  ⟨base_open, base_formed, ⟨⟨by decide +kernel, by decide +kernel⟩,
    formed_settle (base.setSgu { base.sgu with tone := some .cue }) rfl, by decide +kernel⟩, by decide +kernel⟩

theorem witness_ReportsChangeNothing : base.formed ∧ base.hearsVia reqLaneStatus .lane
    ∧ base.hearsVia reqLaneStatus (.station 12 0) ∧ base.clockOk
    ∧ (let s := base.setAds { base.ads with
         phase := .valid, sample := some (verdictPart base card .p .accept .ok .nothing) }
       s.formed ∧ s.ads.phase = .valid ∧ s.ads.sample.isSome = true)
    ∧ linkLive base = true ∧ classOf base 12 = some .own ∧ base.scu.deny.length ≤ 2048
    ∧ base.ads.phase ≠ .valid :=
  ⟨base_formed, base_open, base_own _, base_clock, ⟨base_formed, rfl, rfl⟩, by decide +kernel⟩

/-- The masks 0, 0x1F (an empty body) and 0x20; a pair in the set and one outside it. -/
theorem witness_NoticeSetsAreCollected : base.formed ∧ base.hearsVia reqNoticeFetch .lane
    ∧ base.hearsVia reqNoticeFetch (.station 12 0)
    ∧ base.hearsVia reqNoticeMask .lane ∧ base.hearsVia reqNoticeMask (.station 12 0)
    ∧ (0x20 : Byte) &&& 0xE0 ≠ 0 ∧ (0x1F : Byte) &&& 0xE0 = 0 ∧ (0x1F : Byte) ≠ 0
    ∧ (∃ n ∈ base.noticesVia .lane, n.cause.code = (1 : Byte).toNat) ∧ (2 : Byte).toNat ≤ 2
    ∧ ¬∃ n ∈ base.noticesVia .lane, n.cause.code = (2 : Byte).toNat :=
  ⟨base_formed, base_open, base_own _, base_open, base_own _, by decide +kernel⟩

/-- An uncollected sequence, one beyond the newest, one before the oldest; an overrun with no place free. -/
theorem witness_JournalReleaseFreesPlaces : base.formed ∧ base.books ∧ base.readinessOk
    ∧ (let s := settle { base with
         rjn := { base.rjn with
           journal := List.replicate 4096 coldStartEntry, low := true, stop := true, overrun := 1 }
         svc := { base.svc with reasons := { noReasons with journalStop := true } } }
       s.formed ∧ s.books ∧ s.free = 0 ∧ 0 < s.rjn.overrun)
    ∧ linkLive base = true ∧ classOf base 12 = some .own
    ∧ (1 - base.rjn.oldest : Word32).toNat < base.rjn.journal.length
    ∧ (2 - base.rjn.oldest : Word32).toNat ≤ 2147483647
    ∧ 2147483647 < (0 - base.rjn.oldest : Word32).toNat :=
  ⟨base_formed, base_books, base_ready, ⟨formed_settle _ rfl, books_of _ (by decide +kernel), by decide +kernel⟩,
    by decide +kernel⟩

/-- Bodies for each stage: nothing, an add with reason LOCAL_CLONE, a base version of 1, and one good add; by own
address and by broadcast. -/
theorem witness_DenyRequestsAct : base.formed ∧ base.hears reqDenyDelta 12 ∧ base.hears reqDenyDelta 255
    ∧ base.hears reqDenyWipe 12
    ∧ base.hears reqDenyWipe 255 ∧ ¬9 ≤ ([] : List Byte).length
    ∧ (let ops := readDenyOps 1 [1, 0, 0, 0, 5, 0, 4]
       ops = [{ op := 1, base := 5, width := 0, reason := 4 }])
    ∧ field [0, 0, 0, 1, 0, 0, 0, 2, 0] 0 4 ≠ base.scu.denyVersion.toNat
    ∧ (denyApplyAll base.now (readDenyOps 1 [1, 0, 0, 0, 5, 0, 1]) base.denyWork).isSome = true
    ∧ denyApplyAll base.now [{ op := 1, base := 5, width := 0, reason := 1 }]
        { entries := List.replicate 2048 { base := 1, width := 0, reason := .stolen, origin := .station, day := 1, secs := 1 }
          locals := [], evicted := 0 } = none :=
  ⟨base_formed, base_own _, base_all _ rfl, base_own _, base_all _ rfl, by decide +kernel⟩

/-- The range of the fields at its ends; no entry, an entry, an entry with a pending-tear; each order of sequences. -/
theorem witness_SightingsAreMerged : base.formed ∧ base.books ∧ base.hears reqSighting 12
    ∧ base.hears reqSighting 255 ∧ credited.formed
    ∧ credited.books ∧ credited.hears reqSighting 12
    ∧ (let s := torn { day := 9131, secs := 40000 }
       s.formed ∧ s.books ∧ s.hears reqSighting 12
       ∧ s.sighting card.number = some { seenCard with tear := some (tearOf { day := 9131, secs := 40000 }) })
    ∧ base.sighting 5 = none ∧ (65535 : Nat) < 65536 ∧ credited.sighting card.number = some seenCard
    ∧ seenCard.tear = none ∧ seqOrder 1205 seenCard.seq = .ahead ∧ seqOrder 1203 seenCard.seq = .behind
    ∧ (1 : Word16) ≠ seenCard.tag ∧ seqOrder 1206 1205 = .ahead ∧ seqOrder 1204 1205 = .behind
    ∧ seqOrder 1203 1205 = .behind :=
  ⟨base_formed, base_books, base_own _, base_all _ rfl, formed_settle _ rfl, books_of _ (by decide +kernel),
    hears_own _ _ (by decide +kernel), ⟨formed_settle _ rfl, books_of _ (by decide +kernel),
    hears_own _ _ (by decide +kernel), by decide +kernel⟩, by decide +kernel⟩

/-- The lane with the same VALID bank in STANDBY. -/
def standby : State := settle { base with fru := { base.fru with bankB := base.fru.bankA } }

theorem standby_ready : standby.readinessOk := by
  exact ⟨by unfold State.reasonsTold; decide +kernel, by unfold State.spaceJudged; decide +kernel, bank_ok,
    bank_ok, fun _ => rfl⟩

/-- No data; data that end at 704 and one byte beyond; a wrong total, a wrong check, a sound image out of range and one
in range. -/
theorem witness_FareImagesLoad : base.formed ∧ base.readinessOk ∧ base.hears reqFareChunk 12
    ∧ base.hears reqFareChunk 255
    ∧ base.hears reqFareClose 12 ∧ standby.formed ∧ standby.readinessOk
    ∧ fieldFault standby.standbyBank.buffer = none ∧ 704 < (703 : Word16).toNat + [(1 : Byte), 2].length
    ∧ (702 : Word16).toNat + [(1 : Byte), 2].length ≤ 704 ∧ (703 : Word16) ≠ 704
    ∧ fieldFault base.standbyBank.buffer = some 0 :=
  ⟨base_formed, base_ready, base_own _, base_all _ rfl, base_own _, formed_settle _ rfl, standby_ready,
    bank_sound, by decide +kernel⟩

theorem witness_FareSwitchSwapsOrWaits : base.formed ∧ base.readinessOk ∧ base.hears reqFareSwitch 12
    ∧ base.hears reqFareSwitch 255 ∧ standby.formed
    ∧ standby.readinessOk ∧ standby.hears reqFareSwitch 12 ∧ base.standbyBank.valid = false
    ∧ standby.standbyBank.valid = true ∧ (2 : Byte) ≠ 0 ∧ (2 : Byte) ≠ 1
    ∧ ¬(1 ≤ 65535 ∧ 65535 ≤ 65534 ∧ 0 ≤ 86399) ∧ (1 ≤ 65534 ∧ 65534 ≤ 65534 ∧ 86399 ≤ 86399) :=
  ⟨base_formed, base_ready, base_own _, base_all _ rfl, formed_settle _ rfl, standby_ready,
    hears_own _ _ (by decide +kernel), by decide +kernel⟩

/-- A card of each row: an open entry of another station, none, a staff card, a pass in its zones, an entry too old, one
of the own station within the grace, and one beyond it. -/
theorem witness_FareClassesAreChosen :
    let pass : Card := { card with kindCode := 2, passFirst := 9131, passLast := 9131, passLow := 2, passHigh := 4 }
    base.banksOk ∧ base.activeBank.valid = true ∧ base.setup.zone ≤ 15 ∧ card.flags.getLsbD 0 = true ∧ card.kindCode ≠ 3
    ∧ freshCard.flags.getLsbD 0 = false ∧ { card with kindCode := 3 }.kindCode = 3
    ∧ pass.passCovers 9131 2 = true ∧ pass.passCovers 9131 4 = true
    ∧ field base.fares 668 2 * 60 < entryAge base { card with entryDay := 9130 }
    ∧ entryAge base card ≤ field base.fares 668 2 * 60
    ∧ entryAge base { card with entryStation := 2609, entrySecs := 29000 } ≤ field base.fares 664 2 * 60
    ∧ base.setup.stationCode = 2609 ∧ card.entryStation ≠ base.setup.stationCode :=
  ⟨⟨bank_ok, reset_bank_ok, fun h => nomatch h⟩, by decide +kernel⟩

theorem witness_JourneyFareRunsItsStages : bank.buffer.length = 704 ∧ fieldFault bank.buffer = none ∧ 15 ≤ 15
    ∧ card.entryZone ≤ 15 ∧ card.cls ≤ 7 :=
  ⟨bank_length, bank_sound, by decide +kernel⟩

/-- Day 0 and day 65,535; a step of 300 s and one of 301 s; a switch reached by a second handed, and one that no second
is handed for. -/
theorem witness_ClockSetTakesTime : base.formed ∧ base.hears reqClockSet 12 ∧ base.hears reqClockSet 255
    ∧ (handed 30000).formed ∧ (handed 30000).hears reqClockSet 12
    ∧ ¬1 ≤ 0 ∧ ¬65535 ≤ 65534 ∧ base.svc.timeKnown = true
    ∧ (300 : Int) < ((9131 : Int) - base.svc.day) * 86400 + (30301 - base.svc.secs)
    ∧ ¬(300 : Int) < ((9131 : Int) - base.svc.day) * 86400 + (30300 - base.svc.secs) ∧ 0 < base.free
    ∧ base.fru.secondHanded = false ∧ base.scu.marksHanded = false ∧ base.scu.tearsHanded = false
    ∧ (handed 30000).fru.pendingSwitch = some { day := 9131, secs := 30000 }
    ∧ (handed 30000).fru.secondHanded = true ∧ (handed 30000).reached { day := 9131, secs := 30000 } = true
    ∧ base.fru.pendingSwitch = none :=
  ⟨base_formed, base_own _, base_all _ rfl, formed_settle _ rfl, hears_own _ _ (by decide +kernel), by decide +kernel⟩

theorem witness_KeyLoadMovesKeys : base.formed ∧ base.hears reqKeyLoad 12 ∧ base.hears reqKeyLoad 255
    ∧ base.rck.current = some { word := 0x11223344, label := 7 } ∧ (0x11223344 : Word32) ≠ 0 ∧ 0 < base.free :=
  ⟨base_formed, base_own _, base_all _ rfl, by decide +kernel⟩

/-- The values 0, 5 and 6; the mode it has, another, FREE, and a FAULT. -/
theorem witness_LaneModeTakesEffect : base.formed ∧ base.books ∧ base.hears reqLaneMode 12
    ∧ base.hears reqLaneMode 255 ∧ faulted.formed
    ∧ faulted.books ∧ credited.books ∧ 5 < (6 : Byte).toNat ∧ (5 : Byte) = Mode.free.code
    ∧ base.effMode = .both ∧ base.pcu.freePeriod.isOpen = false ∧ base.lfc.allTaken = true
    ∧ faulted.lfc.leaf = .fault ∧ credited.queue .u ≠ [] ∧ Mode.exit.permits .u = false :=
  ⟨base_formed, base_books, base_own _, base_all _ rfl, formed_settle _ rfl, books_of _ (by decide +kernel),
    books_of _ (by decide +kernel), by decide +kernel⟩

theorem witness_LaneSetupIsClamped : base.formed ∧ base.hears reqLaneSetup 12 := ⟨base_formed, base_own _⟩

theorem witness_AuditIsSetTaggedReleased : base.formed ∧ linkLive base = true ∧ classOf base 12 = some .own
    ∧ 1 < (2 : Byte).toNat
    ∧ (1 : Byte).toNat ≤ 1 ∧ base.ads.phase = .idle
    ∧ (base.setAds { base.ads with phase := .valid }).ads.phase = .valid :=
  ⟨base_formed, by decide +kernel⟩

/-- The close of `closing` with its right leaf at its switch and a tagged credit waiting. -/
def waitingTag : State :=
  leaves (fun l => { l with grant := none, driveR := .brake, swRC := some true })
    (tagCredit (closing.setPcu credited.pcu |>.setRjn credited.rjn))

/-- A DONE of a tagged slot, granted at once, with the grant its own already, and with the leaves open the other way; a
close that completes before a tagged credit. -/
theorem witness_AuditFollowsTag : taggedSlot.laneOpen ∧ taggedSlot.formed ∧ taggedSlot.books
    ∧ (let s := leaves (fun l => { l with leaf := .opened .p, grant := some .p }) taggedSlot
       s.books ∧ s.laneOpen ∧ s.lfc.grant = some .p ∧ s.permits .p = true)
    ∧ (let s := leaves (fun l => { l with leaf := .opened .u, grant := some .u }) taggedSlot
       s.books ∧ s.laneOpen ∧ s.lfc.leaf = .opened .u)
    ∧ waitingTag.formed ∧ waitingTag.books ∧ waitingTag.leavesOk
    ∧ taggedSlot.slot .p = some { waiting .accept with audit := true } ∧ taggedSlot.permits .p = true
    ∧ taggedSlot.lfc.leaf = .closed ∧ choice taggedSlot = none ∧ taggedSlot.ads.grantTick = none
    ∧ waitingTag.powered = true ∧ waitingTag.lfc.leaf = .closing ∧ waitingTag.lfc.paused = false
    ∧ waitingTag.lfc.allTaken = true ∧ waitingTag.lfc.sw .left .closedSw = some false
    ∧ waitingTag.lfc.sw .left .openSw = some false ∧ waitingTag.lfc.drive .right = .brake
    ∧ choice waitingTag = some .u ∧ (waitingTag.queue .u).map Credit.audit = [true, false] :=
  ⟨⟨by decide +kernel, rfl⟩, formed_settle _ rfl, books_of _ (by decide +kernel),
    ⟨books_of _ (by decide +kernel), ⟨by decide +kernel, rfl⟩, by decide +kernel⟩,
    ⟨books_of _ (by decide +kernel), ⟨by decide +kernel, rfl⟩, by decide +kernel⟩,
    formed_settle _ rfl, books_of _ (by decide +kernel), leaves_of _ (by decide +kernel), by decide +kernel⟩

/-- The lane with a card in its queue of commands. -/
def queued : State := base.setPending [.laneHold []]

theorem witness_StepKeepsOutputsFormed : queued.formed ∧ step queued = .next (after (.laneHold []) base) :=
  ⟨base_formed, rfl⟩

theorem witness_StepOnlyAppendsEntries : queued.journalRun ∧ step queued = .next (after (.laneHold []) base)
    ∧ queued.pending = .laneHold [] :: [] ∧ (∀ a r, Instr.laneHold [] ≠ .coldStart a r) := by
  refine ⟨?_, rfl, rfl, by simp⟩
  show endsAt 2 [coldStartEntry]
  exact ⟨by decide +kernel, trivial⟩

theorem witness_StepKeepsBooks : queued.books ∧ queued.readinessOk
    ∧ step queued = .next (after (.laneHold []) base) :=
  ⟨base_books, base_ready, rfl⟩

theorem witness_StepKeepsLeafLaw : queued.leavesOk ∧ step queued = .next (after (.laneHold []) base) :=
  ⟨base_leaves, rfl⟩

theorem witness_StepKeepsReadiness : queued.readinessOk ∧ step queued = .next (after (.laneHold []) base) :=
  ⟨base_ready, rfl⟩

theorem base_filters : base.filtersOk := by
  intro i
  cases i with
  | beam b => cases b <;> decide +kernel
  | switch l w => cases l <;> cases w <;> decide +kernel
  | emerg => decide +kernel

theorem base_channels : base.channelsOk := by
  intro i
  unfold Channel.ok
  cases i <;> decide +kernel

theorem base_times : base.timesOk := ⟨base_setup, base_channels, base_clock, base_tracker, base_filters⟩

theorem base_deny : base.denyOk := by
  have h : base.scu.deny = [] := rfl
  have h2 : base.scu.denyLocal = [] := rfl
  simp [State.denyOk, State.denyListed, State.localsListed, h, h2, denySorted]

theorem witness_StepKeepsRecords : step queued = .next (after (.laneHold []) base) ∧ queued.timesOk ∧ queued.denyOk :=
  ⟨rfl, base_times, base_deny⟩

theorem witness_ServiceChangeIsToldOnce : (∀ a r, Instr.laneHold [] ≠ .coldStart a r)
    ∧ (∀ a r, Instr.laneHold [] ≠ .warmStart a r) ∧ base.formed
    ∧ exec (.laneHold []) base = .next (after (.laneHold []) base)
    ∧ (after (.laneHold []) base).svc.reasons ≠ base.svc.reasons :=
  ⟨by simp, by simp, base_formed, rfl, by decide +kernel⟩

/-! ## The manual's examples and worked sequences, one value or one command each -/

/-- Section 1.5, the examples of the comparison. -/
theorem test_sequence_order : seqOrder 1200 1200 = .equal ∧ seqOrder 0 65535 = .ahead ∧ seqOrder 1203 1200 = .ahead
    ∧ seqOrder 1197 1200 = .behind ∧ seqOrder 33968 1200 = .behind ∧ seqOrder 33967 1200 = .ahead := by decide +kernel

/-- Sections 1.8, 3.9, 5.5 and 10.5. -/
theorem test_write_tags : writeTag 1 12 = 43587 ∧ writeTag 2 12 = 18554 ∧ writeTag 58 12 = 58498
    ∧ writeTag 200 12 = 42756
    ∧ writeTag 310 14 = 42152 ∧ writeTag 201 12 = 17723 ∧ writeTag 700 12 = 43632 ∧ writeTag 701 12 = 18599 := by
  decide +kernel

/-- R75: half-way rounds up, an odd unit decides by F4 + 2. -/
theorem test_fare_rounding : stageRound 212 5 = 210 ∧ stageRound 213 5 = 215 ∧ stageRound 215 10 = 220
    ∧ stageRound 260 1 = 260 ∧ stageRound 0 100 = 0 := by decide +kernel

/-- Section 5.1, the examples of matching. -/
theorem test_narrowest_deny_entry :
    let l : List DenyEntry :=
      [{ base := 12845056, width := 12, reason := .issuerBlock, origin := .station, day := 1, secs := 0 },
       { base := 12846080, width := 8, reason := .stolen, origin := .station, day := 1, secs := 0 },
       { base := 30117442, width := 0, reason := .localClone, origin := .localOrigin, day := 1, secs := 0 }]
    (denyMatch l 12846100).map DenyEntry.reason = some .stolen
      ∧ (denyMatch l 12847000).map DenyEntry.reason = some .issuerBlock
      ∧ denyMatch l 12845003 = none
      ∧ (denyMatch l 30117442).map DenyEntry.reason = some .localClone := by decide +kernel

/-- Bytes written into an image: offset and bytes. -/
def patch (b : List Byte) (off : Nat) (data : List Byte) : List Byte := overwrite b off data

/-- The five values of the stages, then charge, spend day and amount, transfers, balance and the purse's result. -/
def rated (r : Rating) : List Nat × Nat × Nat × Nat × Nat × Int × Bool :=
  ([r.f1, r.f2, r.f3, r.f4, r.f5], r.charge, r.spendDay, r.spendAmount, r.transfers, r.newBalance, r.passed)

/-- Section 4.7, case 1: zone 2 to 5 at minute 250 of a weekday, class 3. Day 9128 has index 9131 mod 7 = 3. -/
theorem test_rating_case_1 :
    let b := patch (patch (patch (patch fares 78 [1, 84]) 520 [0, 180, 0, 125]) 627 [50, 0, 0, 2, 88]) 657 [5]
    rated (journeyRating b 9128 5 { card with
        cls := 3, spendDay := 9128, spendAmount := 450, balance := 120, entryDay := 9128, entrySecs := 15000 })
      = ([340, 425, 212, 212, 210], 150, 9128, 600, 0, -30, true) := by decide +kernel

/-- Section 4.7, case 2: a transfer. -/
theorem test_rating_case_2 :
    let b := patch fares 178 [1, 4]
    rated (journeyRating b 9131 7 { card with
        entryZone := 5, exitDay := 9131, exitSecs := 36130, entryDay := 9131, entrySecs := 37240, spendDay := 9130
        spendAmount := 410, balance := 1000 })
      = ([260, 260, 260, 160, 160], 160, 9131, 160, 1, 840, true) := by decide +kernel

/-- Section 4.7, case 3: an exit with no entry, from a balance of 500 and one of 380. -/
theorem test_rating_case_3 :
    let r := penaltyRating fares .noEntryPenalty 9131 { card with balance := 500 } 590 0
    let q := penaltyRating fares .noEntryPenalty 9131 { card with balance := 380 } 590 0
    r.charge = 590 ∧ r.newBalance = -90 ∧ r.transfers = 0 ∧ r.passed = true ∧ q.passed = false := by decide +kernel

/-- Section 4.7, case 4: a cap below the day's spend. -/
theorem test_rating_case_4 : stageCap 180 600 700 = 0 ∧ min 9999999 (700 + stageCap 180 600 700) = 700
    ∧ pursePasses fares (-500) 0 = true := by decide +kernel

/-- Section 4.7, case 5: a journey across the boundary, rated by the Saturday of its entry. -/
theorem test_rating_case_5 :
    let b := patch (patch fares 108 [1, 19]) 552 [5, 40, 0, 80]
    dayType b 9130 = .saturday ∧ dayType b 9131 = .sundayHoliday
      ∧ rated (journeyRating b 9131 4 { card with
          entryZone := 3, entryDay := 9130, entrySecs := 86100, spendDay := 9130, spendAmount := 500, balance := 900 })
        = ([275, 220, 220, 220, 220], 220, 9131, 220, 0, 680, true) := by decide +kernel

/-- Section 4.7, case 6: a same-station exit under the cap. -/
theorem test_rating_case_6 :
    rated (sameStationRating (patch fares 617 [0, 0, 0, 1, 144]) 9131 { card with
        cls := 1, spendDay := 9131, spendAmount := 320, balance := 2000 })
      = ([150, 150, 150, 150, 150], 80, 9131, 400, 0, 1920, true) := by decide +kernel

/-- The kind, reason, amount and extra of each entry a command writes. -/
def written (c : Instr) (s : State) : List (EntryKind × Reason × Nat × Nat) :=
  ((after c s).rjn.journal.drop s.rjn.journal.length).map fun e => (e.kind, e.reason, e.amount, e.extra)

/-- The result code of the reply due. -/
def replied (s : State) : Option Byte := s.stl.replyTurn.map fun r => (r.getD 5 0).setWidth 8

/-- The causes recorded. -/
def told (ns : List Notice) : List Cause := (ns.filter Notice.recorded).map Notice.cause

/-- Section 2.8, step 0. -/
theorem test_coldStart :
    let s := after (.coldStart 12 0) base
    s.rjn.journal.map (fun e => (e.seq, e.kind, e.reason)) = [(1, .start, .cold)] ∧ s.svc.reasons.toByte = 0x8F
      ∧ told s.stl.notices = [.coldStart] ∧ told s.lpt.notices = [.restarted] := by decide +kernel

/-- Section 2.8, step 1: station code 2609, zone 4. -/
theorem test_laneSetup :
    let s := after (.laneSetup 12 7 [10, 49, 4, 64, 8, 3, 32, 0, 128, 30, 20, 2, 188, 10, 30]) (after (.coldStart 12 0) base)
    s.setup.stationCode = 2609 ∧ s.setup.zone = 4 ∧ s.svc.reasons.toByte = 0x87
      ∧ Cause.serviceChanged ∈ told s.stl.notices ∧ replied s = some 0 := by decide +kernel

/-- Section 2.8, step 6: the clock reads 9130, 18065 and is set to 18420. -/
theorem test_clockSet :
    let s := base.setSvc { base.svc with day := 9130, secs := 18065 }
    written (.clockSet 12 7 [35, 170, 0, 71, 244]) s = [(.timeStep, .forward, 0, 18065)]
      ∧ (after (.clockSet 12 7 [35, 170, 0, 71, 244]) s).rjn.journal.map Entry.cardSeq = [0, 9130]
      ∧ (after (.clockSet 12 7 [35, 170, 0, 71, 244]) s).svc.secs = 18420 := by decide +kernel

/-- Section 1.8, step 5: a repeat; step 6: the next key. -/
theorem test_keyLoad : written (.keyLoad 12 7 [0x11, 0x22, 0x33, 0x44, 0, 7]) base = []
    ∧ written (.keyLoad 12 7 [0, 0, 0, 3, 0, 9]) base = [(.keyChanged, .none, 0, 9 * 65536 + 7)]
    ∧ (after (.keyLoad 12 7 [0, 0, 0, 3, 0, 9]) base).rck.previous = base.rck.current := by decide +kernel

/-- Section 2.8, step 8: LANE MODE EXIT under EMERG. -/
theorem test_laneMode :
    let s := after (.laneMode 12 7 [2]) (after (.emergChange true) base)
    s.svc.stationMode = .exit ∧ s.effMode = .free ∧ s.rjn.journal = (after (.emergChange true) base).rjn.journal
      ∧ replied s = some 0 := by decide +kernel

/-- Section 2.8, steps 7 and 9. -/
theorem test_emergChange :
    written (.emergChange true) base = [(.modeChanged, .emergencyOn, 0, 0x03050300)]
      ∧ written (.emergChange false) (after (.laneMode 12 7 [2]) (after (.emergChange true) base))
        = [(.modeChanged, .emergencyOff, 0, 0x05020200), (.freePeriod, .emergency, 0, 0)] := by decide +kernel

/-- Section 3.9, event 1. -/
theorem test_cardPresent_exit :
    let s := after (.cardPresent (2 :: image)) (base.setScu { base.scu with sightings := [seenCard] })
    s.slot .p = some (waiting .accept) ∧ s.rjn.reserved = 3 ∧ s.rck.w = 58 ∧ (s.chan .writeP).count = 128
      ∧ (s.sighting card.number).map (fun e => (e.seq, e.tag)) = some (1204, 22190) := by decide +kernel

/-- Section 3.9, event 2. -/
theorem test_writeOutcome_uncertain :
    let s := after (.writeOutcome [2, 3, 228, 130]) (slotted .accept)
    s.slot .p = none ∧ s.rjn.reserved = 2 ∧ written (.writeOutcome [2, 3, 228, 130]) (slotted .accept) = [(.tear, .ok, 340, 22190)]
      ∧ ((s.sighting card.number).bind Sighting.tear).map Tear.deadline = some { day := 9131, secs := 31800 } := by
  decide +kernel

/-- Section 6.8, E2, at side P. -/
theorem test_writeOutcome_done :
    let s := after (.writeOutcome [2, 1, 228, 130]) (slotted .accept)
    s.pcu.queuePu.map (fun c => (c.kind, c.creator)) = [(.paid, 2)] ∧ s.rjn.reserved = 1
      ∧ s.lfc.leaf = .opening .p ∧ s.lfc.grant = some .p ∧ (s.chan .leafMove).count = 96
      ∧ (s.sighting card.number).map (fun e => (e.seq, e.tag)) = some (1205, 58498) := by decide +kernel

/-- The card as event 1 wrote it. -/
def cardWritten : Card :=
  { clearEntry card with
    flags := 0, seq := 1205, tag := 58498, balance := 1160, exitDay := 9131, exitSecs := 30000, writer := 2609
    spendDay := 9131, spendAmount := 340 }

/-- Section 3.9, event 3: the card shows the new image. -/
theorem test_cardPresent_completes_tear :
    let c : Instr := .cardPresent (2 :: imageOf base cardWritten)
    let s := torn { day := 9131, secs := 31801 }
    written c s = [(.tearResolved, .written, 340, 1), (.tearCompleted, .tearCompleted, 0, 1)]
      ∧ (after c s).pcu.queuePu.map Credit.kind = [.tearCompleted] ∧ (after c s).rjn.reserved = 1
      ∧ (after c s).txu.slotP = none := by decide +kernel

/-- Section 3.9, the same tear, not seen again. -/
theorem test_tearDeadline :
    let s := handedScu (torn { day := 9131, secs := 30000 })
    written .tearDeadline s = [(.tearResolved, .unresolved, 340, 1)] ∧ (after .tearDeadline s).rjn.reserved = 0 := by
  decide +kernel

/-- Section 4.6, step 11. -/
theorem test_timedFareSwitch :
    (after .timedFareSwitch (handed 30000)).fru.active = .b
      ∧ written .timedFareSwitch (handed 30000) = [(.fareSwitched, .timed, 0, 3002)] := by decide +kernel

/-- Section 4.6, steps 1 and 6: a chunk makes STANDBY INVALID; its old bytes fail the check. -/
theorem test_fareChunk :
    let s := after (.fareChunk 255 7 [0, 0, 1, 2]) standby
    s.standbyBank.valid = false ∧ s.standbyBank.maxima = none ∧ (s.standbyBank.buffer.take 4) = [1, 2, 11, 186]
      ∧ s.fru.bankA = standby.fru.bankA ∧ s.stl.replyTurn = none := by decide +kernel

/-- Section 6.8, E3, and 7.9: the second leaf at its target opens the lane and starts the window at 512. -/
theorem test_switchChange_opens :
    let s := after (.switchChange .left .openSw true) opening
    s.lfc.leaf = .opened .u ∧ (s.chan .windowUp).state = .running ∧ (s.chan .windowUp).count = 512
      ∧ (s.chan .windowUp).compare = 192 ∧ (s.chan .leafMove).state = .stopped := by decide +kernel

/-- Section 6.8, E4: the episode starts, the window is held and OCCUPANCY starts at 1920. -/
theorem test_beamChange_starts_episode :
    let s := after (.beamChange .b4 true) (after (.switchChange .left .openSw true) opening)
    s.pcu.episodeDir = some .p ∧ (s.chan .windowUp).state = .held ∧ (s.chan .occupancy).count = 1920 := by decide +kernel

/-- R121, R122: a beam filter of 20 ms hands its event on at the fifth sense tick, the release of EMERG at the second. -/
theorem test_senseTick :
    (senseTick (blocking 3)).pending = [] ∧ ((senseTick (blocking 3)).inp.of (.beam .b1)).count = 4
      ∧ (senseTick (blocking 4)).pending = [.beamChange .b1 true]
      ∧ ((senseTick (blocking 4)).inp.of (.beam .b1)).count = 0
      ∧ (let s := after (.emergChange true) base
         let t := s.setInp (s.inp.put .emerg { raw := false, count := 1 })
         (senseTick t).pending = [.emergChange false]) := by decide +kernel

/-- R122: a narrowed filter whose count already reaches its length takes its level at the next sense tick. -/
theorem test_laneSetup_narrows_filter :
    let s := after (.laneSetup 12 7 [10, 49, 4, 64, 8, 3, 32, 0, 128, 30, 4, 2, 188, 10, 30]) (blocking 2)
    s.pending = [] ∧ (senseTick s).pending = [.beamChange .b1 true] := by decide +kernel

/-- R19, R64: a second handed at 30000 makes its switch before a CLOCK SET takes the clock back to 20000. -/
theorem test_clockSet_takes_handed_second :
    let c : Instr := .clockSet 12 7 (toBE 2 9131 ++ toBE 3 20000)
    (after c (handed 30000)).fru.active = .b
      ∧ written c (handed 30000) = [(.fareSwitched, .timed, 0, 3002), (.timeStep, .backward, 0, 30000)] := by
  decide +kernel

/-- Section 7.9: the last clear of beam 4 is a passage UP, which consumes the head, and ends the episode. -/
theorem test_beamChange_makes_passage :
    let s := settle (opened.setPcu { opened.pcu with beam4 := true, episode := true, episodeDir := some .u, farClears := 1 })
    let t := after (.beamChange .b4 false) s
    written (.beamChange .b4 false) s = [(.passage, .paid, 0, 1)] ∧ t.pcu.queueUp = [credit none]
      ∧ t.pcu.episode = false ∧ t.rjn.reserved = 1 := by decide +kernel

/-- Section 6.8, E7: the mark's deadline is ten minutes on. -/
theorem test_creditExpiry :
    let s := settle (due .windowUp opened)
    written (.creditExpiry .u) s = [(.creditExpired, .paid, 0, 1)]
      ∧ ((after (.creditExpiry .u) s).sighting card.number).bind Sighting.mark
        = some { dir := .u, deadline := { day := 9131, secs := 30600 } } := by decide +kernel

/-- Section 7.9, the close: both leaves drive away from the open side P, the reversal count is 0. -/
theorem test_leafHoldUnderflow :
    let s := after .leafHoldUnderflow (leafDue (opened.setPcu { opened.pcu with queueUp := [] }))
    s.lfc.leaf = .closing ∧ s.lfc.driveL = .swingU ∧ s.lfc.driveR = .swingU ∧ s.lfc.reversalCount = 0
      ∧ (s.chan .leafMove).count = 96 := by decide +kernel

/-- R137: the third sample above the threshold reverses the leaves toward the grant; in the CLOSING of a start, with
the switches untaken, it counts a run as well. -/
theorem test_currentSample :
    let s := after (.currentSample 701) (leaves (fun l => { l with runL := 2 }) closing)
    (after (.currentSample 701) State.reset).lfc.runL = 1 ∧
    s.lfc.leaf = .opening .u ∧ s.lfc.reversal = true ∧ s.lfc.reversalCount = 1 ∧ s.lfc.driveL = .swingP := by decide +kernel

/-- Section 8.5 at t + 6: the cue is dropped under REFUSE; R149: counts 0 and 9 are BAD_FIELD. -/
theorem test_cueTone :
    let s := settle (startTone .refuse 3 base)
    (after (.cueTone [2]) s).sgu = s.sgu
      ∧ (after (.cueTone [2]) s).lpt.responseSlot = some { kind := 0x86, body := [0, 2], overrun := false }
      ∧ (after (.cueTone [9]) base).lpt.responseSlot.map (fun r => r.body) = some [3]
      ∧ (after (.cueTone [2]) base).sgu.pulses = 2 := by decide +kernel

/-- Section 8.5 at t + 16: the underflow with 3 pulses left; TONE carries 1,024 Hz in a pulse of REFUSE (R145). -/
theorem test_signalUnderflow :
    let s := settle (due .signal (startTone .refuse 3 base))
    (after .signalUnderflow s).sgu.pulses = 2 ∧ (after .signalUnderflow s).sgu.toneOn = true
      ∧ (after .signalUnderflow s).toneOut = .square 1024
      ∧ (after .signalCompare s).sgu.toneOn = false ∧ (after .signalCompare s).toneOut = .low := by decide +kernel

/-- Section 9.7, step 7 in small: the release is clamped to the newest entry. -/
theorem test_journalRelease :
    let s := after (.journalRelease 12 7 [0, 0, 56, 9]) base
    s.rjn.journal = [] ∧ s.rjn.nextSeq = 2 ∧ s.stl.replyTurn.map (fun r => (r.drop 5).take 7) = some [0, 0, 1, 0, 0, 0, 2] := by
  decide +kernel

/-- Section 5.5, E5: an equal sequence with another tag is clone evidence. -/
theorem test_sighting_finds_clone :
    let c : Instr := .sighting 12 7 (toBE 4 30117442 ++ [4, 180, 1, 2] ++ toBE 2 9131 ++ toBE 3 29401 ++ toBE 2 2609 ++ [14, 1])
    written c credited = [(.clone, .sighting, 0, 1 * 65536 + 22190)]
      ∧ (after c credited).scu.denyLocal = [30117442] ∧ Cause.clone ∈ told (after c credited).stl.notices := by
  decide +kernel

/-- Section 10.5, E10: the counter restarts at the low 4 bits of the tag for W = 701. -/
theorem test_auditRelease :
    let s := { base with
      rck := { base.rck with w := 701 }
      ads := { base.ads with enable := true, interval := 16, randomise := true, counter := 16, phase := .valid } }
    (after (.auditRelease 12 7 []) s).ads.counter = 7 ∧ (after (.auditRelease 12 7 []) s).ads.phase = .idle := by
  decide +kernel

/-- Section 11.7, steps 2 to 4: a short read leaves the response, a request over it is ignored, a whole read removes it. -/
theorem test_responseRead :
    (after (.responseRead 5 false) answeredState).lpt.responseSlot = answeredState.lpt.responseSlot
      ∧ (after (.responseRead 7 false) answeredState).lpt.responseSlot = none
      ∧ (after (.responseRead 7 false) answeredState).lpt.attn = false
      ∧ (after (.laneHold []) answeredState).lpt.responseSlot.map Response.overrun = some true
      ∧ (after (.laneHold []) answeredState).svc.reasons.laneHold = false := by decide +kernel

/-- R104: REFUSE on SIGNAL (R = 12, C = 6) is due its compare at the sixth tick and its underflow at the twelfth. -/
theorem test_tick :
    let ch := fun n => Nat.repeat (fun c => Channel.ticked c true) n (Channel.start 12 6)
    (ch 5).compareDue = false ∧ (ch 6).compareDue = true ∧ (ch 11).underflowDue = false ∧ (ch 12).underflowDue = true
      ∧ (ch 12).count = 12 ∧ (ch 12).state = .running := by decide +kernel

end Sys2Proof.Tests
end

section
/-! SUPPORT. The journal only grows: what each operation does to the run of entries (R154, R155). -/

namespace Sys2Proof.Machine

/-! ## Runs of entries (R154) -/

theorem endsAt_append (n : Word32) (a b : List Entry) :
    endsAt n (a ++ b) ↔ endsAt (n - BitVec.ofNat 32 b.length) a ∧ endsAt n b := by
  induction a with
  | nil => simp [endsAt]
  | cons e a ih =>
    have hlen : n - BitVec.ofNat 32 ((a ++ b).length + 1)
        = n - BitVec.ofNat 32 b.length - BitVec.ofNat 32 (a.length + 1) := by
      rw [List.length_append]
      bv_omega
    simp only [List.cons_append, endsAt, hlen, ih, and_assoc]

theorem endsAt_drop {n : Word32} {l : List Entry} (k : Nat) (h : endsAt n l) : endsAt n (l.drop k) := by
  rw [← List.take_append_drop k l, endsAt_append] at h
  exact h.2

/-- The journal `r'` is `r` with some entries joined after the newest, each under its own next sequence. -/
def Rjn.Grows (r r' : Rjn) : Prop :=
  ∃ es, r'.journal = r.journal ++ es ∧ r'.nextSeq = r.nextSeq + BitVec.ofNat 32 es.length
    ∧ endsAt r'.nextSeq es

theorem Rjn.Grows.of_same {r r' : Rjn} (hj : r'.journal = r.journal) (hn : r'.nextSeq = r.nextSeq) :
    r.Grows r' :=
  ⟨[], by simp [hj], by simp [hn], trivial⟩

@[simp] theorem Rjn.Grows.refl (r : Rjn) : r.Grows r := of_same rfl rfl

theorem Rjn.Grows.trans {r r' r'' : Rjn} (h : r.Grows r') (h' : r'.Grows r'') : r.Grows r'' := by
  obtain ⟨es, hj, hn, hr⟩ := h
  obtain ⟨es', hj', hn', hr'⟩ := h'
  refine ⟨es ++ es', by simp [hj, hj'], ?_, ?_⟩
  · rw [hn', hn, List.length_append]
    bv_omega
  · rw [endsAt_append, hn', BitVec.add_sub_cancel, ← hn']
    exact ⟨hr, hr'⟩

/-- A growing journal that is one run stays one run. -/
theorem Rjn.Grows.endsAt {r r' : Rjn} (h : r.Grows r') (hr : endsAt r.nextSeq r.journal) :
    endsAt r'.nextSeq r'.journal := by
  obtain ⟨es, hj, hn, he⟩ := h
  rw [hj, endsAt_append, hn, BitVec.add_sub_cancel, ← hn]
  exact ⟨hr, he⟩

/-- An operation that keeps the entries and the next sequence keeps the growth. -/
theorem Rjn.Grows.congr {r r' r'' : Rjn} (h : r.Grows r') (hj : r''.journal = r'.journal)
    (hn : r''.nextSeq = r'.nextSeq) : r.Grows r'' :=
  h.trans (of_same hj hn)

section
variable {r : Rjn} {s : State}

/-! ## Entries and space (R155 to R163) -/

@[simp] theorem grows_judgeSpace (h : r.Grows s.rjn) : r.Grows (judgeSpace s).rjn :=
  h.congr (by simp [judgeSpace_rjn]) (by simp [judgeSpace_rjn])

@[simp] theorem grows_appendEntry (e : Entry) (h : r.Grows s.rjn) : r.Grows (appendEntry e s).rjn :=
  h.trans ⟨[{ e with seq := s.rjn.nextSeq }], rfl, rfl, by simp [appendEntry, endsAt]⟩

@[simp] theorem grows_countOverrun (h : r.Grows s.rjn) : r.Grows (countOverrun s).rjn :=
  h.congr (by simp [countOverrun]) (by simp [countOverrun])

@[simp] theorem grows_writeFree (e : Entry) (h : r.Grows s.rjn) : r.Grows (writeFree e s).rjn := by
  unfold writeFree
  split <;> simp [h]

@[simp] theorem grows_setReserved (n : Nat) (h : r.Grows s.rjn) : r.Grows { s.rjn with reserved := n } :=
  h.congr rfl rfl

@[simp] theorem grows_setOverrun (n : Nat) (h : r.Grows s.rjn) : r.Grows { s.rjn with overrun := n } :=
  h.congr rfl rfl

@[simp] theorem grows_writeReserved (e : Entry) (h : r.Grows s.rjn) : r.Grows (writeReserved e s).rjn := by
  unfold writeReserved
  split
  · exact grows_writeFree e h
  · exact grows_appendEntry e (grows_setReserved _ h)

@[simp] theorem grows_overrunEntry (n : Nat) (h : r.Grows s.rjn) : r.Grows (overrunEntry n s).rjn := by
  unfold overrunEntry
  split
  · exact grows_judgeSpace (grows_appendEntry _ (grows_setOverrun 0 h))
  · exact h

@[simp] theorem grows_release1 (h : r.Grows s.rjn) : r.Grows (release1 s).rjn := by
  unfold release1
  split
  · exact h
  · exact grows_overrunEntry _ (grows_judgeSpace (grows_setReserved _ h))

@[simp] theorem grows_reserve (k : Nat) (h : r.Grows s.rjn) : r.Grows (reserve k s).rjn :=
  grows_judgeSpace (grows_setReserved _ h)

/-! ## Keys and fares (R9, R64, R65) -/

@[simp] theorem grows_loadKey (k : Key) (h : r.Grows s.rjn) : r.Grows (loadKey k s).rjn := by
  have hwrite : ∀ (e : Entry) (x : Rck), r.Grows (writeFree e (s.setRck x)).rjn := fun e _ => grows_writeFree e h
  unfold loadKey
  split <;> simp [h, hwrite]

@[simp] theorem grows_swapBanks (x : Reason) (h : r.Grows s.rjn) : r.Grows (swapBanks x s).rjn := by
  have hwrite : ∀ (e : Entry) (x : Fru), r.Grows (writeFree e (s.setFru x)).rjn := fun e _ => grows_writeFree e h
  unfold swapBanks
  dsimp only
  split <;> simp [hwrite]

@[simp] theorem grows_takeTimedSwitch (h : r.Grows s.rjn) : r.Grows (takeTimedSwitch s).rjn := by
  unfold takeTimedSwitch
  split
  · split <;> simp [h]
  · exact h

@[simp] theorem grows_fruTakes (h : r.Grows s.rjn) : r.Grows (fruTakes s).rjn := by
  unfold fruTakes
  split
  · exact grows_takeTimedSwitch h
  · exact h

/-! ## Pending-tears and sightings (R51 to R55, R96 to R101) -/

@[simp] theorem grows_unresolveTear (c : Nat) (t : Tear) (h : r.Grows s.rjn) :
    r.Grows (unresolveTear c t s).rjn := by
  simp [unresolveTear, h]

@[simp] theorem grows_displaceTear (h : r.Grows s.rjn) : r.Grows (displaceTear s).rjn := by
  unfold displaceTear
  split
  · exact h
  · split <;> simp [h]

@[simp] theorem grows_expireTearsN (n : Nat) (h : r.Grows s.rjn) : r.Grows (expireTearsN n s).rjn := by
  induction n generalizing s with
  | zero => exact h
  | succ n ih =>
    unfold expireTearsN
    split
    · exact ih (grows_unresolveTear _ _ h)
    · exact h

@[simp] theorem grows_tearsTake (h : r.Grows s.rjn) : r.Grows (tearsTake s).rjn := by
  unfold tearsTake expireTears
  split
  · exact grows_expireTearsN _ h
  · exact h

@[simp] theorem grows_resolveTear (c : Nat) (t : Tear) (w : Bool) (h : r.Grows s.rjn) :
    r.Grows (resolveTear c t w s).rjn := by
  unfold resolveTear
  dsimp only
  split <;> simp [h]

@[simp] theorem grows_resolveRow (c : Nat) (t : Tear) (row : TearRow) (q e : Word16) (h : r.Grows s.rjn) :
    r.Grows (resolveRow c t row q e s).rjn := by
  cases row <;> simp [resolveRow, h]

@[simp] theorem grows_cloneEvidence (c : Nat) (x : Option Side) (q t e : Word16) (h : r.Grows s.rjn) :
    r.Grows (cloneEvidence c x q t e s).rjn := by
  simp [cloneEvidence, h]

@[simp] theorem grows_sightDone (c : Nat) (x : Side) (a b p q : Word16) (h : r.Grows s.rjn) :
    r.Grows (sightDone c x a b p q s).rjn := by
  unfold sightDone
  split
  · exact h
  · dsimp only
    split_ifs <;> simp [h]

@[simp] theorem grows_remoteResolve (c : Nat) (t : Tear) (w : Bool) (f : Sighting → Sighting)
    (h : r.Grows s.rjn) : r.Grows (remoteResolve c t w f s).rjn := by
  unfold remoteResolve
  dsimp only
  split <;> simp [h]

@[simp] theorem grows_mergeSighting (b : SightBody) (ev : SightEvent) (h : r.Grows s.rjn) :
    r.Grows (mergeSighting b ev s).1.rjn := by
  unfold mergeSighting
  split
  · simp [h]
  · split
    · unfold mergeTear
      split_ifs <;> simp [h]
    · unfold mergePlain
      split
      · simp [h]
      · split <;> simp [h]
      · exact h

/-! ## Free period, credits and passages (R115 to R119) -/

@[simp] theorem grows_closeFree (h : r.Grows s.rjn) : r.Grows (closeFree s).rjn := by
  simp [closeFree, h]

@[simp] theorem grows_settleFree (h : r.Grows s.rjn) : r.Grows (settleFree s).rjn := by
  unfold settleFree
  split <;> simp [h]

@[simp] theorem grows_cancelCredit (d : Side) (x : Reason) (c : Credit) (h : r.Grows s.rjn) :
    r.Grows (cancelCredit d x c s).rjn := by
  unfold cancelCredit
  dsimp only
  split <;> simp [h]

@[simp] theorem grows_cancelFrom (d : Side) (x : Reason) (q : List Credit) (h : r.Grows s.rjn) :
    r.Grows (cancelFrom d x q s).rjn := by
  induction q generalizing s with
  | nil => exact h
  | cons c q ih => exact ih (grows_cancelCredit d x c (by simp [h]))

@[simp] theorem grows_cancelQueue (d : Side) (x : Reason) (h : r.Grows s.rjn) :
    r.Grows (cancelQueue d x s).rjn := by
  simp [cancelQueue, h]

@[simp] theorem grows_cancelBoth (x : Reason) (h : r.Grows s.rjn) : r.Grows (cancelBoth x s).rjn := by
  simp [cancelBoth, h]

@[simp] theorem grows_expireHead (d : Side) (h : r.Grows s.rjn) : r.Grows (expireHead d s).rjn := by
  unfold expireHead
  split
  · exact h
  · dsimp only
    split <;> simp [h]

@[simp] theorem grows_consumeHead (d : Side) (h : r.Grows s.rjn) : r.Grows (consumeHead d s).rjn := by
  unfold consumeHead
  split
  · exact h
  · dsimp only
    split <;> simp [h]

@[simp] theorem grows_passage (d : Side) (h : r.Grows s.rjn) : r.Grows (passage d s).rjn := by
  unfold passage
  split_ifs <;> simp [wrongWay, unpaidPassage, h]

@[simp] theorem grows_beamChanged (b : Beam) (v : Bool) (h : r.Grows s.rjn) :
    r.Grows (beamChanged b v s).rjn := by
  have hclear : ∀ x : Pcu, r.Grows (beamCleared b (s.setPcu x)).rjn := by
    intro x
    unfold beamCleared farClear
    split
    · split_ifs
      · exact h
      · exact grows_passage _ h
      · exact h
    · exact h
  unfold beamChanged
  dsimp only
  split_ifs <;> simp [h, hclear]

/-! ## Leaves and mode (R27, R140 to R143) -/

@[simp] theorem grows_enterFault (x : Reason) (n : Nat) (h : r.Grows s.rjn) :
    r.Grows (enterFault x n s).rjn := by
  simp [enterFault, h]

@[simp] theorem grows_forceLeaf (l : Leaf) (h : r.Grows s.rjn) : r.Grows (forceLeaf l s).rjn := by
  have hwrite : ∀ (e : Entry) (x : Lfc), r.Grows (writeFree e (s.setLfc x)).rjn := fun e _ => grows_writeFree e h
  simp [forceLeaf, hwrite]

@[simp] theorem grows_sampleTaken (v : Nat) (h : r.Grows s.rjn) : r.Grows (sampleTaken v s).rjn := by
  unfold sampleTaken
  dsimp only
  split_ifs
  · exact h
  · unfold obstruction
    dsimp only
    split
    · exact grows_enterFault _ _ h
    · split <;> simp [h]
  · exact h

@[simp] theorem grows_moveTimeout (h : r.Grows s.rjn) : r.Grows (moveTimeout s).rjn := by
  unfold moveTimeout
  split <;> simp [h]

@[simp] theorem grows_switchTaken (l : Leaf) (w : Switch) (m : Bool) (h : r.Grows s.rjn) :
    r.Grows (switchTaken l w m s).rjn := by
  unfold switchTaken
  split
  · exact grows_forceLeaf l h
  · split <;> simp [h]
  · unfold reachTarget
    dsimp only
    split <;> simp [h]
  · unfold reachTarget
    dsimp only
    split <;> simp [h]
  · split
    · simp [h]
    · unfold reachTarget
      dsimp only
      split <;> simp [h]
  · exact h

@[simp] theorem grows_switchChanged (l : Leaf) (w : Switch) (m : Bool) (h : r.Grows s.rjn) :
    r.Grows (switchChanged l w m s).rjn := by
  unfold switchChanged
  dsimp only
  split_ifs
  · exact h
  · exact h
  · exact grows_enterFault _ _ h
  · exact grows_switchTaken l w m h
  · simp [h]
  · exact h

@[simp] theorem grows_cancelForMode (h : r.Grows s.rjn) : r.Grows (cancelForMode s).rjn := by
  unfold cancelForMode
  split
  · simp [h]
  · dsimp only
    split_ifs <;> simp [h]

@[simp] theorem grows_modeEffects (m : Mode) (x : Reason) (h : r.Grows s.rjn) :
    r.Grows (modeEffects m x s).rjn := by
  unfold modeEffects
  split
  · exact h
  · dsimp only
    split <;> simp [h]

@[simp] theorem grows_takeLaneMode (m : Mode) (h : r.Grows s.rjn) : r.Grows (takeLaneMode m s).rjn := by
  have hmode : ∀ (o : Mode) (x : Svc), r.Grows (modeEffects o .station (s.setSvc x)).rjn :=
    fun o _ => grows_modeEffects o _ h
  simp [takeLaneMode, hmode]

@[simp] theorem grows_takeEmerg (v : Bool) (h : r.Grows s.rjn) : r.Grows (takeEmerg v s).rjn := by
  unfold takeEmerg
  split <;> simp [h]

end

end Sys2Proof.Machine
end

section
/-! SUPPORT. The journal and the write counter over the transactions, the clock, the starts and the requests. -/

namespace Sys2Proof.Machine

section
variable {r : Rjn} {s : State}

/-! ## Presentations and outcomes (R33 to R51, R111) -/

@[simp] theorem grows_refuseWith (p : Shown) (e : Entry) (x : Reason) (h : r.Grows s.rjn) :
    r.Grows (refuseWith p e x s).1.rjn := by
  simp [refuseWith, h]

@[simp] theorem grows_refuseSeen (p : Shown) (e : Entry) (x : Reason) (h : r.Grows s.rjn) :
    r.Grows (refuseSeen p e x s).1.rjn := by
  simp [refuseSeen, h]

@[simp] theorem grows_refuseBlocked (p : Shown) (h : r.Grows s.rjn) : r.Grows (refuseBlocked p s).1.rjn := by
  unfold refuseBlocked
  dsimp only
  split <;> simp [h]

@[simp] theorem grows_refuseClone (p : Shown) (e : Word16) (h : r.Grows s.rjn) :
    r.Grows (refuseClone p e s).1.rjn := by
  simp [refuseClone, h]

@[simp] theorem grows_issue (p : Shown) (i : Issue) (h : r.Grows s.rjn) : r.Grows (issue p i s).rjn := by
  have hstate : r.Grows (issueState s).rjn := grows_reserve 3 h
  simp [issue, hstate]

@[simp] theorem grows_accept (p : Shown) (k : Classified) (h : r.Grows s.rjn) :
    r.Grows (accept p k s).1.rjn := by
  simp [accept, h]

@[simp] theorem grows_reopen (p : Shown) (h : r.Grows s.rjn) : r.Grows (reopen p s).1.rjn := by
  simp [reopen, h]

@[simp] theorem grows_tearCompleted (p : Shown) (t : Tear) (h : r.Grows s.rjn) :
    r.Grows (tearCompleted p t s).1.rjn := by
  simp [tearCompleted, h]

@[simp] theorem grows_entrySteps (p : Shown) (h : r.Grows s.rjn) : r.Grows (entrySteps p s).1.rjn := by
  unfold entrySteps
  split
  · simp [refusePassback, h]
  · dsimp only
    split <;> simp [refuseLow, h]

@[simp] theorem grows_exitSteps (p : Shown) (h : r.Grows s.rjn) : r.Grows (exitSteps p s).1.rjn := by
  unfold exitSteps
  dsimp only
  split <;> simp [refuseLow, h]

@[simp] theorem grows_screenFresh (p : Shown) (h : r.Grows s.rjn) : r.Grows (screenFresh p s).1.rjn := by
  unfold screenFresh
  split_ifs
  · simp [h]
  · simp [refuseAndWrite, h]
  · split <;> simp [h]

@[simp] theorem grows_screenTear (p : Shown) (e : Sighting) (t : Tear) (h : r.Grows s.rjn) :
    r.Grows (screenTear p e t s).1.rjn := by
  unfold screenTear
  dsimp only
  split
  case h_3 => split <;> simp [h]
  all_goals simp [h]

@[simp] theorem grows_screenSighting (p : Shown) (h : r.Grows s.rjn) :
    r.Grows (screenSighting p s).1.rjn := by
  unfold screenSighting
  split
  · simp [h]
  · split
    · simp [h]
    · split <;> simp [h]

@[simp] theorem grows_present (x : Side) (im : List Byte) (h : r.Grows s.rjn) :
    r.Grows (present x im s).1.rjn := by
  unfold present
  split
  · simp [h]
  · dsimp only
    split
    · simp [refuseUnreadable, h]
    · split_ifs
      · simp [refuseTampered, h]
      · simp [h]
      · split <;> simp [refuseConcurrent, h]

@[simp] theorem grows_doneCredit (x : Side) (sl : Slot) (q : Word32) (h : r.Grows s.rjn) :
    r.Grows (doneCredit x sl q s).rjn := by
  unfold doneCredit
  dsimp only
  split <;> simp [h]

@[simp] theorem grows_settleDone (x : Side) (sl : Slot) (h : r.Grows s.rjn) :
    r.Grows (settleDone x sl s).rjn := by
  have hwritten := grows_writeReserved (doneEntry s x sl) h
  unfold settleDone
  dsimp only
  split
  · simpa [freeSlot] using
      grows_release1 (grows_sightDone _ _ _ _ _ _ (grows_doneCredit x sl s.rjn.nextSeq hwritten))
  · simpa [freeSlot] using grows_release1 (grows_sightDone _ _ _ _ _ _ (grows_release1 hwritten))

@[simp] theorem grows_settleNotWritten (x : Side) (sl : Slot) (h : r.Grows s.rjn) :
    r.Grows (settleNotWritten x sl s).rjn := by
  have hreleased := grows_release1 (grows_release1 (grows_writeReserved (notWrittenEntry s x sl) h))
  unfold settleNotWritten
  dsimp only
  split <;> simp [hreleased]

@[simp] theorem grows_settleUncertain (o : AuditOutcome) (x : Side) (sl : Slot) (h : r.Grows s.rjn) :
    r.Grows (settleUncertain o x sl s).rjn := by
  have hwritten := grows_writeReserved (tearEntry (displaceTear s) x sl) (grows_displaceTear h)
  unfold settleUncertain
  dsimp only
  split_ifs <;> simp [hwritten]

@[simp] theorem grows_settleSlot (w : WriteResult) (x : Side) (sl : Slot) (h : r.Grows s.rjn) :
    r.Grows (settleSlot w x sl s).rjn := by
  cases w <;> simp [settleSlot, h]

@[simp] theorem grows_writeWaitEnds (x : Side) (h : r.Grows s.rjn) : r.Grows (writeWaitEnds x s).rjn := by
  unfold writeWaitEnds
  split <;> simp [h]

@[simp] theorem grows_tearSlot (x : Side) (h : r.Grows s.rjn) : r.Grows (tearSlot x s).rjn := by
  unfold tearSlot
  split <;> simp [h]

@[simp] theorem grows_takeOutcome (x : Side) (w : WriteResult) (q : Word16) (h : r.Grows s.rjn) :
    r.Grows (takeOutcome x w q s).1.rjn := by
  unfold takeOutcome
  split
  · split <;> simp [h]
  · exact h

@[simp] theorem grows_staffCredit (d : Side) (h : r.Grows s.rjn) : r.Grows (staffCredit d s).rjn := by
  simp [staffCredit, h]

/-! ## Clock and starts (R19, R20, R189, R194) -/

@[simp] theorem grows_takeHanded (h : r.Grows s.rjn) : r.Grows (takeHanded s).rjn := by
  simp [takeHanded, h]

@[simp] theorem grows_secondTaken (h : r.Grows s.rjn) : r.Grows (secondTaken s).rjn := by
  have htaken := grows_takeHanded h
  unfold secondTaken
  dsimp only
  split <;> exact htaken

@[simp] theorem grows_noteStep (t : DayTime) (h : r.Grows s.rjn) : r.Grows (noteStep t s).rjn := by
  unfold noteStep
  split <;> simp [h]

@[simp] theorem grows_clockSet (t : DayTime) (h : r.Grows s.rjn) : r.Grows (clockSet t s).rjn := by
  have hnoted := grows_noteStep t (grows_takeHanded h)
  refine grows_takeHanded (s := handSecond _) ?_
  simpa [handSecond, setClock] using hnoted

@[simp] theorem grows_settleLane (x : Reason) (h : r.Grows s.rjn) : r.Grows (settleLane x s).rjn := by
  have hcancelled := grows_cancelBoth x (grows_tearSlot .p (grows_tearSlot .u h))
  simpa [settleLane, tearSlots] using hcancelled

theorem grows_laneRestarted (x : Reason) (h : r.Grows s.rjn) : r.Grows (laneRestarted x s).rjn := by
  have hsettled : r.Grows (settleLane .restart (writeStart x (clearBeamFilters s))).rjn :=
    grows_settleLane _ (grows_writeFree _ (by simpa using h))
  have hleaves : r.Grows (restartLeaves (settleLane .restart (writeStart x (clearBeamFilters s)))).rjn := by
    unfold restartLeaves
    split <;> simp [hsettled]
  simpa [laneRestarted, resetSignals, clearHold] using grows_settleFree hleaves

/-- The parts of a warm start before its START entry: ports, filters and EMERG (R25, R194). -/
def warmOpened (a : BitVec 6) (b : BitVec 2) (s : State) : State :=
  let t := clearFilters (resetPorts a b (s.setPowered true))
  t.setSvc { t.svc with emerg := false }

/-- A warm start up to its settled lane and free period (R56, R120, R164). -/
def warmSettled (a : BitVec 6) (b : BitVec 2) (s : State) : State :=
  warmFree (settleLane .warmStart (writeStart .warm (warmOpened a b s)))

/-- The leaves, the channels and the signals of a warm start (R103, R144, R153). -/
def warmDriven (s : State) : State := resetSignals ((commandLeaves 0 (unsetSwitches s)).setLtu .reset)

/-- The service state, the notices and the outputs of a warm start (R30, R194). -/
def warmFormed (s : State) : State :=
  formAttn (formLamps (raiseBoth .restarted (warmService (forgetSpace (judgeSpace s)))))

theorem warmStarted_eq (a : BitVec 6) (b : BitVec 2) (s : State) :
    warmStarted a b s = warmFormed (warmDriven (warmSettled a b s)) := rfl

@[simp] theorem grows_warmFree (h : r.Grows s.rjn) : r.Grows (warmFree s).rjn := by
  unfold warmFree
  dsimp only
  split_ifs <;> simp [h]

/-- From its START entry on a warm start adds entries alone. -/
theorem grows_warmStarted_of_start (a : BitVec 6) (b : BitVec 2)
    (h : r.Grows (writeStart .warm (warmOpened a b s)).rjn) : r.Grows (warmStarted a b s).rjn := by
  have hsettled : r.Grows (warmSettled a b s).rjn := grows_warmFree (grows_settleLane _ h)
  have hdriven : r.Grows (warmDriven (warmSettled a b s)).rjn := by
    simpa [warmDriven, resetSignals, unsetSwitches] using hsettled
  simpa [warmStarted_eq, warmFormed, warmService, forgetSpace] using grows_judgeSpace hdriven

theorem grows_warmStarted (a : BitVec 6) (b : BitVec 2) (h : r.Grows s.rjn) :
    r.Grows (warmStarted a b s).rjn := by
  have hopened : r.Grows (warmOpened a b s).rjn := by simpa [warmOpened, resetPorts] using h
  exact grows_warmStarted_of_start a b (grows_writeFree _ hopened)

end

/-! ## The write counter (R13) -/

/-- W stays or goes up by 1. -/
def Rck.Counts (r r' : Rck) : Prop := r'.w = r.w ∨ r'.w = r.w + 1

@[simp] theorem Rck.Counts.refl (r : Rck) : r.Counts r := .inl rfl

section
variable {s : State}

@[simp] theorem rck_issue (p : Shown) (i : Issue) (s : State) :
    (issue p i s).rck = { s.rck with w := s.rck.w + 1 } := by
  simp [issue, issueState, bumpW]

theorem counts_screenFresh (p : Shown) (s : State) : s.rck.Counts (screenFresh p s).1.rck := by
  have haccept : ∀ k, s.rck.Counts (accept p k s).1.rck := fun k => .inr (by simp [accept])
  unfold screenFresh
  split_ifs
  · simp
  · exact .inr (by simp [refuseAndWrite])
  · split
    · unfold entrySteps
      dsimp only
      split
      · simp
      · split <;> simp [haccept]
    · unfold exitSteps
      dsimp only
      split <;> simp [haccept]

/-- A presentation issues at most one image, and W counts it. -/
theorem counts_present (x : Side) (im : List Byte) (s : State) : s.rck.Counts (present x im s).1.rck := by
  have hrow : ∀ (p : Shown) (t : Tear) (row : TearRow),
      s.rck.Counts (screenFresh p (resolveRow p.card.number t row p.card.seq p.card.tag s)).1.rck := by
    intro p t row
    simpa using counts_screenFresh p (resolveRow p.card.number t row p.card.seq p.card.tag s)
  have hsighting : ∀ p, s.rck.Counts (screenSighting p s).1.rck := by
    intro p
    unfold screenSighting
    split
    · exact counts_screenFresh p s
    · split
      · unfold screenTear
        dsimp only
        split
        case h_3 => split <;> simp [hrow]
        all_goals simp [hrow]
      · split
        · exact counts_screenFresh p s
        · simp
  unfold present
  split
  · simp
  · dsimp only
    split
    · simp
    · split_ifs
      · simp
      · simp
      · split <;> simp [hsighting]

end

/-! ## What a command does to the journal and to W (R13, R154, R166) -/

/-- The journal with its `k` oldest entries released. -/
def Rjn.shed (r : Rjn) (k : Nat) : Rjn := { r with journal := r.journal.drop k }

/-- From `s` to `t` the journal has lost its `k` oldest entries and otherwise grown, and W has counted at most 1. -/
def Accounted (k : Nat) (s t : State) : Prop := s.rck.Counts t.rck ∧ (s.rjn.shed k).Grows t.rjn

theorem accounted_zero_iff (s t : State) : Accounted 0 s t ↔ s.rck.Counts t.rck ∧ s.rjn.Grows t.rjn := Iff.rfl

theorem accounted_of_same {s t : State} (hk : t.rck = s.rck) (hj : t.rjn = s.rjn) : Accounted 0 s t := by
  simp [accounted_zero_iff, hk, hj]

/-- Whatever comes after, if it leaves the journal and the record checker, keeps the account. -/
theorem Accounted.congr {k : Nat} {s t u : State} (h : Accounted k s t) (hk : u.rck = t.rck)
    (hj : u.rjn = t.rjn) : Accounted k s u := by
  simpa [Accounted, hk, hj] using h

theorem releaseEntries_accounted (k : Nat) (s : State) : Accounted k s (releaseEntries k s) :=
  ⟨by simp [releaseEntries], grows_overrunEntry _ (grows_judgeSpace (Rjn.Grows.refl _))⟩

theorem journalReleaseRun_accounted (b : List Byte) (s : State) :
    ∃ k, Accounted k s (journalReleaseRun b s).1 := by
  unfold journalReleaseRun
  dsimp only
  split
  · exact ⟨0, accounted_of_same rfl rfl⟩
  · exact ⟨_, releaseEntries_accounted _ s⟩

theorem accounted_of_grows {s t : State} (hk : t.rck = s.rck) (hj : s.rjn.Grows t.rjn) : Accounted 0 s t := by
  simp [accounted_zero_iff, hk, hj]

theorem cardPresentRun_accounted (b : List Byte) (s : State) : Accounted 0 s (cardPresentRun b s).1 := by
  unfold cardPresentRun
  split
  · exact ⟨counts_present _ _ s, grows_present _ _ (Rjn.Grows.refl _)⟩
  · exact accounted_of_same rfl rfl

theorem writeOutcomeRun_accounted (b : List Byte) (s : State) : Accounted 0 s (writeOutcomeRun b s).1 := by
  unfold writeOutcomeRun
  split
  · exact accounted_of_grows (by simp) (grows_takeOutcome _ _ _ (Rjn.Grows.refl _))
  · exact accounted_of_same rfl rfl

theorem staffPassRun_accounted (b : List Byte) (s : State) : Accounted 0 s (staffPassRun b s).1 := by
  unfold staffPassRun
  split
  · split
    · exact accounted_of_same rfl rfl
    · exact accounted_of_grows (by simp) (grows_staffCredit _ (Rjn.Grows.refl _))
  · exact accounted_of_same rfl rfl

theorem cueToneRun_accounted (b : List Byte) (s : State) : Accounted 0 s (cueToneRun b s).1 := by
  unfold cueToneRun
  dsimp only
  split <;> exact accounted_of_same (by simp) (by simp)

theorem setNotices_accounted (p : Port) (ns : List Notice) (s : State) : Accounted 0 s (setNotices p ns s) := by
  cases p <;> exact accounted_of_same rfl rfl

theorem noticeFetchRun_accounted (p : Port) (b : List Byte) (s : State) :
    Accounted 0 s (noticeFetchRun p b s).1 := by
  unfold noticeFetchRun
  split
  · exact setNotices_accounted p _ s
  · exact accounted_of_same rfl rfl

theorem noticeMaskRun_accounted (p : Port) (b : List Byte) (s : State) :
    Accounted 0 s (noticeMaskRun p b s).1 := by
  unfold noticeMaskRun
  dsimp only
  split
  · exact setNotices_accounted p _ s
  · exact accounted_of_same rfl rfl

theorem rck_laneRestarted (x : Reason) (s : State) : (laneRestarted x s).rck = s.rck := by
  have hleaves : ∀ t : State, (restartLeaves t).rck = t.rck := by
    intro t
    unfold restartLeaves
    split <;> simp
  simp [laneRestarted, resetSignals, clearHold, hleaves, settleLane, writeStart]

theorem denyDeltaRun_accounted (p : Port) (b : List Byte) (s : State) :
    Accounted 0 s (denyDeltaRun p b s).1 := by
  unfold denyDeltaRun
  split
  · exact accounted_of_same (by simp [deltaApplied]) (by simp [deltaApplied])
  · unfold deltaRefused
    dsimp only
    split <;> exact accounted_of_same (by simp) (by simp)

theorem sightingRun_accounted (b : List Byte) (s : State) : Accounted 0 s (sightingRun b s).1 := by
  unfold sightingRun
  dsimp only
  split
  · split_ifs
    · exact accounted_of_same rfl rfl
    · exact accounted_of_same rfl rfl
    · exact accounted_of_grows (by simp) (grows_mergeSighting _ _ (Rjn.Grows.refl _))
  · exact accounted_of_same rfl rfl

theorem fareChunkRun_accounted (b : List Byte) (s : State) : Accounted 0 s (fareChunkRun b s).1 := by
  unfold fareChunkRun
  dsimp only
  split_ifs <;> exact accounted_of_same (by simp) (by simp)

theorem fareCloseRun_accounted (b : List Byte) (s : State) : Accounted 0 s (fareCloseRun b s).1 := by
  unfold fareCloseRun
  split <;> exact accounted_of_same (by simp) (by simp)

theorem fareSwitchRun_accounted (b : List Byte) (s : State) : Accounted 0 s (fareSwitchRun b s).1 := by
  unfold fareSwitchRun
  dsimp only
  split_ifs
  · exact accounted_of_grows (by simp) (grows_swapBanks _ (by simp))
  all_goals exact accounted_of_same (by simp) (by simp)

theorem rck_clockSet (t : DayTime) (s : State) : (clockSet t s).rck = s.rck := by
  have hnoted : ∀ u : State, (noteStep t u).rck = u.rck := by
    intro u
    unfold noteStep
    split <;> simp
  simp [clockSet, takeHanded, handSecond, setClock, hnoted]

theorem clockSetRun_accounted (b : List Byte) (s : State) : Accounted 0 s (clockSetRun b s).1 := by
  unfold clockSetRun
  dsimp only
  split
  · exact accounted_of_grows (rck_clockSet _ s) (grows_clockSet _ (Rjn.Grows.refl _))
  · exact accounted_of_same rfl rfl

theorem w_loadKey (k : Key) (s : State) : (loadKey k s).rck.w = s.rck.w := by
  unfold loadKey
  split <;> simp

theorem keyLoadRun_accounted (b : List Byte) (s : State) : Accounted 0 s (keyLoadRun b s).1 :=
  ⟨.inl (w_loadKey _ s), grows_loadKey _ (Rjn.Grows.refl _)⟩

theorem laneModeRun_accounted (b : List Byte) (s : State) : Accounted 0 s (laneModeRun b s).1 := by
  unfold laneModeRun
  split
  · exact accounted_of_grows (by simp) (grows_takeLaneMode _ (Rjn.Grows.refl _))
  · exact accounted_of_same rfl rfl

theorem auditRuns_accounted (b : List Byte) (s : State) :
    Accounted 0 s (auditSetupRun b s).1 ∧ Accounted 0 s (auditReadRun s).1
      ∧ Accounted 0 s (auditReleaseRun s).1 ∧ Accounted 0 s (auditTagRun s).1 := by
  refine ⟨?_, ?_, ?_, ?_⟩
  · unfold auditSetupRun
    split <;> exact accounted_of_same (by simp) (by simp)
  · unfold auditReadRun
    split <;> exact accounted_of_same rfl rfl
  · unfold auditReleaseRun
    split <;> exact accounted_of_same (by simp) (by simp)
  · unfold auditTagRun
    split <;> exact accounted_of_same (by simp) (by simp)

/-- The requests that keep every entry: all but JOURNAL RELEASE. -/
theorem run_accounted {rq : Request} (hrq : rq ∈ allRequests) (hne : rq.code ≠ 0x22) (p : Port)
    (b : List Byte) (s : State) : Accounted 0 s (rq.run p b s).1 := by
  simp only [allRequests, List.mem_cons, List.not_mem_nil, or_false] at hrq
  rcases hrq with rfl | rfl | rfl | rfl | rfl | rfl | rfl | rfl | rfl | rfl | rfl | rfl | rfl | rfl
    | rfl | rfl | rfl | rfl | rfl | rfl | rfl | rfl | rfl | rfl | rfl | rfl | rfl | rfl
  · exact cardPresentRun_accounted b s
  · exact writeOutcomeRun_accounted b s
  · exact accounted_of_same (by simp [reqLaneHold, laneHoldRun]) (by simp [reqLaneHold, laneHoldRun])
  · exact accounted_of_same (by simp [reqLaneRelease, laneReleaseRun, clearHold])
      (by simp [reqLaneRelease, laneReleaseRun, clearHold])
  · exact staffPassRun_accounted b s
  · exact cueToneRun_accounted b s
  · exact accounted_of_same rfl rfl
  · exact noticeFetchRun_accounted p b s
  · exact noticeMaskRun_accounted p b s
  · exact accounted_of_grows (rck_laneRestarted _ s) (grows_laneRestarted _ (Rjn.Grows.refl _))
  · exact accounted_of_same rfl rfl
  · unfold reqJournalFetch journalFetchRun
    dsimp only
    split <;> exact accounted_of_same rfl rfl
  · exact absurd rfl hne
  · exact denyDeltaRun_accounted p b s
  · exact accounted_of_same rfl rfl
  · unfold reqDenyProbe denyProbeRun
    dsimp only
    split <;> exact accounted_of_same rfl rfl
  · exact sightingRun_accounted b s
  · exact fareChunkRun_accounted b s
  · exact fareCloseRun_accounted b s
  · exact fareSwitchRun_accounted b s
  · exact clockSetRun_accounted b s
  · exact keyLoadRun_accounted b s
  · exact laneModeRun_accounted b s
  · exact accounted_of_same (by simp [reqLaneSetup, laneSetupRun]) (by simp [reqLaneSetup, laneSetupRun])
  · exact (auditRuns_accounted b s).1
  · exact (auditRuns_accounted b s).2.1
  · exact (auditRuns_accounted b s).2.2.1
  · exact (auditRuns_accounted b s).2.2.2

/-- Whatever the request, the entries it takes away are the oldest ones. -/
theorem run_accounted_some {rq : Request} (hrq : rq ∈ allRequests) (p : Port) (b : List Byte) (s : State) :
    ∃ k, Accounted k s (rq.run p b s).1 := by
  by_cases hne : rq.code = 0x22
  · have hrelease : rq = reqJournalRelease := by
      simp only [allRequests, List.mem_cons, List.not_mem_nil, or_false] at hrq
      rcases hrq with rfl | rfl | rfl | rfl | rfl | rfl | rfl | rfl | rfl | rfl | rfl | rfl | rfl | rfl
        | rfl | rfl | rfl | rfl | rfl | rfl | rfl | rfl | rfl | rfl | rfl | rfl | rfl | rfl
      case inr.inr.inr.inr.inr.inr.inr.inr.inr.inr.inr.inr.inl => rfl
      all_goals exact absurd hne (by decide)
    subst hrelease
    exact journalReleaseRun_accounted b s
  · exact ⟨0, run_accounted hrq hne p b s⟩

end Sys2Proof.Machine
end

section
/-! SUPPORT. Every row over the journal and W, and the statement that every step only appends entries. -/

namespace Sys2Proof.Machine

/-! ## The ports (R178 to R185) -/

theorem lane_code_ne_release : ∀ rq ∈ allRequests, rq.lane = true → rq.code ≠ 0x22 := by decide

theorem laneAct_accounted {rq : Request} {body : List Byte} {s : State}
    (hrun : Accounted 0 s (rq.run .lane body s).1) : Accounted 0 s (laneAct rq body s) := by
  unfold laneAct
  split
  · exact hrun.congr rfl rfl
  · exact accounted_of_same rfl rfl

theorem judgeFrame_accounted (bytes : List Byte) (ragged : Bool) (s : State) :
    Accounted 0 s (judgeFrame bytes ragged s) := by
  unfold judgeFrame
  split_ifs
  · exact accounted_of_same rfl rfl
  · exact accounted_of_same rfl rfl
  · split
    next rq hkind =>
      have hrq : rq ∈ allRequests := List.mem_of_find?_eq_some hkind
      have hlane : rq.lane = true := (Bool.and_eq_true _ _ ▸ List.find?_some hkind).1
      exact laneAct_accounted (run_accounted hrq (lane_code_ne_release rq hrq hlane) _ _ s)
    next => exact accounted_of_same rfl rfl

/-- A transfer taken keeps what judging it keeps. -/
theorem laneTake_accounted {judge : State → State} (bytes : List Byte) (s : State)
    (hjudge : ∀ u, Accounted 0 u (judge u)) : Accounted 0 s (finish (laneTake bytes judge s)) := by
  have htake : Accounted 0 s (laneTake bytes judge s) := by
    unfold laneTake
    split
    · exact accounted_of_same rfl rfl
    · exact hjudge (recordTransfer bytes s)
  exact htake.congr (by simp) (by simp)

theorem laneRequest_accounted {rq : Request} (hrq : rq ∈ allRequests) (hne : rq.code ≠ 0x22)
    (body : List Byte) (s : State) : Accounted 0 s (laneRequest rq body s) := by
  unfold laneRequest
  split
  · refine laneTake_accounted _ s fun u => ?_
    unfold laneJudge
    split
    · exact accounted_of_same rfl rfl
    · exact laneAct_accounted (run_accounted hrq hne _ _ u)
  · exact accounted_of_same rfl rfl

theorem laneTransfer_accounted (bytes : List Byte) (ragged : Bool) (s : State) :
    Accounted 0 s (laneTransfer bytes ragged s) := by
  unfold laneTransfer
  split
  · exact accounted_of_same rfl rfl
  · split_ifs
    · exact accounted_of_same rfl rfl
    · exact accounted_of_same rfl rfl
    · exact accounted_of_same (by simp [readResponse]) (by simp [readResponse])
    · exact laneTake_accounted _ s (judgeFrame_accounted _ _)

theorem linkRefuse_accounted (cls : AddrClass) (kind src : Byte) (x : Result) (s : State) :
    Accounted 0 s (linkRefuse cls kind src x s) := by
  cases cls <;> exact accounted_of_same rfl rfl

/-- The account of a row: entries are taken away only where `release` allows it. -/
def AccountedBy (release : Bool) (s t : State) : Prop := ∃ k, Accounted k s t ∧ (release = false → k = 0)

theorem Accounted.by_zero {release : Bool} {s t : State} (h : Accounted 0 s t) : AccountedBy release s t :=
  ⟨0, h, fun _ => rfl⟩

theorem accountedBy_of_same {release : Bool} {s t : State} (hk : t.rck = s.rck) (hj : t.rjn = s.rjn) :
    AccountedBy release s t := (accounted_of_same hk hj).by_zero

theorem AccountedBy.congr {release : Bool} {s t u : State} (h : AccountedBy release s t) (hk : u.rck = t.rck)
    (hj : u.rjn = t.rjn) : AccountedBy release s u := by
  obtain ⟨k, hkept, hzero⟩ := h
  exact ⟨k, hkept.congr hk hj, hzero⟩

theorem AccountedBy.finish {release : Bool} {s t : State} (h : AccountedBy release s t) :
    AccountedBy release s (Machine.finish t) := h.congr (by simp) (by simp)

theorem run_accountedBy_true {rq : Request} (hrq : rq ∈ allRequests) (p : Port) (b : List Byte) (s : State) :
    AccountedBy true s (rq.run p b s).1 := by
  obtain ⟨k, hk⟩ := run_accounted_some hrq p b s
  exact ⟨k, hk, nofun⟩

/-- A frame handed to its owner is accounted for as the owner's run is. -/
theorem stationAct_accounted {release : Bool} {rq : Request} (cls : AddrClass) (src : Byte) (body : List Byte)
    (s : State) (hrun : ∀ p, AccountedBy release s (rq.run p body s).1) :
    AccountedBy release s (stationAct cls src rq body s) := by
  unfold stationAct
  split_ifs
  · exact accountedBy_of_same rfl rfl
  · exact (linkRefuse_accounted _ _ _ _ s).by_zero
  · split
    · exact hrun _
    · exact (hrun _).congr rfl rfl

theorem stationJudge_accounted (cls : AddrClass) (addr src kind : Byte) (body : List Byte) (crc : Word16)
    (s : State) : AccountedBy true s (stationJudge cls addr src kind body crc s) := by
  unfold stationJudge
  split
  · exact (linkRefuse_accounted _ _ _ _ s).by_zero
  · split
    next rq hkind =>
      have hrq : rq ∈ allRequests := List.mem_of_find?_eq_some hkind
      exact stationAct_accounted _ _ _ s fun p => run_accountedBy_true hrq p _ s
    next => exact (linkRefuse_accounted _ _ _ _ s).by_zero

theorem frameArrives_accounted {release : Bool} {take : AddrClass → State → State} (addr : Byte)
    (body : List Byte) (s : State) (htake : ∀ cls u, AccountedBy release u (take cls u)) :
    AccountedBy release s (frameArrives addr body take s) := by
  unfold frameArrives
  split
  · dsimp only
    split
    · split
      · exact accountedBy_of_same rfl rfl
      · exact (htake _ (hunt (addressTaken addr s))).finish
    · exact accountedBy_of_same rfl rfl
  · exact accountedBy_of_same rfl rfl

/-- A lane request row is a request of the lane port. -/
theorem exec_of_laneForm {c : Instr} {rq : Request} {b : List Byte} (h : laneForm c = some (rq, b)) (s : State) :
    exec c s = .next (laneRequest rq b s) := by
  unfold laneForm at h
  split at h <;> cases h <;> rfl

theorem laneForm_mem {c : Instr} {rq : Request} {b : List Byte} (h : laneForm c = some (rq, b)) :
    rq ∈ allRequests ∧ rq.lane = true := by
  unfold laneForm at h
  split at h <;> cases h <;> simp [allRequests] <;> decide

/-- A station request row is a request of the station link. -/
theorem exec_of_linkForm {c : Instr} {f : LinkFrame} (h : linkForm c = some f) (s : State) :
    exec c s = .next (stationRequest f.request f.addr f.src f.body s) := by
  unfold linkForm at h
  split at h <;> cases h <;> rfl

theorem characterTaken_accounted (ninth : Bool) (data : Byte) (stop : Bool) (s : State) :
    AccountedBy true s (characterTaken ninth data stop s) := by
  unfold characterTaken
  split_ifs
  · exact accountedBy_of_same rfl rfl
  · exact accountedBy_of_same rfl rfl
  · split
    · unfold dataTaken
      dsimp only
      split_ifs
      · exact accountedBy_of_same rfl rfl
      · exact (stationJudge_accounted _ _ _ _ _ _ (hunt s)).finish
      · exact accountedBy_of_same rfl rfl
    · exact accountedBy_of_same rfl rfl

/-! ## The rows -/

/-- The rows that can carry a JOURNAL RELEASE. -/
def mayRelease : Instr → Bool
  | .journalRelease _ _ _ | .stationFrameFault _ _ _ _ _ | .stationCharacter _ _ _ => true
  | _ => false

/-- An event of the clock, the lines or the channels is accounted for where its effect is. -/
theorem Accounted.event {f : State → State} {s : State} (h : Accounted 0 s (f s)) : Accounted 0 s (Machine.event f s) := by
  unfold Machine.event
  split
  · exact h.congr (by simp) (by simp)
  · exact accounted_of_same rfl rfl

theorem Accounted.finish {s t : State} (h : Accounted 0 s t) : Accounted 0 s (Machine.finish t) :=
  h.congr (by simp) (by simp)

/-- A row that answers with the state of an accounted effect, or the state as it was. -/
theorem accounted_ite {p : Prop} [Decidable p] {s t u : State} (ht : Accounted 0 s t) (hu : Accounted 0 s u) :
    Accounted 0 s (if p then t else u) := by
  split
  · exact ht
  · exact hu

theorem second_accounted (s : State) :
    Accounted 0 s (finish (secondTaken s)) ∧ Accounted 0 s (secondRetained s) := by
  refine ⟨(accounted_of_grows ?_ (grows_secondTaken (Rjn.Grows.refl _))).finish, ?_⟩
  · unfold secondTaken
    dsimp only
    split <;> simp [takeHanded, handSecond, setClock]
  · unfold secondRetained
    dsimp only
    split <;> exact accounted_of_same rfl rfl

theorem warmStarted_accounted (a : BitVec 6) (b : BitVec 2) (s : State) : Accounted 0 s (warmStarted a b s) := by
  have hfree : ∀ t : State, (warmFree t).rck = t.rck := by
    intro t
    unfold warmFree
    dsimp only
    split_ifs <;> simp
  refine accounted_of_grows ?_ (grows_warmStarted a b (Rjn.Grows.refl _))
  simp [warmStarted_eq, warmFormed, warmDriven, warmSettled, warmOpened, resetSignals, warmService, forgetSpace,
    unsetSwitches, settleLane, writeStart, resetPorts, hfree]

theorem linkForm_mem {c : Instr} {f : LinkFrame} (h : linkForm c = some f) :
    f.request ∈ allRequests ∧ (f.request.code = 0x22 → mayRelease c = true) := by
  unfold linkForm at h
  split at h <;> cases h <;> simp [allRequests, mayRelease] <;> decide

theorem linkForm_accounted {c : Instr} {f : LinkFrame} (h : linkForm c = some f) (s : State) :
    AccountedBy (mayRelease c) s (stationRequest f.request f.addr f.src f.body s) := by
  obtain ⟨hmem, hrelease⟩ := linkForm_mem h
  refine frameArrives_accounted _ _ s fun cls u => stationAct_accounted cls _ _ u fun p => ?_
  by_cases hcode : f.request.code = 0x22
  · rw [hrelease hcode]
    exact run_accountedBy_true hmem p _ u
  · exact (run_accounted hmem hcode p _ u).by_zero

/-- Every row answers with a next state that accounts for the journal and W, but for a cold start. -/
theorem exec_accounted (c : Instr) (s : State) (hcold : ∀ a r, c ≠ .coldStart a r) :
    ∃ t, exec c s = .next t ∧ AccountedBy (mayRelease c) s t := by
  rcases hlane : laneForm c with _ | ⟨rq, b⟩
  case some =>
    obtain ⟨hmem, hrq⟩ := laneForm_mem hlane
    exact ⟨_, exec_of_laneForm hlane s,
      (laneRequest_accounted hmem (lane_code_ne_release rq hmem hrq) b s).by_zero⟩
  rcases hlink : linkForm c with _ | f
  case some => exact ⟨_, exec_of_linkForm hlink s, linkForm_accounted hlink s⟩
  have hsame : Accounted 0 s s := accounted_of_same rfl rfl
  have quiet : ∀ {t : State}, t.rck = s.rck → t.rjn = s.rjn → Accounted 0 s (finish t) :=
    fun hk hj => (accounted_of_same hk hj).finish
  have grown : ∀ {t : State}, t.rck = s.rck → s.rjn.Grows t.rjn → Accounted 0 s (finish t) :=
    fun hk hj => (accounted_of_grows hk hj).finish
  have grownEvent : ∀ {f : State → State}, (f s).rck = s.rck → s.rjn.Grows (f s).rjn →
      Accounted 0 s (event f s) := fun hk hj => (accounted_of_grows hk hj).event
  cases c with
  | coldStart a r => exact absurd rfl (hcold a r)
  | warmStart a r => exact ⟨_, rfl, (warmStarted_accounted a r s).by_zero⟩
  | writeWaitUnderflow x =>
    exact ⟨_, rfl, (accounted_ite (grown (by simp) (by simp)) hsame).by_zero⟩
  | responseRead n g =>
    exact ⟨_, rfl, (accounted_ite (quiet (by simp [readResponse]) (by simp [readResponse])) hsame).by_zero⟩
  | portPoll x => exact ⟨_, rfl, (accounted_ite (accounted_of_same (by rfl) (by rfl)) hsame).by_zero⟩
  | laneFrameFault bytes g => exact ⟨_, rfl, (laneTransfer_accounted bytes g s).by_zero⟩
  | timedFareSwitch => exact ⟨_, rfl, (accounted_ite (grownEvent (by simp) (by simp)) hsame).by_zero⟩
  | stationFrameFault a b k body crc =>
    exact ⟨_, rfl, frameArrives_accounted a body s fun cls u => stationJudge_accounted cls a b k body crc u⟩
  | frameGapTimeout => exact ⟨_, rfl, (accounted_ite (accounted_of_same (by rfl) (by rfl)) hsame).by_zero⟩
  | stationReply =>
    refine ⟨_, rfl, Accounted.by_zero ?_⟩
    split
    · exact accounted_of_same rfl rfl
    · exact hsame
  | second =>
    obtain ⟨hpowered, hretained⟩ := second_accounted s
    exact ⟨_, rfl, (accounted_ite hsame (accounted_ite hpowered hretained)).by_zero⟩
  | markExpiry => exact ⟨_, rfl, (accounted_ite (grownEvent (by simp) (by simp)) hsame).by_zero⟩
  | tearDeadline => exact ⟨_, rfl, (accounted_ite (grownEvent (by simp) (by simp)) hsame).by_zero⟩
  | emergChange v => exact ⟨_, rfl, (grownEvent (by simp) (by simp)).by_zero⟩
  | beamChange b v => exact ⟨_, rfl, (grownEvent (by simp) (by simp)).by_zero⟩
  | switchChange l w m => exact ⟨_, rfl, (grownEvent (by simp) (by simp)).by_zero⟩
  | currentSample v => exact ⟨_, rfl, (accounted_ite (grownEvent (by simp) (by simp)) hsame).by_zero⟩
  | passageWarning d => exact ⟨_, rfl, (accounted_ite (quiet (by simp) (by simp)) hsame).by_zero⟩
  | creditExpiry d => exact ⟨_, rfl, (accounted_ite (grown (by simp) (by simp)) hsame).by_zero⟩
  | leafHoldUnderflow => exact ⟨_, rfl, (accounted_ite (quiet (by simp) (by simp)) hsame).by_zero⟩
  | leafMoveUnderflow => exact ⟨_, rfl, (accounted_ite (grown (by simp) (by simp)) hsame).by_zero⟩
  | occupancyUnderflow => exact ⟨_, rfl, (accounted_ite (quiet (by simp) (by simp)) hsame).by_zero⟩
  | signalCompare => exact ⟨_, rfl, (accounted_ite (quiet (by simp) (by simp)) hsame).by_zero⟩
  | signalUnderflow =>
    have hends : ∀ t : State, (signalEnds t).rck = t.rck ∧ (signalEnds t).rjn = t.rjn := by
      intro t
      unfold signalEnds
      split <;> simp
    exact ⟨_, rfl, (accounted_ite (quiet (by simp [hends]) (by simp [hends])) hsame).by_zero⟩
  | refusalFlashLapse x =>
    exact ⟨_, rfl, (accounted_ite (quiet (by cases x <;> rfl) (by cases x <;> rfl)) hsame).by_zero⟩
  | tick =>
    exact ⟨_, rfl, (accounted_ite (accounted_of_same (by rfl) (by rfl)) (accounted_of_same (by rfl) (by rfl))).by_zero⟩
  | stationCharacter n d p =>
    refine ⟨_, rfl, ?_⟩
    split
    · exact characterTaken_accounted n d p s
    · exact hsame.by_zero
  | replyEnd => exact ⟨_, rfl, (accounted_ite (accounted_of_same (by rfl) (by rfl)) hsame).by_zero⟩
  | lcsSeenHigh => exact ⟨_, rfl, (accounted_ite (accounted_of_same (by rfl) (by rfl)) hsame).by_zero⟩
  | vddLoss => exact ⟨_, rfl, accountedBy_of_same rfl rfl⟩
  | laneStatus v b => cases v <;> simp [laneForm, linkForm] at hlane hlink
  | noticeFetch v b => cases v <;> simp [laneForm, linkForm] at hlane hlink
  | noticeMask v b => cases v <;> simp [laneForm, linkForm] at hlane hlink
  | laneRestart v b => cases v <;> simp [laneForm, linkForm] at hlane hlink
  | _ => simp [laneForm, linkForm] at hlane hlink

/-- An accounted journal that was one run is one run. -/
theorem Accounted.journalRun {k : Nat} {s t : State} (h : Accounted k s t) (hs : s.journalRun) : t.journalRun :=
  h.2.endsAt (endsAt_drop k hs)

/-- Settles O55: a row loses entries to a release alone and otherwise appends; a cold start begins the journal anew,
and a sense tick leaves it. -/
theorem stepOnlyAppendsEntries : Obligations.StepOnlyAppendsEntries := by
  intro s t hstep
  rcases hpending : s.pending with _ | ⟨c, rest⟩
  · have hjournal : t.rjn = s.rjn := by
      simp only [step, hpending, Host.Outcome.next.injEq] at hstep
      subst hstep
      split <;> simp
    exact ⟨fun hrun => by simpa [State.journalRun, hjournal] using hrun, nofun⟩
  · simp only [step, hpending] at hstep
    by_cases hcold : ∃ a r, c = .coldStart a r
    · obtain ⟨a, r, rfl⟩ := hcold
      cases hstep
      refine ⟨fun _ => by simp [State.journalRun, endsAt, coldStarted, State.reset, coldStartEntry], ?_⟩
      intro c' rest' heq hne
      cases heq
      exact absurd rfl (hne a r)
    · push Not at hcold
      obtain ⟨u, hexec, k, hacc, hzero⟩ := exec_accounted c (s.setPending rest) hcold
      rw [hexec] at hstep
      cases hstep
      refine ⟨hacc.journalRun, fun c' rest' heq _ => ?_⟩
      cases heq
      obtain ⟨hw, es, hjournal, -⟩ := hacc
      refine ⟨hw, k, es, hjournal, fun hrelease hfault hchar => hzero ?_⟩
      cases c with
      | journalRelease a b body => exact absurd rfl (hrelease a b body)
      | stationFrameFault a b k body crc => exact absurd rfl (hfault a b k body crc)
      | stationCharacter n d p => exact absurd rfl (hchar n d p)
      | _ => rfl

end Sys2Proof.Machine
end

section
/-! SUPPORT. Fields of bytes, the end of an event, and what a port leaves of a request: proved once, for every row. -/

namespace Sys2Proof.Machine

/-! ## Fields (section 0.9) -/

@[simp] theorem length_toBE (n v : Nat) : (toBE n v).length = n := by
  induction n with
  | zero => rfl
  | succ n ih => simp [toBE, ih]

@[simp] theorem length_toBE32s (v : Int) : (toBE32s v).length = 4 := length_toBE ..

theorem foldl_toBE (n v acc : Nat) :
    (toBE n v).foldl (fun acc b => acc * 256 + b.toNat) acc = acc * 256 ^ n + v % 256 ^ n := by
  induction n generalizing acc with
  | zero => simp [toBE, Nat.mod_one]
  | succ n ih =>
    simp only [toBE, List.foldl_cons, ih, BitVec.toNat_ofNat]
    rw [Nat.mod_pow_succ (b := 256), Nat.pow_succ]
    ring

@[simp] theorem fromBE_toBE (n v : Nat) : fromBE (toBE n v) = v % 256 ^ n := by
  simp [fromBE, foldl_toBE]

@[simp] theorem fromBE_singleton (b : Byte) : fromBE [b] = b.toNat := by simp [fromBE]

theorem fromBE_concat (bs : List Byte) (b : Byte) : fromBE (bs ++ [b]) = fromBE bs * 256 + b.toNat := by
  simp [fromBE]

theorem fromBE_lt (bs : List Byte) : fromBE bs < 256 ^ bs.length := by
  induction bs using List.reverseRecOn with
  | nil => simp [fromBE]
  | append_singleton bs b ih =>
    have hb := b.isLt
    rw [fromBE_concat, List.length_append, List.length_singleton, Nat.pow_succ]
    omega

/-- A field of `len` bytes is below `256 ^ len`. -/
theorem field_lt (bs : List Byte) (off len : Nat) : field bs off len < 256 ^ len :=
  (fromBE_lt _).trans_le (Nat.pow_le_pow_right (by decide) (by simp [slice]))

/-- The field that a list of bytes begins with. -/
theorem field_append_front {a : List Byte} {n : Nat} (b : List Byte) (h : a.length = n) :
    field (a ++ b) 0 n = fromBE a := by
  subst h
  simp [field, slice]

/-- A field behind the bytes a list begins with. -/
theorem field_append_skip {a : List Byte} {off : Nat} (b : List Byte) (len : Nat) (h : a.length ≤ off) :
    field (a ++ b) off len = field b (off - a.length) len := by
  simp [field, slice, List.drop_append, List.drop_eq_nil_of_le h]

theorem field_cons_front (x : Byte) (b : List Byte) : field (x :: b) 0 1 = x.toNat := by
  simp [field, slice]

theorem field_cons_skip {off : Nat} (x : Byte) (b : List Byte) (len : Nat) (h : 1 ≤ off) :
    field (x :: b) off len = field b (off - 1) len :=
  field_append_skip (a := [x]) b len h

theorem field_self {a : List Byte} {n : Nat} (h : a.length = n) : field a 0 n = fromBE a := by
  simpa using field_append_front [] h

/-! ## Parts -/

theorem Part.forall_iff {P : Part → Prop} : (∀ p, P p) ↔ P .powered ∧ P .pending ∧ P .lpt ∧ P .stl ∧ P .setup
    ∧ P .rck ∧ P .svc ∧ P .txu ∧ P .fru ∧ P .scu ∧ P .ltu ∧ P .pcu ∧ P .lfc ∧ P .sgu ∧ P .rjn ∧ P .ads
    ∧ P .inp := by
  constructor
  · intro h
    exact ⟨h _, h _, h _, h _, h _, h _, h _, h _, h _, h _, h _, h _, h _, h _, h _, h _, h _⟩
  · rintro ⟨h1, h2, h3, h4, h5, h6, h7, h8, h9, h10, h11, h12, h13, h14, h15, h16, h17⟩ p
    cases p <;> assumption

/-! ## The end of an event (R29, R152, R181) -/

/-- A notice set at the end of an event: SERVICE_CHANGED raised where the event has changed the reason set (R29). -/
def State.told (s : State) (ns : List Notice) : List Notice :=
  if s.svc.serviceTouched then raiseIn .serviceChanged ns else ns

theorem finish_stl (s : State) : (finish s).stl = { s.stl with notices := s.told s.stl.notices } := by
  simp only [finish, formAttn_frame, formLamps_frame, raiseService, State.told]
  split <;> rfl

theorem finish_svc (s : State) : (finish s).svc = { s.svc with serviceTouched := false } := by
  simp only [finish, formAttn_frame, formLamps_frame, raiseService]
  split
  · simp
  · cases hs : s.svc
    simp_all

theorem rjn_finish (s : State) : (finish s).rjn = s.rjn := by simp

theorem finish_responseSlot (s : State) : (finish s).lpt.responseSlot = s.lpt.responseSlot := by
  simp only [finish, formAttn, setLpt_lpt, formLamps_frame, raiseService]
  split <;> rfl

/-- The end of an event keeps the arbiter, the hurry flags and the flashes: it forms the lamps anew. -/
theorem finish_sgu (s : State) : (finish s).sgu =
    { s.sgu with
      lampUG := greenLamp (finish s) .u, lampUR := redLamp (finish s) .u
      lampPG := greenLamp (finish s) .p, lampPR := redLamp (finish s) .p } := by
  have hraised : (raiseService s).sgu = s.sgu := by simp
  rw [← hraised]
  rfl

theorem finish_flash (s : State) (x : Side) : (finish s).flash x = s.flash x := by
  cases x <;> simp [State.flash, finish_sgu]

/-- Where the outputs stand formed, the end of an event changes nothing. -/
theorem finish_of_formed {s : State} (h : s.formed) : finish s = s := by
  obtain ⟨⟨hug, hpg, hur, hpr⟩, hattn, htouched⟩ := h
  have hlamps : formLamps s = s := by
    simp only [formLamps, ← hug, ← hpg, ← hur, ← hpr, State.setSgu]
  have hlevel : formAttn s = s := by
    unfold State.attnFormed at hattn
    simp only [formAttn, ← hattn, State.setLpt]
  simp [finish, raiseService, htouched, hlamps, hlevel]

/-! ## Notices (R190) -/

@[simp] theorem cause_raised (n : Notice) : n.raised.cause = n.cause := by
  unfold Notice.raised
  split <;> rfl

@[simp] theorem setting_raised (n : Notice) : n.raised.setting = n.setting := by
  unfold Notice.raised
  split <;> rfl

/-- Raising one cause leaves the record of another. -/
theorem filter_raiseIn_ne {c d : Cause} (h : d ≠ c) (ns : List Notice) :
    ((raiseIn d ns).filter fun n => n.cause == c) = ns.filter fun n => n.cause == c := by
  induction ns with
  | nil => rfl
  | cons n ns ih =>
    simp only [raiseIn, List.map_cons, List.filter_cons] at ih ⊢
    by_cases hn : n.cause = d <;> simp [hn, h, ih]

/-- Raising a cause raises its record. -/
theorem filter_raiseIn_self (c : Cause) (ns : List Notice) :
    ((raiseIn c ns).filter fun n => n.cause == c) = (ns.filter fun n => n.cause == c).map Notice.raised := by
  induction ns with
  | nil => rfl
  | cons n ns ih =>
    simp only [raiseIn, List.map_cons, List.filter_cons] at ih ⊢
    by_cases hn : n.cause = c <;> simp [hn, ih]

/-- Two sets hold the same record of a cause. -/
def SameNotice (c : Cause) (ns ns' : List Notice) : Prop :=
  (ns'.filter fun n => n.cause == c) = ns.filter fun n => n.cause == c

theorem SameNotice.trans {c : Cause} {ns ns' ns'' : List Notice} (h : SameNotice c ns ns')
    (h' : SameNotice c ns' ns'') : SameNotice c ns ns'' := Eq.trans h' h

theorem sameNotice_raiseIn {c d : Cause} (h : d ≠ c) (ns : List Notice) : SameNotice c ns (raiseIn d ns) :=
  filter_raiseIn_ne h ns

theorem sameNotice_told {c : Cause} (h : Cause.serviceChanged ≠ c) (s : State) (ns : List Notice) :
    SameNotice c ns (s.told ns) := by
  unfold State.told
  split
  · exact sameNotice_raiseIn h ns
  · rfl

/-- A cause raised once, with nothing else done to it before or after. -/
theorem raisedOnce_of_same {c : Cause} {ns ns' ns'' : List Notice} (h : SameNotice c ns ns')
    (h' : SameNotice c (raiseIn c ns') ns'') : raisedOnce c ns ns'' := by
  unfold raisedOnce
  rw [h', filter_raiseIn_self, h]

/-- The station link has raised some notices, none of the cause `c`, and is otherwise as it was. -/
def Stl.Spares (c : Cause) (x x' : Stl) : Prop :=
  ∃ ds : List Cause, c ∉ ds ∧ x' = { x with notices := ds.foldl (fun ns d => raiseIn d ns) x.notices }

@[simp] theorem Stl.Spares.refl (c : Cause) (x : Stl) : x.Spares c x := ⟨[], by simp, rfl⟩

theorem Stl.Spares.trans {c : Cause} {x x' x'' : Stl} (h : x.Spares c x') (h' : x'.Spares c x'') :
    x.Spares c x'' := by
  obtain ⟨ds, hds, rfl⟩ := h
  obtain ⟨ds', hds', rfl⟩ := h'
  exact ⟨ds ++ ds', by simp [hds, hds'], by simp⟩

theorem Stl.Spares.notices {c : Cause} {x x' : Stl} (h : x.Spares c x') : SameNotice c x.notices x'.notices := by
  obtain ⟨ds, hds, rfl⟩ := h
  have hfold : ∀ (ds : List Cause) (ns : List Notice), c ∉ ds →
      SameNotice c ns (ds.foldl (fun ns d => raiseIn d ns) ns) := by
    intro ds
    induction ds with
    | nil => exact fun _ _ => rfl
    | cons d ds ih =>
      intro ns hc
      rw [List.mem_cons, not_or] at hc
      exact (sameNotice_raiseIn (Ne.symm hc.1) ns).trans (ih _ hc.2)
  exact hfold ds _ hds

/-- But for its notices the link is as it was. -/
theorem Stl.Spares.eq {c : Cause} {x x' : Stl} (h : x.Spares c x') : x' = { x with notices := x'.notices } := by
  obtain ⟨ds, -, rfl⟩ := h
  rfl

section
variable {c : Cause} {x : Stl} {s : State}

@[simp] theorem spares_raiseStation {d : Cause} (hd : d ≠ c) (h : x.Spares c s.stl) :
    x.Spares c (raiseStation d s).stl :=
  h.trans ⟨[d], by simpa using hd.symm, rfl⟩

/-- The notices of the journal's space (R161, R162). -/
def spaceCauses : List Cause := [.journalLow, .journalStop, .overrun]

@[simp] theorem spares_judgeSpace (hc : c ∉ spaceCauses) (h : x.Spares c s.stl) :
    x.Spares c (judgeSpace s).stl := by
  have hlow : Cause.journalLow ≠ c := fun e => hc (by simp [← e, spaceCauses])
  have hstop : Cause.journalStop ≠ c := fun e => hc (by simp [← e, spaceCauses])
  have hjudged : x.Spares c (judgeLow s).stl := by
    unfold judgeLow
    split_ifs
    · exact h
    · exact spares_raiseStation hlow h
    · exact h
  unfold judgeSpace judgeStop
  split_ifs
  · exact hjudged
  · have hset : ∀ (b : Bool) (t : State), (setJournalStop b t).stl = t.stl := by simp
    rw [hset]
    exact spares_raiseStation hstop hjudged
  · simpa using hjudged

@[simp] theorem spares_writeFree (e : Entry) (hc : c ∉ spaceCauses) (h : x.Spares c s.stl) :
    x.Spares c (writeFree e s).stl := by
  have hover : Cause.overrun ≠ c := fun e => hc (by simp [← e, spaceCauses])
  unfold writeFree
  split
  · exact spares_raiseStation hover h
  · exact spares_judgeSpace hc h

@[simp] theorem spares_writeReserved (e : Entry) (hc : c ∉ spaceCauses) (h : x.Spares c s.stl) :
    x.Spares c (writeReserved e s).stl := by
  unfold writeReserved
  split
  · exact spares_writeFree e hc h
  · exact h

@[simp] theorem spares_overrunEntry (n : Nat) (hc : c ∉ spaceCauses) (h : x.Spares c s.stl) :
    x.Spares c (overrunEntry n s).stl := by
  unfold overrunEntry
  split
  · exact spares_judgeSpace hc h
  · exact h

@[simp] theorem spares_release1 (hc : c ∉ spaceCauses) (h : x.Spares c s.stl) : x.Spares c (release1 s).stl := by
  unfold release1
  split
  · exact h
  · exact spares_overrunEntry _ hc (spares_judgeSpace hc h)

@[simp] theorem spares_reserve (k : Nat) (hc : c ∉ spaceCauses) (h : x.Spares c s.stl) :
    x.Spares c (reserve k s).stl := spares_judgeSpace hc h

theorem spares_finish (hc : Cause.serviceChanged ≠ c) (h : x.Spares c s.stl) : x.Spares c (finish s).stl := by
  rw [finish_stl, State.told]
  split
  · exact h.trans ⟨[.serviceChanged], by simpa using hc.symm, rfl⟩
  · exact h

end

/-! ## Station requests (R183 to R185) -/

/-- The station link after an address character for this lane and the frame behind it (R183). -/
def State.listening (s : State) : State := s.setStl { s.stl with rx := .hunting, rxBuf := [], replyTurn := none }

theorem hunt_addressTaken (addr : Byte) (s : State) : hunt (addressTaken addr s) = s.listening := rfl

/-- A request heard on the station link ends with its owner's state and answer, where the owner's rule is one for the
own address and a broadcast and touches no more of the link than its notices. -/
theorem stationRequest_heard {rq : Request} {addr src : Byte} {body : List Byte} {s : State} {f : State × Answer}
    {ns : List Notice} (h : s.hears rq addr) (hlen : rq.lengthOk body.length = true) (hfit : body.length ≤ 240)
    (hrun : ∀ p, p ≠ .lane → rq.run p body s.listening = f)
    (hstl : f.1.stl = { s.listening.stl with notices := ns }) :
    stationRequest rq addr src body s
      = finish (f.1.setStl (s.linkTaken rq addr src f.2 { s.stl with notices := ns })) := by
  obtain ⟨hlive, hclass⟩ := h
  have hheard : (classOf s addr).isSome = true := by
    rcases hclass with hown | ⟨-, hsome⟩
    · simp [hown]
    · exact hsome
  obtain ⟨cls, hcls⟩ := Option.isSome_iff_exists.mp hheard
  have hbroadcast : ¬(portOf cls = .broadcast ∧ (!rq.broadcast) = true) := by
    rcases hclass with hown | ⟨hb, -⟩
    · cases hcls.symm.trans hown
      simp [portOf]
    · simp [hb]
  have hself : f.1.setStl { s.listening.stl with notices := ns } = f.1 := by rw [← hstl]; rfl
  have hact : stationAct cls src rq body s.listening
      = f.1.setStl (s.linkTaken rq addr src f.2 { s.stl with notices := ns }) := by
    unfold stationAct
    rw [if_neg hbroadcast, hlen, if_neg (by simp)]
    cases cls with
    | own =>
      simp only [portOf, hrun .own (by simp), reply, State.ownByte, hstl, State.linkTaken, hcls, if_true]
      rfl
    | group =>
      simp only [portOf, hrun .broadcast (by simp), State.linkTaken, hcls]
      exact hself.symm
    | all =>
      simp only [portOf, hrun .broadcast (by simp), State.linkTaken, hcls]
      exact hself.symm
  unfold stationRequest frameArrives
  rw [if_pos hlive, hcls, hunt_addressTaken]
  simp only [if_neg (not_lt.mpr hfit), hact]

/-- A request that changes nothing but the link leaves a formed state as it was but for the link. -/
theorem stationRequest_quiet {rq : Request} {addr src : Byte} {body : List Byte} {s : State} {a : Answer}
    (h : s.hears rq addr) (hformed : s.formed) (hlen : rq.lengthOk body.length = true) (hfit : body.length ≤ 240)
    (hrun : ∀ p, p ≠ .lane → rq.run p body s.listening = (s.listening, a)) :
    stationRequest rq addr src body s = s.setStl (s.linkTaken rq addr src a s.stl) := by
  rw [stationRequest_heard h hlen hfit hrun (ns := s.stl.notices) rfl]
  exact finish_of_formed hformed

end Sys2Proof.Machine
end

section
/-! SUPPORT. The reset state, the cold start and the key load. -/

namespace Sys2Proof.Machine

/-! ## The reset state (R194) -/

theorem bankReset_ok : Bank.reset.ok := ⟨List.length_replicate, nofun, fun _ => rfl⟩

theorem reset_tears : State.reset.tears = [] := rfl

theorem reset_spaceJudged : State.reset.spaceJudged := ⟨rfl, rfl, rfl⟩

theorem slot_reset (x : Side) : State.reset.slot x = none := by cases x <;> rfl

theorem reset_reservedHeld : State.reset.reservedHeld := by
  unfold State.reservedHeld State.held
  rw [reset_tears]
  decide

/-- Nothing is held, queued or sighted in the reset state. -/
theorem reset_books : State.reset.books where
  left := by unfold State.spaceFits; decide
  right := by
    refine ⟨reset_spaceJudged, reset_reservedHeld, ?queues, ?apart,
      ⟨List.nodup_nil, by decide⟩, ?seen, fun _ h => absurd h List.not_mem_nil, ?tears, ?marks, rfl, rfl, ?tagged⟩
    case queues =>
      intro d
      cases d <;> decide
    case apart =>
      intro a b h
      cases h
    case seen =>
      intro x sl h
      simp [slot_reset] at h
    case tears => simp [State.tearsFit, reset_tears]
    case marks => exact ⟨List.nodup_nil, by decide, by simp [State.reset]⟩
    case tagged =>
      intro x sl h
      simp [slot_reset] at h

theorem reset_readinessOk : State.reset.readinessOk :=
  ⟨rfl, reset_spaceJudged, bankReset_ok, bankReset_ok, nofun⟩

theorem reset_leavesOk : State.reset.leavesOk :=
  ⟨trivial, ⟨by decide, nofun⟩, ⟨nofun, nofun⟩, fun _ => .inl ⟨rfl, rfl⟩,
    ⟨List.mem_singleton_self _, List.mem_singleton_self _⟩, nofun, nofun⟩

theorem reset_timesOk : State.reset.timesOk := by
  refine ⟨by simp [Setup.ok, State.reset, Setup.reset], ?_, by simp [State.clockOk, State.reset], rfl, ?_⟩
  · intro i
    cases i <;> exact ⟨by decide, .inl rfl, fun _ => rfl, nofun⟩
  · intro i
    cases i with
    | beam b => cases b <;> decide
    | switch l w => cases l <;> cases w <;> decide
    | emerg => decide

theorem reset_denyOk : State.reset.denyOk :=
  ⟨⟨by decide, trivial, nofun⟩, List.nodup_nil, nofun, by simp [State.reset]⟩

/-- Settles O4: each invariant, block by block of the reset state. -/
theorem resetMeetsInvariants : Obligations.ResetMeetsInvariants :=
  ⟨⟨⟨rfl, rfl, rfl, rfl⟩, rfl, rfl⟩, ⟨rfl, trivial⟩, reset_books, reset_readinessOk, reset_leavesOk,
    reset_timesOk, reset_denyOk⟩

/-! ## The cold start (R194) -/

theorem reset_laneNotices : ∀ n ∈ State.reset.lpt.notices,
    n.setting = .unmasked ∧ n.count = if n.cause = .restarted then 1 else 0 := by decide

theorem reset_stationNotices : ∀ n ∈ State.reset.stl.notices,
    n.setting = .unmasked ∧ n.count = if n.cause = .coldStart then 1 else 0 := by decide

theorem coldStarted_of (addr : BitVec 6) (rate : BitVec 2) (s : State) (i : Input) :
    (coldStarted addr rate s).inp.of i = { raw := (s.inp.of i).raw, count := 0 } := by
  simp [coldStarted, clearFilters, InFilter.cleared]

theorem bank_reset (i : BankId) : State.reset.fru.bank i = .reset := by cases i <;> rfl

/-- Settles O5: a cold start is the reset state with the straps as read, the queue kept and every filter counting
from 0. -/
theorem coldStartSetsInitialValues : Obligations.ColdStartSetsInitialValues := by
  intro addr rate s
  refine ⟨coldStarted addr rate s, rfl, rfl, rfl, rfl, rfl, coldStarted_of addr rate s, rfl, rfl, rfl, rfl, rfl, rfl,
    rfl, rfl, reset_laneNotices, reset_stationNotices, rfl, rfl, rfl, rfl, rfl, rfl, rfl, rfl, rfl, rfl, rfl, rfl, rfl,
    rfl, rfl, rfl, rfl, rfl, bank_reset, rfl, rfl, rfl, rfl, ?chan, rfl, rfl, rfl, rfl, rfl, rfl, rfl, rfl, rfl, rfl,
    rfl, rfl, rfl, ?switches, rfl, rfl, rfl, rfl, rfl, rfl, rfl, rfl, rfl, rfl, rfl, rfl, rfl, rfl, rfl, rfl, rfl,
    rfl, rfl⟩
  case chan =>
    intro i
    cases i <;> exact ⟨rfl, rfl, rfl, rfl⟩
  case switches =>
    intro l w
    cases l <;> cases w <;> rfl

/-! ## Key loads (R9, R10) -/

theorem keyLoadBody_fields (word : Word32) (label : Word16) :
    BitVec.ofNat 32 (field (toBE 4 word.toNat ++ toBE 2 label.toNat) 0 4) = word
      ∧ BitVec.ofNat 16 (field (toBE 4 word.toNat ++ toBE 2 label.toNat) 4 2) = label := by
  constructor
  · rw [field_append_front _ (by simp), fromBE_toBE]
    exact BitVec.eq_of_toNat_eq (by simp; omega)
  · rw [field_append_skip _ _ (by simp), length_toBE, Nat.sub_self, field_self (by simp), fromBE_toBE]
    exact BitVec.eq_of_toNat_eq (by simp; omega)

/-- What a change of the free count can do to the service clock: JOURNAL_STOP and the mark of the change (R161). -/
def Svc.Judged (v v' : Svc) : Prop :=
  v' = { v with
    reasons := { v.reasons with journalStop := v'.reasons.journalStop }, serviceTouched := v'.serviceTouched }

theorem Svc.Judged.emerg {v v' : Svc} (h : v.Judged v') : v'.emerg = v.emerg := by
  rw [Svc.Judged] at h
  rw [h]

theorem Svc.Judged.stationMode {v v' : Svc} (h : v.Judged v') : v'.stationMode = v.stationMode := by
  rw [Svc.Judged] at h
  rw [h]

theorem Svc.Judged.tickCount {v v' : Svc} (h : v.Judged v') : v'.tickCount = v.tickCount := by
  rw [Svc.Judged] at h
  rw [h]

theorem judgeSpace_judged (s : State) : s.svc.Judged (judgeSpace s).svc := by
  unfold judgeSpace judgeStop setJournalStop setReasons Svc.Judged
  split_ifs <;> simp

theorem writeFree_judged (e : Entry) (s : State) : s.svc.Judged (writeFree e s).svc := by
  unfold writeFree
  split
  · simp [Svc.Judged]
  · simpa using judgeSpace_judged (appendEntry e s)

theorem writeFree_reserved (e : Entry) (s : State) : (writeFree e s).rjn.reserved = s.rjn.reserved := by
  by_cases h : s.free = 0
  · simp [writeFree_full e s h]
  · simp [writeFree_room e s h]

theorem rjn_setNoKey (b : Bool) (s : State) : (setNoKey b s).rjn = s.rjn := by simp

theorem stl_setNoKey (b : Bool) (s : State) : (setNoKey b s).stl = s.stl := by simp

theorem keyRepeat_iff (s : State) (word : Word32) :
    keyRepeat s word = true ↔ ∃ k, s.rck.current = some k ∧ k.word = word := by
  unfold keyRepeat
  cases s.rck.current <;> simp

theorem loadKey_repeat {k : Key} {s : State} (h : keyRepeat s k.word = true) : loadKey k s = s := by
  simp [loadKey, h]

/-- The KEY_CHANGED entry of a key load (R9). -/
def keyChangedEntry (k : Key) (s : State) : Entry :=
  { s.entry .keyChanged .none none with extra := keyChangedExtra k s.rck.current }

/-- A key load that is no repeat: the keys move, and its entry is written from the free pool (R9). -/
theorem loadKey_fresh {k : Key} {s : State} (h : keyRepeat s k.word = false) :
    loadKey k s = setNoKey false (writeFree (keyChangedEntry k s)
      (s.setRck { s.rck with current := some k, previous := s.rck.current })) := by
  rw [loadKey, h]
  rfl

/-- A raised KEY_CHANGED judges the space and clears NO_KEY (R9, R161). -/
theorem loadKey_svc {k : Key} {s : State} (h : keyRepeat s k.word = false) :
    (loadKey k s).svc = { s.svc with
      reasons := { s.svc.reasons with
        noKey := false, journalStop := (loadKey k s).svc.reasons.journalStop }
      serviceTouched := (loadKey k s).svc.serviceTouched } := by
  have hjudged := writeFree_judged (keyChangedEntry k s)
    (s.setRck { s.rck with current := some k, previous := s.rck.current })
  rw [loadKey_fresh h]
  unfold Svc.Judged at hjudged
  unfold setNoKey setReasons
  split
  next hsame => rw [hjudged] at hsame ⊢; simp at hsame ⊢; simp [hsame]
  next => simp only [setSvc_svc]; rw [hjudged]; simp

theorem loadKey_stl {k : Key} {s : State} (h : keyRepeat s k.word = false) :
    (loadKey k s).stl = { s.stl with notices := (loadKey k s).stl.notices } := by
  have hspared : s.stl.Spares .restarted (loadKey k s).stl := by
    rw [loadKey_fresh h, stl_setNoKey]
    exact spares_writeFree _ (by decide) (Stl.Spares.refl _ _)
  exact hspared.eq

/-- Settles O49: a repeat changes nothing but the link; any other key moves the slots and writes its entry. -/
theorem keyLoadMovesKeys : Obligations.KeyLoadMovesKeys := by
  intro addr src word label s hformed hears body
  obtain ⟨hword, hlabel⟩ := keyLoadBody_fields word label
  have hlen : reqKeyLoad.lengthOk body.length = true := by simp [body, reqKeyLoad, exactly]
  have hfit : body.length ≤ 240 := by simp [body]
  have hrun : ∀ p u, reqKeyLoad.run p body u = (loadKey { word := word, label := label } u, okay) := by
    intro p u
    show (loadKey _ u, okay) = _
    rw [hword, hlabel]
  refine ⟨fun hrepeat => ?_, fun hfresh => ?_⟩
  · have hkey : keyRepeat s.listening word = true := (keyRepeat_iff s word).mpr hrepeat
    refine ⟨_, rfl, ?_⟩
    rw [stationRequest_quiet hears hformed hlen hfit (a := okay)
      fun p _ => by rw [hrun, loadKey_repeat hkey]]
    simp [keepsBut, Part.forall_iff, Part.same]
  · have hkey : keyRepeat s.listening word = false := by
      rw [← Bool.not_eq_true, keyRepeat_iff]
      exact fun ⟨k, hk, hw⟩ => hfresh k hk hw
    have hstl := loadKey_stl (k := { word := word, label := label }) hkey
    have hsvc := loadKey_svc (k := { word := word, label := label }) hkey
    have hrjn : (loadKey { word := word, label := label } s.listening).rjn
        = (writeFree (keyChangedEntry { word := word, label := label } s) (s.listening.setRck
          { s.rck with current := some { word := word, label := label }, previous := s.rck.current })).rjn := by
      rw [loadKey_fresh hkey, rjn_setNoKey]
      rfl
    refine ⟨_, rfl, ?_⟩
    rw [stationRequest_heard hears hlen hfit (fun p _ => hrun p _) hstl]
    refine ⟨by simp [keepsBut, Part.forall_iff, Part.same, State.listening], ?_, ?_, ?_, ?_, ?_, ?_⟩
    · rw [loadKey_fresh hkey]
      simp [State.listening]
    · rw [finish_svc, setStl_svc, hsvc]
      simp [State.listening, hformed.2.2]
    · exact ⟨_, finish_stl _⟩
    · rw [rjn_finish, setStl_rjn, hrjn, writeFree_reserved]
      rfl
    · intro hfree
      rw [onlyEntry, rjn_finish, setStl_rjn, hrjn,
        writeFree_room _ (s.listening.setRck _) (Nat.pos_iff_ne_zero.mp hfree)]
      rfl
    · intro hfree
      rw [rjn_finish, setStl_rjn, hrjn, writeFree_full _ (s.listening.setRck _) hfree]
      rfl

end Sys2Proof.Machine
end

section
/-! SUPPORT. A presentation on the lane port: what the port adds, when step 1 passes, and what a refusal leaves. -/

namespace Sys2Proof.Machine

/-! ## The lane port (R178, R179) -/

/-- The state in which the owner of a lane request takes it: its frame recorded (R179). -/
def State.taking (s : State) (code : Byte) (body : List Byte) : State := recordTransfer (laneFrame code body) s

/-- A lane request with a body of its length, on a port with no response waiting, ends with the owner's answer in the
response slot. -/
theorem laneRequest_open {rq : Request} {body : List Byte} {s : State} (h : s.laneOpen)
    (hlen : rq.lengthOk body.length = true) (hfit : body.length ≤ 250) :
    laneRequest rq body s = finish (respond (rq.code + 0x80) (rq.run .lane body (s.taking rq.code body)).2
      (rq.run .lane body (s.taking rq.code body)).1) := by
  obtain ⟨hlive, hslot⟩ := h
  unfold laneRequest laneTake laneJudge laneAct
  rw [if_pos hlive, hslot]
  simp only [if_neg (not_lt.mpr hfit), hlen, if_true]
  rfl

/-- The state a presentation is judged in. -/
def State.shown (s : State) (x : Side) (image : List Byte) : State := s.taking 0x01 (sideCode (some x) :: image)

/-- A presentation answered: the owner's state with its verdict in the response slot, at the end of the event. -/
def presented (r : State × Verdict) : State := finish (respond 0x81 { result := .ok, data := r.2.bytes } r.1)

theorem exec_cardPresent {s : State} {x : Side} {image : List Byte} (h : s.laneOpen) (hlen : image.length = 48) :
    exec (.cardPresent (sideCode (some x) :: image)) s = .next (presented (present x image (s.shown x image))) := by
  have hside : ∀ u, reqCardPresent.run .lane (sideCode (some x) :: image) u
      = ((present x image u).1, { result := .ok, data := (present x image u).2.bytes }) := by
    intro u
    cases x <;> rfl
  show Host.Outcome.next (laneRequest reqCardPresent _ s) = _
  rw [laneRequest_open h (by simp [reqCardPresent, exactly, hlen]) (by simp [hlen]), hside]
  rfl

theorem presented_responseSlot (r : State × Verdict) : (presented r).lpt.responseSlot
    = some { kind := 0x81, body := 0 :: r.2.bytes, overrun := false } := by
  rw [presented, finish_responseSlot]
  rfl

theorem presented_flash (r : State × Verdict) (x : Side) : (presented r).flash x = r.1.flash x := by
  rw [presented, finish_flash]
  rfl

theorem rjn_presented (r : State × Verdict) : (presented r).rjn = r.1.rjn := by
  rw [presented, rjn_finish]
  rfl

/-- The parts that the port and the end of the event leave as the owner left them. -/
theorem presented_keeps (r : State × Verdict) : keepsBut [.lpt, .stl, .svc, .sgu] r.1 (presented r) := by
  simp [keepsBut, Part.forall_iff, Part.same, presented, respond]

theorem presented_spares {c : Cause} (hc : Cause.serviceChanged ≠ c) (r : State × Verdict) :
    r.1.stl.Spares c (presented r).stl := spares_finish hc (Stl.Spares.refl _ _)

theorem keepsBut.trans {ps : List Part} {s t u : State} (h : keepsBut ps s t) (h' : keepsBut ps t u) :
    keepsBut ps s u := by
  intro p hp
  have hst := h p hp
  have htu := h' p hp
  cases p <;> exact Eq.trans htu hst

theorem keepsBut.mono {ps qs : List Part} {s t : State} (h : keepsBut ps s t) (hsub : ps ⊆ qs) :
    keepsBut qs s t := fun p hp => h p fun hmem => hp (hsub hmem)

/-- A presentation's frame: what its owner changes, and what the port and the end of the event do. -/
theorem presented_frame {s : State} (x : Side) (image : List Byte) {r : State × Verdict} {ps : List Part}
    (hports : [.lpt, .stl, .svc, .sgu] ⊆ ps) (h : keepsBut ps (s.shown x image) r.1) :
    keepsBut ps s (presented r) := by
  have hshown : keepsBut ps s (s.shown x image) := by
    intro p hp
    cases p with
    | lpt => exact absurd (hports (by simp)) hp
    | _ => rfl
  exact (hshown.trans h).trans ((presented_keeps r).mono hports)

/-! ## Step 1 (R34) -/

theorem journalStop_of_empty {r : Reasons} (h : r.empty = true) : r.journalStop = false := by
  cases hstop : r.journalStop with
  | false => rfl
  | true => simp [Reasons.empty, hstop] at h

theorem Presentable.free {s : State} {x : Side} (h : Presentable s x) : 64 ≤ s.free := by
  obtain ⟨-, -, -, ⟨-, ⟨-, hstop, hreason⟩, -⟩, -, hempty, -⟩ := h
  rw [← hreason, journalStop_of_empty hempty] at hstop
  simpa using hstop

theorem availability_none {s : State} {x : Side} (h : Presentable s x) : availability s x = none := by
  obtain ⟨-, -, -, -, hmode, hempty, hpermits, hslot, hroom⟩ := h
  have hclaim : s.claim x = false := by rw [State.claim, hslot]
  have hplace : s.room x = true := by simpa [State.room, hclaim] using hroom
  rw [availability, if_neg hmode, hempty, hpermits, hslot, hplace]
  rfl

/-! ## Refusals (R39, R148) -/

theorem effMode_of_judged {s t : State} (h : s.svc.Judged t.svc) : t.effMode = s.effMode := by
  simp [State.effMode, h.emerg, h.stationMode]

theorem flash_sguRefuse {s : State} {x : Side} (h : s.effMode ≠ .free) :
    (sguRefuse x s).flash x = some (s.svc.tickCount + 64) := by
  unfold sguRefuse
  dsimp only
  rw [if_neg h]
  cases x <;> rfl

/-- A refusal written from the free pool flashes RED for 64 ticks from the presentation. -/
theorem flash_refusal {s t : State} {x : Side} (e : Entry) (h : s.effMode ≠ .free) (ht : t.svc = s.svc) :
    (sguRefuse x (writeFree e t)).flash x = some (s.svc.tickCount + 64) := by
  have hjudged := writeFree_judged e t
  have hmode : (writeFree e t).effMode = s.effMode := by
    rw [effMode_of_judged hjudged]
    simp [State.effMode, ht]
  rw [flash_sguRefuse (hmode ▸ h), hjudged.tickCount, ht]

/-- The one entry of a presentation that writes one from the free pool. -/
theorem presented_onlyEntry {s t : State} {r : State × Verdict} {e : Entry} (hfree : s.free ≠ 0)
    (ht : t.rjn = s.rjn) (hr : r.1.rjn = (writeFree e t).rjn) : onlyEntry e s (presented r) := by
  have hroom : t.free ≠ 0 := by simpa [State.free, ht] using hfree
  rw [onlyEntry, rjn_presented, hr, writeFree_room e t hroom, ht]

/-- The record check fails under both keys (R5, R7). -/
theorem recordPasses_false {s : State} {image : List Byte}
    (h : ∀ k, s.rck.current = some k ∨ s.rck.previous = some k →
      (crc32 k.word (image.take 44)).toNat ≠ field image 44 4) : recordPasses s image = false := by
  have hslot : ∀ slot : Option Key, (∀ k, slot = some k → (crc32 k.word (image.take 44)).toNat ≠ field image 44 4) →
      passesUnder slot image = false := by
    intro slot hne
    cases slot with
    | none => rfl
    | some k =>
      have hlt := field_lt image 44 4
      have hne' := hne k rfl
      simp only [passesUnder, recordCheck, storedCheck, beq_eq_false_iff_ne, ne_eq]
      intro heq
      rw [heq, BitVec.toNat_ofNat] at hne'
      exact hne' (Nat.mod_eq_of_lt hlt)
  rw [recordPasses, hslot _ fun k hk => h k (.inl hk), hslot _ fun k hk => h k (.inr hk)]
  rfl

/-- Settles O28: steps 2 and 3 refuse before anything but the journal and SGU is told. -/
theorem unsoundImagesRefused : Obligations.UnsoundImagesRefused := by
  intro x image s hp hlen c parts
  have havail : availability (s.shown x image) x = none := availability_none hp
  have hfree : s.free ≠ 0 := by have := hp.free; omega
  obtain ⟨hopen, -, -, -, hmode, -⟩ := hp
  rw [exec_cardPresent hopen hlen]
  refine ⟨fun n hn => ⟨_, rfl, ?_⟩, fun hform hcheck => ⟨_, rfl, ?_⟩⟩
  · have hpresent : present x image (s.shown x image)
        = refuseUnreadable { side := x, card := readCard image } n (s.shown x image) := by
      simp only [present, havail]
      rw [show formFault (readCard image) = some n from hn]
    rw [hpresent]
    refine ⟨?_, ?_, presented_onlyEntry (t := s.shown x image) hfree rfl (by simp [refuseUnreadable]; rfl), ?_⟩
    · exact presented_frame x image (by simp [parts]) (by simp [keepsBut, Part.forall_iff, Part.same, parts])
    · rw [presented_responseSlot]
      rfl
    · rw [presented_flash]
      exact flash_refusal _ hmode rfl
  · have hpresent : present x image (s.shown x image)
        = refuseTampered { side := x, card := readCard image } (s.shown x image) := by
      simp only [present, havail]
      rw [show formFault (readCard image) = none from hform]
      simp [recordPasses_false (s := s.shown x image) hcheck]
    rw [hpresent]
    refine ⟨?_, ?_, presented_onlyEntry (t := raiseStation .tamper (s.shown x image)) hfree rfl ?_, ?_, ?_⟩
    · exact presented_frame x image (by simp [parts]) (by simp [keepsBut, Part.forall_iff, Part.same, parts])
    · rw [presented_responseSlot]
      rfl
    · simp [refuseTampered, refuseWith]
      rfl
    · have hraised : (raiseStation .tamper (s.shown x image)).stl.Spares .tamper
          (presented (refuseTampered { side := x, card := readCard image } (s.shown x image))).stl := by
        refine Stl.Spares.trans ?_ (presented_spares (by decide) _)
        simp only [refuseTampered, refuseWith, sguRefuse_frame]
        exact spares_writeFree _ (by decide) (Stl.Spares.refl _ _)
      exact raisedOnce_of_same rfl hraised.notices
    · rw [presented_flash]
      exact flash_refusal _ hmode rfl

end Sys2Proof.Machine
end

section
/-! SUPPORT. Card images: what is read of the bytes that are written, and the form of an issued card (R1 to R3, R15). -/

namespace Sys2Proof.Machine

/-! ## Images (R1, R196) -/

/-- The fields of a card are in the widths of R196. -/
structure Card.Fits (c : Card) : Prop where
  number : c.number < 256 ^ 4
  kindCode : c.kindCode < 256 ^ 1
  cls : c.cls < 256 ^ 1
  transfers : c.transfers < 256 ^ 1
  balance : -2147483648 ≤ c.balance ∧ c.balance ≤ 2147483647
  entryStation : c.entryStation < 256 ^ 2
  entryZone : c.entryZone < 256 ^ 1
  entryLane : c.entryLane < 256 ^ 1
  entryDay : c.entryDay < 256 ^ 2
  entrySecs : c.entrySecs < 256 ^ 3
  exitDay : c.exitDay < 256 ^ 2
  exitSecs : c.exitSecs < 256 ^ 3
  spendDay : c.spendDay < 256 ^ 2
  spendAmount : c.spendAmount < 256 ^ 4
  passFirst : c.passFirst < 256 ^ 2
  passLast : c.passLast < 256 ^ 2
  passLow : c.passLow < 256 ^ 1
  passHigh : c.passHigh < 256 ^ 1
  writer : c.writer < 256 ^ 2

theorem readCard_fits (im : List Byte) : (readCard im).Fits where
  number := field_lt ..
  kindCode := field_lt ..
  cls := field_lt ..
  transfers := field_lt ..
  balance := by
    have hlow := BitVec.le_toInt (BitVec.ofNat 32 (field im 12 4))
    have hhigh := BitVec.toInt_lt (x := BitVec.ofNat 32 (field im 12 4))
    simp only [readCard, fieldSigned]
    omega
  entryStation := field_lt ..
  entryZone := field_lt ..
  entryLane := field_lt ..
  entryDay := field_lt ..
  entrySecs := field_lt ..
  exitDay := field_lt ..
  exitSecs := field_lt ..
  spendDay := field_lt ..
  spendAmount := field_lt ..
  passFirst := field_lt ..
  passLast := field_lt ..
  passLow := field_lt ..
  passHigh := field_lt ..
  writer := field_lt ..

theorem length_cardBytes (c : Card) : (cardBytes c).length = 44 := by
  unfold cardBytes
  simp

/-- A signed field of 4 bytes holds the word it was written from. -/
theorem ofNat_fromBE_toBE32s (v : Int) : BitVec.ofNat 32 (fromBE (toBE32s v)) = BitVec.ofInt 32 v := by
  have hlt : (BitVec.ofInt 32 v).toNat < 256 ^ 4 := (BitVec.ofInt 32 v).isLt
  rw [toBE32s, fromBE_toBE, Nat.mod_eq_of_lt hlt]
  rw [BitVec.ofNat_toNat, BitVec.setWidth_eq]

theorem toInt_ofInt_of_range {v : Int} (h : -2147483648 ≤ v ∧ v ≤ 2147483647) : (BitVec.ofInt 32 v).toInt = v := by
  rw [BitVec.toInt_ofInt]
  unfold Int.bmod
  norm_num
  omega

theorem field_toBE_front (n v : Nat) (rest : List Byte) : field (toBE n v ++ rest) 0 n = v % 256 ^ n := by
  rw [field_append_front _ (length_toBE n v), fromBE_toBE]

theorem field_toBE_skip (n v : Nat) {off : Nat} (rest : List Byte) (len : Nat) (h : n ≤ off) :
    field (toBE n v ++ rest) off len = field rest (off - n) len := by
  rw [field_append_skip _ _ (by simpa using h), length_toBE]

theorem field_toBE32s_front (v : Int) (rest : List Byte) :
    field (toBE32s v ++ rest) 0 4 = fromBE (toBE32s v) := field_append_front _ (length_toBE32s v)

theorem field_toBE32s_skip (v : Int) {off : Nat} (rest : List Byte) (len : Nat) (h : 4 ≤ off) :
    field (toBE32s v ++ rest) off len = field rest (off - 4) len := field_toBE_skip 4 _ rest len h

theorem ofNat_toNat_mod (x : Word16) : BitVec.ofNat 16 (x.toNat % 256 ^ 2) = x := by
  have hlt : x.toNat < 256 ^ 2 := x.isLt
  rw [Nat.mod_eq_of_lt hlt, BitVec.ofNat_toNat, BitVec.setWidth_eq]

/-- What is read of a written card is the card. -/
theorem readCard_cardBytes {c : Card} (h : c.Fits) (tail : List Byte) : readCard (cardBytes c ++ tail) = c := by
  unfold readCard cardBytes fieldSigned
  simp only [List.append_assoc, List.cons_append, List.nil_append,
    field_toBE_front, field_toBE_skip, field_toBE32s_front, field_toBE32s_skip, field_cons_front, field_cons_skip,
    Nat.reduceLeDiff, Nat.reduceSub]
  simp only [ofNat_fromBE_toBE32s, toInt_ofInt_of_range h.balance, ofNat_toNat_mod, BitVec.ofNat_toNat,
    BitVec.setWidth_eq, Nat.mod_eq_of_lt h.number, Nat.mod_eq_of_lt h.kindCode, Nat.mod_eq_of_lt h.cls,
    Nat.mod_eq_of_lt h.transfers, Nat.mod_eq_of_lt h.entryStation, Nat.mod_eq_of_lt h.entryZone,
    Nat.mod_eq_of_lt h.entryLane, Nat.mod_eq_of_lt h.entryDay, Nat.mod_eq_of_lt h.entrySecs,
    Nat.mod_eq_of_lt h.exitDay, Nat.mod_eq_of_lt h.exitSecs, Nat.mod_eq_of_lt h.spendDay,
    Nat.mod_eq_of_lt h.spendAmount, Nat.mod_eq_of_lt h.passFirst, Nat.mod_eq_of_lt h.passLast,
    Nat.mod_eq_of_lt h.passLow, Nat.mod_eq_of_lt h.passHigh, Nat.mod_eq_of_lt h.writer]

/-! ## The form of a card (R3) -/

/-- A card in form: none of the conditions of R3 holds. -/
structure Card.Formed (c : Card) : Prop where
  number : c.number ≠ 0 ∧ c.number ≠ 4294967295
  kind : (c.isStored = true ∨ c.isPass = true) ∨ c.isStaff = true
  cls : c.cls ≤ 7
  flags : c.flags &&& 0xFC = 0
  transfers : c.transfers ≤ 3
  balance : -99999 ≤ c.balance ∧ c.balance ≤ 9999999
  entryZone : c.entryOpen = true → c.entryZone ≤ 15
  entrySecs : c.entryOpen = true → c.entrySecs ≤ 86399
  exitSecs : c.exitSecs ≤ 86399
  spendAmount : c.spendAmount ≤ 9999999
  zones : c.isPass = true → c.passLow ≤ 15 ∧ c.passHigh ≤ 15
  zoneOrder : c.isPass = true → c.passLow ≤ c.passHigh
  dayOrder : c.isPass = true → c.passFirst ≤ c.passLast

theorem ite_some_none_iff {p : Prop} [Decidable p] (n : Nat) (x : Option Nat) :
    (if p then some n else x) = none ↔ ¬p ∧ x = none := by
  split <;> simp [*]

theorem formFault_none_iff (c : Card) : formFault c = none ↔ c.Formed := by
  unfold formFault
  simp only [ite_some_none_iff, Bool.or_eq_true, Bool.and_eq_true, decide_eq_true_eq, Bool.not_eq_true',
    Bool.not_eq_false, not_or, not_and, not_lt, not_not, ne_eq, and_true]
  constructor
  · rintro ⟨hnumber, hkind, hcls, hflags, htransfers, hbalance, hzone, ⟨hentry, hexit⟩, hspend, hzones, hzoneOrder,
      hdayOrder⟩
    exact ⟨hnumber, hkind, hcls, hflags, htransfers, hbalance, hzone, hentry, hexit, hspend, hzones, hzoneOrder,
      hdayOrder⟩
  · rintro ⟨hnumber, hkind, hcls, hflags, htransfers, hbalance, hzone, hentry, hexit, hspend, hzones, hzoneOrder,
      hdayOrder⟩
    exact ⟨hnumber, hkind, hcls, hflags, htransfers, hbalance, hzone, ⟨hentry, hexit⟩, hspend, hzones, hzoneOrder,
      hdayOrder⟩

/-! ## Issued cards (R15) -/

theorem Card.Fits.clearEntry {c : Card} (h : c.Fits) : (Machine.clearEntry c).Fits :=
  { h with entryStation := Nat.two_pow_pos 16, entryZone := Nat.two_pow_pos 8, entryLane := Nat.two_pow_pos 8
           entryDay := Nat.two_pow_pos 16, entrySecs := Nat.two_pow_pos 24 }

/-- An issued card with the entry record it keeps. -/
def keptEntry (c : Card) : Card := if c.entryOpen then c else clearEntry c

theorem issuedCard_eq (s : State) (c : Card) : issuedCard s c = { keptEntry c with
    flags := c.flags &&& 3, seq := c.seq + 1, tag := writeTag s.rck.w s.laneAddr, writer := s.setup.stationCode } := by
  unfold issuedCard keptEntry
  split <;> rfl

theorem issuedCard_fits {s : State} {c : Card} (h : c.Fits) (hstation : s.setup.stationCode < 65536) :
    (issuedCard s c).Fits := by
  have hkept : (keptEntry c).Fits := by
    unfold keptEntry
    split
    · exact h
    · exact h.clearEntry
  rw [issuedCard_eq]
  exact { hkept with writer := hstation }

theorem entryOpen_and (f : Byte) (m : Byte) (hm : m.getLsbD 0 = true) : (f &&& m).getLsbD 0 = f.getLsbD 0 := by
  simp [hm]

/-- An issued card is in form where its content is. -/
theorem issuedCard_formed {s : State} {c : Card} (h : c.Formed) : (issuedCard s c).Formed := by
  have hflags : (c.flags &&& 3) &&& 0xFC = 0 := by
    rw [BitVec.and_assoc]
    simp
  have hopen : (c.flags &&& 3).getLsbD 0 = c.entryOpen := entryOpen_and _ _ (by decide)
  unfold issuedCard
  split
  next hentry =>
    exact { h with
      flags := hflags, entryZone := fun _ => h.entryZone hentry, entrySecs := fun _ => h.entrySecs hentry }
  next hentry =>
    exact { h with
      flags := hflags, entryZone := fun _ => Nat.zero_le _, entrySecs := fun _ => Nat.zero_le _ }

/-- In form, a card has no flag but the two defined ones. -/
theorem Card.Formed.flags_low {c : Card} (h : c.Formed) : c.flags &&& 3 = c.flags := by
  have hsplit : c.flags &&& 3 ||| c.flags &&& 0xFC = c.flags := by
    rw [← BitVec.and_or_distrib_left]
    exact BitVec.and_allOnes
  rw [h.flags] at hsplit
  simpa using hsplit

end Sys2Proof.Machine
end

section
/-! SUPPORT. The sighting table: what is looked up after a touch, a replacement and an insertion (R89 to R91). -/

namespace Sys2Proof.Machine

/-! ## Looking a card up (R89) -/

theorem card_of_sighting {s : State} {c : Nat} {e : Sighting} (h : s.sighting c = some e) : e.card = c := by
  simpa using List.find?_some h

theorem mem_of_sighting {s : State} {c : Nat} {e : Sighting} (h : s.sighting c = some e) : e ∈ s.scu.sightings :=
  List.mem_of_find?_eq_some h

theorem sighting_none_iff {s : State} {c : Nat} : s.sighting c = none ↔ ∀ e ∈ s.scu.sightings, e.card ≠ c := by
  simp [State.sighting, List.find?_eq_none]

theorem sighting_of_table {s t : State} (h : t.scu.sightings = s.scu.sightings) (c : Nat) :
    t.sighting c = s.sighting c := by
  rw [State.sighting, h, State.sighting]

theorem sighting_of_scu {s t : State} (h : t.scu = s.scu) (c : Nat) : t.sighting c = s.sighting c :=
  sighting_of_table (congrArg Scu.sightings h) c

/-! ## Touches (R91) -/

theorem sighting_touch_same (e : Sighting) (s : State) : (touchSighting e s).sighting e.card = some e := by
  have hgone : (s.scu.sightings.filter fun x => x.card != e.card).find? (fun x => x.card == e.card) = none := by
    simp [List.find?_eq_none]
  show ((s.scu.sightings.filter fun x => x.card != e.card) ++ [e]).find? (fun x => x.card == e.card) = some e
  rw [List.find?_append, hgone]
  simp

theorem sighting_touch_other {e : Sighting} {c : Nat} (h : c ≠ e.card) (s : State) :
    (touchSighting e s).sighting c = s.sighting c := by
  show ((s.scu.sightings.filter fun x => x.card != e.card) ++ [e]).find? (fun x => x.card == c) = s.sighting c
  rw [List.find?_append, List.find?_filter, List.find?_singleton, if_neg (by simpa using h.symm), Option.or_none]
  refine congrArg (fun p => s.scu.sightings.find? p) (funext fun x => ?_)
  by_cases hx : x.card = c <;> simp [hx, h]

theorem getLast?_touch (e : Sighting) (s : State) : (touchSighting e s).scu.sightings.getLast? = some e :=
  List.getLast?_concat

/-- A touch of a card's entry: the card shows the entry, the newest of the table, and every other card what it showed. -/
theorem touched {e : Sighting} {c : Nat} (h : e.card = c) (s : State) :
    (touchSighting e s).sighting c = some e
      ∧ (∀ m, m ≠ c → (touchSighting e s).sighting m = s.sighting m)
      ∧ (touchSighting e s).scu.sightings.getLast? = some e := by
  subst h
  exact ⟨sighting_touch_same e s, fun m hm => sighting_touch_other hm s, getLast?_touch e s⟩

/-! ## Replacements -/

theorem sighting_put_same {e x : Sighting} {s : State} (h : s.sighting e.card = some x) :
    (putSighting e s).sighting e.card = some e := by
  show (s.scu.sightings.map fun y => if y.card = e.card then e else y).find? (fun y => y.card == e.card) = some e
  have hsame : ((fun y : Sighting => y.card == e.card) ∘ fun y => if y.card = e.card then e else y)
      = fun y => y.card == e.card := by
    funext y
    by_cases hy : y.card = e.card <;> simp [hy]
  have hfind : (s.scu.sightings.find? fun y => y.card == e.card) = some x := h
  rw [List.find?_map, hsame, hfind]
  simp [card_of_sighting h]

theorem sighting_put_other {e : Sighting} {c : Nat} (h : c ≠ e.card) (s : State) :
    (putSighting e s).sighting c = s.sighting c := by
  show (s.scu.sightings.map fun y => if y.card = e.card then e else y).find? (fun y => y.card == c) = s.sighting c
  have hsame : ((fun y : Sighting => y.card == c) ∘ fun y => if y.card = e.card then e else y)
      = fun y => y.card == c := by
    funext y
    by_cases hy : y.card = e.card
    · simp [hy]
    · simp [hy]
  rw [List.find?_map, hsame, State.sighting]
  cases hfind : s.scu.sightings.find? fun y => y.card == c with
  | none => rfl
  | some x =>
    have hx : x.card = c := by simpa using List.find?_some hfind
    simp [hx, h]

/-! ## Places for a new entry (R90, R91) -/

/-- The table has a place for a new entry, or an entry that may be evicted for it. -/
def HasPlace (l : List Sighting) : Prop := l.length < 512 ∨ l.length = 512 ∧ ∃ e ∈ l, e.pinned = false

/-- Cards of the entries that hold a record, without repetition, are no more than a list that names them all. -/
theorem length_filter_le {l : List Sighting} {p : Sighting → Bool} {cards : List Nat}
    (hnodup : (l.map Sighting.card).Nodup) (hsub : ∀ e ∈ l, p e = true → e.card ∈ cards) :
    (l.filter p).length ≤ cards.length := by
  have hcards : ((l.filter p).map Sighting.card).Nodup := hnodup.sublist (List.filter_sublist.map _)
  have hin : (l.filter p).map Sighting.card ⊆ cards := by
    intro c hc
    obtain ⟨e, he, rfl⟩ := List.mem_map.mp hc
    obtain ⟨hmem, hp⟩ := List.mem_filter.mp he
    exact hsub e hmem hp
  simpa using (List.subperm_of_subset hcards hin).length_le

theorem length_filter_tear (l : List Sighting) : (l.filter fun e => e.tear.isSome).length
    = (l.filterMap fun e => match e.tear with | some t => some (e.card, t) | none => none).length := by
  induction l with
  | nil => rfl
  | cons e l ih => cases h : e.tear <;> simp [h, ih]

theorem length_filter_pinned_le (l : List Sighting) : (l.filter Sighting.pinned).length
    ≤ (l.filter fun e => e.inFlight.isSome).length + (l.filter fun e => e.tear.isSome).length
      + (l.filter fun e => e.mark.isSome).length := by
  induction l with
  | nil => exact Nat.zero_le _
  | cons e l ih =>
    cases hf : e.inFlight <;> cases ht : e.tear <;> cases hm : e.mark <;> simp [Sighting.pinned, hf, ht, hm] at ih ⊢ <;>
      omega

/-- The cards of the slots. -/
def State.slotCards (s : State) : List Nat := s.txu.slotU.toList.map Slot.card ++ s.txu.slotP.toList.map Slot.card

theorem length_slotCards_le (s : State) : s.slotCards.length ≤ 2 := by
  have hone : ∀ o : Option Slot, o.toList.length ≤ 1 := fun o => by cases o <;> simp
  have hu := hone s.txu.slotU
  have hp := hone s.txu.slotP
  simp [State.slotCards]
  omega

theorem mem_slotCards {s : State} {x : Side} {sl : Slot} (h : s.slot x = some sl) : sl.card ∈ s.slotCards := by
  cases x with
  | u => simp [State.slotCards, show s.txu.slotU = some sl from h]
  | p => simp [State.slotCards, show s.txu.slotP = some sl from h]

/-- At most 42 entries are pinned (R90), so a place is always found. -/
theorem hasPlace_of_books {s : State} (h : s.books) : HasPlace s.scu.sightings := by
  obtain ⟨-, -, -, -, -, ⟨hnodup, hlen⟩, -, hflights, htears, ⟨-, hmarks, hlisted⟩, -⟩ := h
  rcases Nat.lt_or_ge s.scu.sightings.length 512 with hlt | hge
  · exact .inl hlt
  refine .inr ⟨by omega, ?_⟩
  by_contra hall
  push Not at hall
  have hpinned : s.scu.sightings.filter Sighting.pinned = s.scu.sightings :=
    List.filter_eq_self.mpr fun e he => by simpa using hall e he
  have hflight := length_filter_le hnodup (p := fun e => e.inFlight.isSome) (cards := s.slotCards) fun e he hf => by
    obtain ⟨x, sl, hslot, hcard⟩ := hflights e he hf
    exact hcard ▸ mem_slotCards hslot
  have htear := length_filter_tear s.scu.sightings
  have hmark := length_filter_le hnodup (p := fun e => e.mark.isSome) (cards := s.scu.markOrder) fun e he hm =>
    (hlisted e.card).mpr ⟨e, he, rfl, hm⟩
  have hsum := length_filter_pinned_le s.scu.sightings
  have htwo := length_slotCards_le s
  have hthirty : (s.scu.sightings.filterMap fun e =>
    match e.tear with | some t => some (e.card, t) | none => none).length ≤ 32 := htears
  rw [hpinned] at hsum
  omega

theorem evictOldest_sublist (l : List Sighting) : (evictOldest l).Sublist l := by
  induction l with
  | nil => exact .slnil
  | cons e l ih =>
    rw [evictOldest]
    split
    · exact ih.cons_cons e
    · exact List.sublist_cons_self e l

theorem length_evictOldest_lt {l : List Sighting} (h : ∃ e ∈ l, e.pinned = false) :
    (evictOldest l).length < l.length := by
  induction l with
  | nil => simp at h
  | cons e l ih =>
    rw [evictOldest]
    split
    next hpinned =>
      obtain ⟨e', hmem, hfree⟩ := h
      rcases List.mem_cons.mp hmem with rfl | hmem
      · simp [hpinned] at hfree
      · simpa using ih ⟨e', hmem, hfree⟩
    next => simp

/-- An insertion puts the entry at the most recent end, behind entries that stood. -/
theorem insertSighting_place (e : Sighting) {s : State} (h : HasPlace s.scu.sightings) :
    ∃ l, insertSighting e s = s.setScu { s.scu with sightings := l ++ [e] } ∧ l.Sublist s.scu.sightings := by
  unfold insertSighting
  rcases h with hlt | ⟨hfull, hloose⟩
  · exact ⟨_, if_pos hlt, List.Sublist.refl _⟩
  · have hevict := length_evictOldest_lt hloose
    rw [if_neg (by omega)]
    exact ⟨_, if_pos (by omega), evictOldest_sublist _⟩

/-- A card without an entry shows the one inserted for it. -/
theorem inserted {e : Sighting} {c : Nat} {s : State} (hcard : e.card = c) (h : HasPlace s.scu.sightings)
    (hnone : s.sighting c = none) :
    (insertSighting e s).sighting c = some e ∧ (insertSighting e s).scu.sightings.getLast? = some e := by
  subst hcard
  obtain ⟨l, heq, hsub⟩ := insertSighting_place e h
  rw [heq]
  refine ⟨?_, List.getLast?_concat⟩
  have hgone : l.find? (fun x => x.card == e.card) = none := by
    rw [List.find?_eq_none]
    intro x hx
    simpa using sighting_none_iff.mp hnone x (hsub.subset hx)
  show (l ++ [e]).find? (fun x => x.card == e.card) = some e
  rw [List.find?_append, hgone]
  simp

/-! ## Verdicts that issue an image (R96) -/

/-- The entry of a card whose verdict issues an image: as the lane saw it now, with the in-flight record. -/
theorem sighting_sightIssue {card : Nat} (ev : SightEvent) (fl : InFlight) {s : State}
    (hplace : HasPlace s.scu.sightings) (hclear : ∀ e, s.sighting card = some e → e.tear = none ∧ e.mark = none) :
    (sightIssue card ev fl s).sighting card
      = some { localSighting s card fl.oldSeq fl.oldTag ev with inFlight := some fl } := by
  unfold sightIssue
  cases hseen : s.sighting card with
  | none => exact (inserted rfl hplace hseen).1
  | some e =>
    have hcard := card_of_sighting hseen
    obtain ⟨htear, hmark⟩ := hclear e hseen
    subst hcard
    simp only [Sighting.setLocal, htear, hmark]
    exact (touched rfl s).1

end Sys2Proof.Machine
end

section
/-! SUPPORT. Verdicts that issue an image: what the slot, the image, the counter, the channel and the sighting hold
(R13 to R15, R31, R40, R96). -/

namespace Sys2Proof.Machine

/-! ## The state an image is issued in -/

theorem Svc.Judged.day {v v' : Svc} (h : v.Judged v') : v'.day = v.day := by
  rw [Svc.Judged] at h
  rw [h]

theorem Svc.Judged.secs {v v' : Svc} (h : v.Judged v') : v'.secs = v.secs := by
  rw [Svc.Judged] at h
  rw [h]

theorem laneAddr_reserve (k : Nat) (s : State) : (reserve k s).laneAddr = s.laneAddr := by
  have hnotices := (spares_reserve (c := .restarted) k (by decide) (Stl.Spares.refl _ s.stl)).eq
  rw [State.laneAddr, hnotices, State.laneAddr]

theorem laneAddr_issueState (s : State) : (issueState s).laneAddr = s.laneAddr := laneAddr_reserve 3 s

theorem rck_issueState (s : State) : (issueState s).rck = { s.rck with w := s.rck.w + 1 } := by
  simp [issueState, bumpW]

theorem svc_issueState (s : State) : (issueState s).svc = (reserve 3 s).svc := by simp [issueState]

theorem issueState_judged (s : State) : s.svc.Judged (issueState s).svc := by
  have hjudged := judgeSpace_judged (s.setRjn { s.rjn with reserved := s.rjn.reserved + min 3 s.free })
  rw [setRjn_svc] at hjudged
  rw [svc_issueState, reserve]
  exact hjudged

theorem rjn_issueState (s : State) : (issueState s).rjn = (reserve 3 s).rjn := by simp [issueState]

theorem localSighting_eq {s t : State} (hjudged : s.svc.Judged t.svc) (hsetup : t.setup = s.setup)
    (haddr : t.laneAddr = s.laneAddr) (card : Nat) (q g : Word16) (ev : SightEvent) :
    localSighting t card q g ev = localSighting s card q g ev := by
  simp [localSighting, hjudged.day, hjudged.secs, hsetup, haddr]

theorem slot_of_txu {s t : State} (h : t.txu = s.txu) (x : Side) : t.slot x = s.slot x := by
  cases x <;> simp [State.slot, h]

/-- The state in which SCU records an issue. -/
def awaitState (p : Shown) (i : Issue) (s : State) : State :=
  chanStart (writeOf p.side) s.setup.writeTimeout 0 (setSlot p.side (some (i.slot p s)) (issueState s))

theorem issue_eq (p : Shown) (i : Issue) (s : State) :
    issue p i s = sightIssue p.card.number i.event (i.flight p s) (awaitState p i s) := rfl

theorem issue_judged (p : Shown) (i : Issue) (s : State) : s.svc.Judged (issue p i s).svc := by
  simpa [issue] using issueState_judged s

theorem rjn_issue (p : Shown) (i : Issue) (s : State) : (issue p i s).rjn = (reserve 3 s).rjn := by
  simp [issue, rjn_issueState]

theorem chan_issue (p : Shown) (i : Issue) (s : State) :
    (issue p i s).chan (writeOf p.side) = .start s.setup.writeTimeout 0 := by
  have hltu : (issue p i s).ltu = (awaitState p i s).ltu := by simp [issue_eq]
  rw [State.chan, hltu]
  exact (chan_chanStart ..).trans (if_pos rfl)

theorem slot_issue (p : Shown) (i : Issue) (s : State) (y : Side) :
    (issue p i s).slot y = if p.side = y then some (i.slot p s) else s.slot y := by
  have htxu : (issue p i s).txu = (setSlot p.side (some (i.slot p s)) (issueState s)).txu := by
    simp [issue_eq, awaitState]
  rw [slot_of_txu htxu, slot_setSlot, slot_of_txu (by simp : (issueState s).txu = s.txu)]

theorem sighting_issue (p : Shown) (i : Issue) {s : State} (hplace : HasPlace s.scu.sightings)
    (hclear : ∀ e, s.sighting p.card.number = some e → e.tear = none ∧ e.mark = none) :
    (issue p i s).sighting p.card.number
      = some { localSighting s p.card.number p.card.seq p.card.tag i.event with inFlight := some (i.flight p s) } := by
  have hscu : (awaitState p i s).scu = s.scu := by simp [awaitState]
  have hsvc : s.svc.Judged (awaitState p i s).svc := by simpa [awaitState] using issueState_judged s
  have haddr : (awaitState p i s).laneAddr = s.laneAddr := by
    rw [← laneAddr_issueState s]
    simp [awaitState, State.laneAddr]
  rw [issue_eq, sighting_sightIssue _ _ (by rwa [hscu]) (by simpa only [sighting_of_scu hscu] using hclear),
    localSighting_eq hsvc (by simp [awaitState]) haddr]
  rfl

/-! ## The image (R1, R6, R15, R196) -/

theorem length_imageOf (s : State) (c : Card) : (imageOf s c).length = 48 := by
  simp [imageOf, length_cardBytes]

theorem take_imageOf (s : State) (c : Card) : (imageOf s c).take 44 = cardBytes c :=
  List.take_left' (length_cardBytes c)

/-- The record check of an issued image is the one of the CURRENT key. -/
theorem check_imageOf {s : State} {key : Key} (h : s.rck.current = some key) (c : Card) :
    (crc32 key.word ((imageOf s c).take 44)).toNat = field (imageOf s c) 44 4 := by
  have hword : currentWord s = key.word := by rw [currentWord, h]
  have hlt : (crc32 key.word (cardBytes c)).toNat < 256 ^ 4 := (crc32 key.word (cardBytes c)).isLt
  rw [take_imageOf, imageOf, hword, field_append_skip _ _ (length_cardBytes c).le, length_cardBytes, Nat.sub_self,
    field_self (length_toBE ..), fromBE_toBE, Nat.mod_eq_of_lt hlt]

/-! ## The verdict's record -/

/-- The content of an issue is the presented card, in form but for what the verdict changes of it. -/
structure Issue.Sound (i : Issue) (c : Card) : Prop where
  fits : i.content.Fits
  formed : i.content.Formed
  number : i.content.number = c.number
  kindCode : i.content.kindCode = c.kindCode
  cls : i.content.cls = c.cls
  seq : i.content.seq = c.seq
  balance : i.balance = i.content.balance

theorem Issue.card_eq (i : Issue) (s : State) : i.card s = { keptEntry i.content with
    flags := i.content.flags &&& 3, seq := i.content.seq + 1, tag := writeTag (s.rck.w + 1) s.laneAddr
    writer := s.setup.stationCode } := by
  have hsetup : (issueState s).setup = s.setup := by simp
  rw [Issue.card, issuedCard_eq, rck_issueState, laneAddr_issueState, hsetup]

theorem keptEntry_keeps (c : Card) : (keptEntry c).number = c.number ∧ (keptEntry c).kindCode = c.kindCode
    ∧ (keptEntry c).cls = c.cls ∧ (keptEntry c).balance = c.balance := by
  unfold keptEntry
  split <;> exact ⟨rfl, rfl, rfl, rfl⟩

/-- An issue does what every verdict that issues an image does. -/
theorem imageIssued_issue {p : Shown} {i : Issue} {s : State} (hi : i.Sound p.card)
    (hstation : s.setup.stationCode < 65536) (hfree : 64 ≤ s.free) (hplace : HasPlace s.scu.sightings)
    (hclear : ∀ e, s.sighting p.card.number = some e → e.tear = none ∧ e.mark = none)
    (hevent : i.event = if i.kind = .refuseAndWrite then .refused else if p.side = .u then .entry else .exit) :
    imageIssued s (issue p i s) p.side p.card (i.card s) (i.image s) i.kind := by
  have hcard := i.card_eq s
  obtain ⟨hnumber, hkindCode, hcls, hbalance⟩ := keptEntry_keeps i.content
  have hsetup : (issueState s).setup = s.setup := by simp
  have hfits : (i.card s).Fits := issuedCard_fits hi.fits (hsetup ▸ hstation)
  have hformed : (i.card s).Formed := issuedCard_formed hi.formed
  obtain ⟨hjournal, hreserved, -, -⟩ := reserve_rjn 3 s
  have hcurrent : (issueState s).rck.current = s.rck.current := by rw [rck_issueState]
  refine ⟨rck_issue p i s, readCard_cardBytes hfits _, length_imageOf .., (formFault_none_iff _).mpr hformed,
    fun key hkey => check_imageOf (hcurrent.trans hkey) _, ?_, ?_, ?_, ?_, ?_, ?_, ?_, ?_, chan_issue p i s,
    ⟨i.slot p s, ?_, rfl, rfl, rfl, rfl, rfl, rfl, ?_, rfl⟩, ?_,
    ⟨_, sighting_issue p i hplace hclear, rfl, rfl, rfl, hevent, rfl, rfl, rfl, rfl, rfl, rfl, rfl⟩⟩
  · rw [hcard, ← hi.number, ← hnumber]
  · rw [hcard, ← hi.kindCode, ← hkindCode]
  · rw [hcard, ← hi.cls, ← hcls]
  · rw [hcard, ← hi.seq]
  · rw [hcard]
  · rw [hcard]
  · rw [rjn_issue, hreserved, Nat.min_eq_left (by omega)]
  · rw [rjn_issue, hjournal]
  · rw [slot_issue, if_pos rfl]
  · rw [hcard]
    exact hi.balance.trans hbalance.symm
  · rw [slot_issue, if_neg (by cases p.side <;> decide)]

/-- What an issue did stands where a later part of the event leaves it. -/
theorem imageIssued_of_same {s t t' : State} {x : Side} {c n : Card} {image : List Byte} {k : WriteKind}
    (h : imageIssued s t x c n image k) (hrck : t'.rck = t.rck) (hrjn : t'.rjn = t.rjn) (htxu : t'.txu = t.txu)
    (hscu : t'.scu = t.scu) (hchan : t'.chan (writeOf x) = t.chan (writeOf x)) :
    imageIssued s t' x c n image k := by
  unfold imageIssued at h ⊢
  simpa only [hrck, hrjn, hchan, slot_of_txu htxu, sighting_of_scu hscu] using h

/-! ## The screened presentation (R33 to R37) -/

/-- Steps 2 to 6 passed without a re-open, the deny list decides next. -/
theorem present_screened {s : State} {x : Side} {image : List Byte} (hp : Presentable s x)
    (hs : Screened s x image) : present x image (s.shown x image)
      = screenFresh { side := x, card := readCard image } (s.shown x image) := by
  obtain ⟨⟨⟨-, hform, hpasses⟩, hblocked, hother⟩, hseen⟩ := hs
  have havail : availability (s.shown x image) x = none := availability_none hp
  have hrecord : recordPasses (s.shown x image) image = true := hpasses
  have hclear : (readCard image).blocked = false := hblocked
  have hapart : otherSlotOf (s.shown x image) { side := x, card := readCard image } = none := by
    unfold otherSlotOf
    split
    next sl hsl => exact if_neg (hother sl hsl)
    next => rfl
  simp only [present, havail, hform, hrecord, hclear, hapart, Bool.not_true, Bool.false_eq_true, if_false]
  unfold screenSighting
  split
  next => rfl
  next e he =>
    obtain ⟨htear, -, hcons⟩ := hseen e he
    have hconsistent : consistent e (readCard image).seq (readCard image).tag = true := by
      unfold consistent
      rcases hcons with ⟨hseq, htag⟩ | hahead
      · simp [hseq, htag, seqOrder]
      · simp [hahead]
    simp only [htear, hconsistent, if_true]

theorem openMark_screened {s : State} {x : Side} {image : List Byte} (hs : Screened s x image) :
    openMark (s.shown x image) (readCard image).number x = false := by
  unfold openMark
  split
  next e he => simp [(hs.2 e he).2.1]
  next => rfl

theorem isSome_foldl_narrower (l : List DenyEntry) (b : DenyEntry) : (l.foldl narrower (some b)).isSome = true := by
  induction l generalizing b with
  | nil => rfl
  | cons e l ih =>
    rw [List.foldl_cons, narrower]
    split <;> exact ih _

/-- The list matches exactly where an entry covers the card (R82). -/
theorem isSome_denyMatch (l : List DenyEntry) (n : Nat) :
    (denyMatch l n).isSome = true ↔ ∃ e ∈ l, e.base ≤ n ∧ n < e.base + 2 ^ e.width := by
  have hcovers : (∃ e ∈ l, e.base ≤ n ∧ n < e.base + 2 ^ e.width) ↔ l.filter (fun e => e.covers n) ≠ [] := by
    simp [List.filter_eq_nil_iff, DenyEntry.covers]
  rw [hcovers, denyMatch]
  cases l.filter fun e => e.covers n with
  | nil => simp
  | cons e rest =>
    rw [List.foldl_cons]
    exact iff_of_true (isSome_foldl_narrower rest e) (by simp)

end Sys2Proof.Machine
end

section
/-! SUPPORT. The verdicts of a presentation that passes the screen: the denied card, and the accepted one. -/

namespace Sys2Proof.Machine

theorem presented_tone (r : State × Verdict) : (presented r).sgu.tone = r.1.sgu.tone := by
  rw [presented, finish_sgu]
  rfl

theorem presented_pulses (r : State × Verdict) : (presented r).sgu.pulses = r.1.sgu.pulses := by
  rw [presented, finish_sgu]
  rfl

/-- An issue stands at the end of the presentation that made it. -/
theorem imageIssued_presented {s : State} {x : Side} {c n : Card} {image : List Byte} {k : WriteKind}
    {r : State × Verdict} (h : imageIssued s r.1 x c n image k) : imageIssued s (presented r) x c n image k :=
  imageIssued_of_same h (by simp [presented, respond]) (rjn_presented r) (by simp [presented, respond])
    (by simp [presented, respond]) (by simp [presented, respond, State.chan])

/-- Steps 2 to 6 leave a card without a tear or a mark. -/
theorem Screened.clear {s : State} {x : Side} {image : List Byte} (hs : Screened s x image) :
    ∀ e, s.sighting (readCard image).number = some e → e.tear = none ∧ e.mark = none := by
  intro e he
  obtain ⟨htear, hmark, -⟩ := hs.2 e he
  exact ⟨htear, hmark⟩

theorem Screened.formed {s : State} {x : Side} {image : List Byte} (hs : Screened s x image) :
    (readCard image).Formed := (formFault_none_iff _).mp hs.1.1.2.1

/-! ## The denied card (R38) -/

/-- A refusal's tone runs on SIGNAL: the write timeouts stand. -/
theorem chan_sguRefuse (x y : Side) (s : State) : (sguRefuse x s).chan (writeOf y) = s.chan (writeOf y) := by
  have htone : (requestTone .refuse 3 s).chan (writeOf y) = s.chan (writeOf y) := by
    unfold requestTone startTone
    split
    · rw [chan_chanStart, if_neg (by cases y <;> decide)]
      rfl
    · rfl
  rw [← htone]
  unfold sguRefuse
  dsimp only
  split
  · rfl
  · cases x <;> rfl

theorem tone_sguRefuse {s : State} (x : Side) (h : toneStarts s .refuse = true) :
    (sguRefuse x s).sgu.tone = some .refuse ∧ (sguRefuse x s).sgu.pulses = 3 := by
  unfold sguRefuse requestTone startTone
  rw [if_pos h]
  dsimp only
  split
  · simp
  · cases x <;> simp

theorem deniedIssue_sound {p : Shown} (hfits : p.card.Fits) (hformed : p.card.Formed) :
    (deniedIssue p).Sound p.card := by
  have hopen : (p.card.flags ||| 2).getLsbD 0 = p.card.entryOpen := by simp [Card.entryOpen]
  have hflags : (p.card.flags ||| 2) &&& 0xFC = 0 := by
    rw [BitVec.and_comm, BitVec.and_or_distrib_left, BitVec.and_comm, hformed.flags]
    rfl
  refine ⟨{ hfits with }, ?_, rfl, rfl, rfl, rfl, rfl⟩
  exact { hformed with
    flags := hflags, entryZone := fun h => hformed.entryZone (hopen ▸ h)
    entrySecs := fun h => hformed.entrySecs (hopen ▸ h) }

/-- The entry record kept turns on its own flag alone. -/
theorem keptEntry_flags {c : Card} {f : Byte} (h : f.getLsbD 0 = c.entryOpen) :
    keptEntry { c with flags := f } = { keptEntry c with flags := f } := by
  have hopen : { c with flags := f }.entryOpen = c.entryOpen := h
  unfold keptEntry
  rw [hopen]
  cases c.entryOpen <;> rfl

/-- The refused card is issued with BLOCKED, and with its entry record zeroed where it holds none. -/
theorem deniedIssue_card {p : Shown} (hformed : p.card.Formed) (s : State) :
    (deniedIssue p).card s = { keptEntry p.card with
      flags := p.card.flags ||| 2, seq := ((deniedIssue p).card s).seq, tag := ((deniedIssue p).card s).tag
      writer := ((deniedIssue p).card s).writer } := by
  have hkept := keptEntry_flags (c := p.card) (f := p.card.flags ||| 2) (by simp [Card.entryOpen])
  have hflags : (p.card.flags ||| 2) &&& 3 = p.card.flags ||| 2 := by
    rw [BitVec.and_comm, BitVec.and_or_distrib_left, BitVec.and_comm, hformed.flags_low]
    rfl
  rw [Issue.card_eq]
  simp only [deniedIssue, hflags, hkept]

/-- Settles O31: a covering entry of the deny list makes the screened card a refusal with an image. -/
theorem deniedCardIsBlocked : Obligations.DeniedCardIsBlocked := by
  intro x image s hp hs hkey hsetup hstation hdeny
  have hformed := hs.formed
  have hplace := hasPlace_of_books hp.2.2.1
  have hmatch : (denyMatch (s.shown x image).scu.deny (readCard image).number).isSome = true :=
    (isSome_denyMatch _ _).mpr hdeny
  have hpresent : present x image (s.shown x image)
      = refuseAndWrite { side := x, card := readCard image } (s.shown x image) := by
    rw [present_screened hp hs, screenFresh, openMark_screened hs, if_neg (by simp), if_pos hmatch]
  have hissued := imageIssued_issue (s := s.shown x image) (p := { side := x, card := readCard image })
    (deniedIssue_sound (readCard_fits image) hformed) hstation hp.free hplace hs.clear rfl
  have hjudged := issue_judged { side := x, card := readCard image } (deniedIssue { side := x, card := readCard image })
    (s.shown x image)
  obtain ⟨hopen, -, -, -, hmode, -⟩ := hp
  rw [exec_cardPresent hopen hs.1.1.1, hpresent]
  refine ⟨_, rfl, ?_, ?_, ?_, _, _, imageIssued_presented (imageIssued_of_same hissued ?_ ?_ ?_ ?_ ?_),
    deniedIssue_card hformed _, presented_responseSlot _⟩
  · exact presented_frame x image (by simp) (by simp [keepsBut, Part.forall_iff, Part.same])
  · rw [presented_flash]
    refine (flash_sguRefuse ?_).trans ?_
    · exact effMode_of_judged hjudged ▸ hmode
    · rw [hjudged.tickCount]
      rfl
  · intro hstarts
    rw [presented_tone, presented_pulses]
    refine tone_sguRefuse x ?_
    have hsgu : ∀ p i, (issue p i (s.shown x image)).sgu = (s.shown x image).sgu := by simp
    rw [toneStarts, hsgu]
    exact hstarts
  · simp [refuseAndWrite]
  · simp [refuseAndWrite]
  · simp [refuseAndWrite]
  · simp [refuseAndWrite]
  · exact chan_sguRefuse ..

/-! ## Ratings (R67 to R77) -/

theorem firstFail_none_iff (l : List (Option Nat)) : firstFail l = none ↔ ∀ x ∈ l, x = none := by
  induction l with
  | nil => simp [firstFail]
  | cons x l ih => cases x <;> simp [firstFail, ih]

theorem failAt_none_iff (bad : Bool) (off : Nat) : failAt bad off = none ↔ bad = false := by
  cases bad <;> simp [failAt]

/-- An image in range keeps the two limits of R58 that bound an issued card. -/
theorem limits_of_fieldFault {b : List Byte} (h : fieldFault b = none) :
    overdraftLimit b ≤ 5000 ∧ transferLimit b ≤ 3 := by
  have hall := (firstFail_none_iff _).mp h
  have hoverdraft := hall (failAt (decide (5000 < overdraftLimit b)) 658) (by simp)
  have htransfers := hall (failAt (decide (3 < transferLimit b)) 656) (by simp)
  rw [failAt_none_iff, decide_eq_false_iff_not] at hoverdraft htransfers
  omega

/-- What the setup, the clock and the ACTIVE bank of a lane in service keep. -/
structure State.Charging (s : State) : Prop where
  station : s.setup.stationCode < 65536
  zone : s.setup.zone ≤ 15
  day : s.svc.day ≤ 65534
  secs : s.svc.secs ≤ 86399
  overdraft : overdraftLimit s.fares ≤ 5000
  transfers : transferLimit s.fares ≤ 3

theorem Presentable.charging {s : State} {x : Side} (h : Presentable s x) (hsetup : s.setup.ok)
    (hstation : s.setup.stationCode < 65536) (hclock : s.clockOk) : s.Charging := by
  obtain ⟨-, -, -, ⟨htold, -, ⟨hbankA, hbankB, -⟩⟩, -, hempty, -⟩ := h
  obtain ⟨-, hsecs, hday, -⟩ := hclock
  have hvalid : s.activeBank.valid = true := by
    rw [htold] at hempty
    simp [Reasons.empty] at hempty
    simp [hempty]
  have hok : s.activeBank.ok := by
    unfold State.activeBank
    cases s.fru.active
    · exact hbankA
    · exact hbankB
  obtain ⟨-, hfields, -⟩ := hok
  obtain ⟨hoverdraft, htransfers⟩ := limits_of_fieldFault (hfields hvalid).1
  exact ⟨hstation, hsetup.1, hday, hsecs, hoverdraft, htransfers⟩

/-- A rating of a card: its purse stage keeps the new balance in the range of R3, and its other values are in theirs. -/
structure Rating.Rates (r : Rating) (c : Card) : Prop where
  balance : r.newBalance = c.balance - r.charge
  purse : r.passed = true → -99999 ≤ r.newBalance ∧ r.newBalance ≤ 9999999
  transfers : r.transfers ≤ 3
  spendDay : r.spendDay ≤ 65535
  spendAmount : r.spendAmount ≤ 9999999

theorem balance_of_pursePasses {b : List Byte} {balance : Int} {charge : Nat} (h : pursePasses b balance charge = true)
    (hlimit : overdraftLimit b ≤ 5000) (hrange : -99999 ≤ balance ∧ balance ≤ 9999999) :
    -99999 ≤ balance - charge ∧ balance - charge ≤ 9999999 := by
  simp [pursePasses] at h
  omega

section
variable {b : List Byte} {c : Card} (hlimit : overdraftLimit b ≤ 5000) (hfits : c.Fits) (hformed : c.Formed)
include hlimit hfits hformed

theorem flatRating_rates (cls : RatingClass) (base : Nat) {transfers : Nat} (h : transfers ≤ 3) :
    (flatRating b cls c base transfers).Rates c where
  balance := rfl
  purse hpassed := balance_of_pursePasses hpassed hlimit hformed.balance
  transfers := h
  spendDay := Nat.le_of_lt_succ hfits.spendDay
  spendAmount := hformed.spendAmount

theorem penaltyRating_rates (cls : RatingClass) (today base : Nat) {transfers : Nat} (h : transfers ≤ 3) :
    (penaltyRating b cls today c base transfers).Rates c :=
  { flatRating_rates hlimit hfits hformed cls base h with }

omit hfits in
theorem cappedRating_rates {today : Nat} (htoday : today ≤ 65534) {r : Rating} (h : r.transfers ≤ 3) :
    (cappedRating b today c r).Rates c where
  balance := rfl
  purse hpassed := balance_of_pursePasses hpassed hlimit hformed.balance
  transfers := h
  spendDay := Nat.le_succ_of_le htoday
  spendAmount := Nat.min_le_left ..

omit hfits in
theorem journeyRating_rates (htransfers : transferLimit b ≤ 3) {today : Nat} (htoday : today ≤ 65534) (zone : Nat) :
    (journeyRating b today zone c).Rates c := by
  refine cappedRating_rates hlimit hformed htoday ?_
  dsimp only
  split
  next htransfer =>
    simp [isTransfer] at htransfer
    omega
  next => exact Nat.zero_le 3

end

theorem classifyEntry_rates {s : State} {c : Card} (h : s.Charging) (hfits : c.Fits) (hformed : c.Formed) :
    (classifyEntry s c).rating.Rates c := by
  unfold classifyEntry
  split
  · exact penaltyRating_rates h.overdraft hfits hformed _ _ _ hformed.transfers
  · exact flatRating_rates h.overdraft hfits hformed _ _ hformed.transfers

theorem classifyExit_rates {s : State} {c : Card} (h : s.Charging) (hfits : c.Fits) (hformed : c.Formed) :
    (classifyExit s c).rating.Rates c := by
  unfold classifyExit
  split
  · exact flatRating_rates h.overdraft hfits hformed _ _ hformed.transfers
  split
  · exact penaltyRating_rates h.overdraft hfits hformed _ _ _ (Nat.zero_le 3)
  split
  · exact flatRating_rates h.overdraft hfits hformed _ _ hformed.transfers
  split
  · exact cappedRating_rates h.overdraft hformed h.day
      (r := flatRating s.fares .sameStation c (sameStationFee s.fares) 0) (Nat.zero_le 3)
  · exact journeyRating_rates h.overdraft hformed h.transfers h.day _

/-! ## The contents an accept issues (R43, R45) -/

theorem balance_fits {c : Card} {r : Rating} (hrates : r.Rates c) (hpassed : r.passed = true) :
    -2147483648 ≤ r.newBalance ∧ r.newBalance ≤ 2147483647 := by
  have hrange := hrates.purse hpassed
  omega

section
variable {s : State} {c : Card} {k : Classified} (h : s.Charging) (hfits : c.Fits) (hformed : c.Formed)
  (hrates : k.rating.Rates c) (hpassed : k.rating.passed = true)
include h hfits hformed hrates hpassed

omit hformed in
theorem entryContent_fits : (entryContent s c k).Fits :=
  { hfits with
    balance := balance_fits hrates hpassed
    entryStation := h.station
    entryZone := Nat.lt_of_le_of_lt h.zone (by decide)
    entryLane := Nat.lt_of_lt_of_le s.stl.ownAddr.isLt (by decide)
    entryDay := Nat.lt_of_le_of_lt h.day (by decide)
    entrySecs := Nat.lt_of_le_of_lt h.secs (by decide) }

omit hfits in
theorem entryContent_formed : (entryContent s c k).Formed :=
  { hformed with
    flags := by
      show (c.flags ||| 1) &&& 0xFC = 0
      rw [BitVec.and_comm, BitVec.and_or_distrib_left, BitVec.and_comm, hformed.flags]
      rfl
    balance := hrates.purse hpassed
    entryZone := fun _ => h.zone
    entrySecs := fun _ => h.secs }

omit hformed in
theorem exitContent_fits : (exitContent s c k).Fits :=
  { hfits.clearEntry with
    transfers := Nat.lt_of_le_of_lt hrates.transfers (by decide)
    balance := balance_fits hrates hpassed
    exitDay := Nat.lt_of_le_of_lt h.day (by decide)
    exitSecs := Nat.lt_of_le_of_lt h.secs (by decide)
    spendDay := Nat.lt_of_le_of_lt hrates.spendDay (by decide)
    spendAmount := Nat.lt_of_le_of_lt hrates.spendAmount (by decide) }

omit hfits in
theorem exitContent_formed : (exitContent s c k).Formed :=
  { hformed with
    flags := by
      show (c.flags &&& 0xFE) &&& 0xFC = 0
      rw [BitVec.and_assoc]
      exact hformed.flags
    transfers := hrates.transfers
    balance := hrates.purse hpassed
    entryZone := fun _ => Nat.zero_le _
    entrySecs := fun _ => Nat.zero_le _
    exitSecs := h.secs
    spendAmount := hrates.spendAmount }

theorem acceptIssue_sound (x : Side) : (acceptIssue { side := x, card := c } k s).Sound c := by
  cases x with
  | u => exact ⟨entryContent_fits h hfits hrates hpassed, entryContent_formed h hformed hrates hpassed,
      rfl, rfl, rfl, rfl, rfl⟩
  | p => exact ⟨exitContent_fits h hfits hrates hpassed, exitContent_formed h hformed hrates hpassed,
      rfl, rfl, rfl, rfl, rfl⟩

end

end Sys2Proof.Machine
end

section
/-! SUPPORT. The accepted card: what its image holds, and how ADS takes the offer. -/

namespace Sys2Proof.Machine

/-- An accepted verdict is offered to ADS with its verdict part, and its slot is tagged where ADS is ARMED. -/
theorem auditOffered_of_offer {s t u : State} (p : Shown) (kind : VerdictKind) (r : Reason) (rating : Rating)
    (hu : u.ads = s.ads) (ht : t.ads = (auditOffer (verdictPart s p.card p.side kind r rating) u).ads) :
    auditOffered s t p.card p.side kind r rating (auditArmed s) := by
  unfold auditOffered auditArmed
  rw [ht]
  unfold auditOffer
  rw [hu]
  cases hphase : s.ads.phase with
  | idle =>
    cases henable : s.ads.enable <;> simp [hphase, auditCount, hu]
  | armed b => simp [verdictPart]
  | tracking => simp [hphase, hu]
  | closing => simp [hphase, hu]
  | valid => simp [hphase, hu]

/-- The issued image of an entry (R43). -/
theorem card_acceptIssue_u (c : Card) (k : Classified) (s : State) :
    (acceptIssue { side := .u, card := c } k s).card s = { openEntry s { c with balance := k.rating.newBalance } with
      flags := (c.flags ||| 1) &&& 3, seq := c.seq + 1, tag := writeTag (s.rck.w + 1) s.laneAddr
      writer := s.setup.stationCode } := by
  have hopen : (openEntry s { c with balance := k.rating.newBalance }).entryOpen = true := by
    simp [openEntry, Card.entryOpen]
  rw [Issue.card_eq]
  simp only [acceptIssue, acceptContent, entryContent, keptEntry, hopen, if_true]
  rfl

/-- The issued image of an exit (R45). -/
theorem card_acceptIssue_p (c : Card) (k : Classified) (s : State) :
    (acceptIssue { side := .p, card := c } k s).card s = { clearEntry (exitContent s c k) with
      flags := (c.flags &&& 0xFE) &&& 3, seq := c.seq + 1, tag := writeTag (s.rck.w + 1) s.laneAddr
      writer := s.setup.stationCode } := by
  have hopen : (exitContent s c k).entryOpen = false := by simp [exitContent, Card.entryOpen]
  rw [Issue.card_eq]
  simp only [acceptIssue, acceptContent, keptEntry, hopen, Bool.false_eq_true, if_false]
  rfl

/-- Steps 7 to 9 accept a screened card that no deny entry covers and that neither step 8 nor the purse refuses. -/
theorem screenFresh_accepts {s : State} {x : Side} {c : Card} (hmark : openMark s c.number x = false)
    (hallowed : s.allows c)
    (hentry : x = .u → isPassback s c = false ∧ entryPurse s c (classifyEntry s c) = none)
    (hexit : x = .p → (classifyExit s c).rating.passed = true) :
    screenFresh { side := x, card := c } s
      = accept { side := x, card := c } (if x = .u then classifyEntry s c else classifyExit s c) s := by
  have hmatch : ¬(denyMatch s.scu.deny c.number).isSome = true := by
    rw [isSome_denyMatch]
    rintro ⟨e, he, hcovers⟩
    exact hallowed e he hcovers
  simp only [screenFresh, hmark, hmatch, Bool.false_eq_true, if_false]
  cases x with
  | u =>
    obtain ⟨hpassback, hpurse⟩ := hentry rfl
    simp [entrySteps, hpassback, hpurse]
  | p => simp [exitSteps, hexit rfl]

/-- The purse stage of an accepted card passes. -/
theorem passed_of_entryPurse {s : State} {c : Card} {k : Classified} (h : entryPurse s c k = none) :
    k.rating.passed = true := by
  unfold entryPurse at h
  cases hpassed : k.rating.passed with
  | true => rfl
  | false => simp [hpassed] at h

/-- Settles O32: a screened card that neither the deny list nor its charge refuses is accepted with an image. -/
theorem acceptedCardIsWritten : Obligations.AcceptedCardIsWritten := by
  intro x image s hp hs hkey hsetup hpos hstation hclock hallowed hentry hexit
  have hformed := hs.formed
  have hfits := readCard_fits image
  have hcharging := hp.charging hsetup hstation hclock
  have htaking : (s.shown x image).Charging := { hcharging with }
  have hplace := hasPlace_of_books hp.2.2.1
  have hfree := hp.free
  have hnotBlocked : (readCard image).flags.getLsbD 1 = false := hs.1.2.1
  set u := s.shown x image with hu
  set c := readCard image with hc
  set k := if x = .u then classifyEntry s c else classifyExit s c with hk
  have hpresent : present x image u = accept { side := x, card := c } k u := by
    rw [hu, present_screened hp hs]
    exact screenFresh_accepts (openMark_screened hs) hallowed hentry hexit
  have hratedPassed : k.rating.Rates c ∧ k.rating.passed = true := by
    cases x with
    | u => exact ⟨classifyEntry_rates hcharging hfits hformed, passed_of_entryPurse (hentry rfl).2⟩
    | p => exact ⟨classifyExit_rates hcharging hfits hformed, hexit rfl⟩
  obtain ⟨hrates, hpassed⟩ := hratedPassed
  have hissued := imageIssued_issue (s := u) (p := { side := x, card := c })
    (acceptIssue_sound htaking hfits hformed hrates hpassed x) hstation hfree hplace hs.clear
    (by cases x <;> rfl)
  have hbalance : ((acceptIssue { side := x, card := c } k u).card u).balance = k.rating.newBalance := by
    cases x with
    | u => rw [card_acceptIssue_u]; rfl
    | p => rw [card_acceptIssue_p]; rfl
  obtain ⟨hopen, -⟩ := hp
  rw [exec_cardPresent hopen hs.1.1.1, ← hu, hpresent]
  refine ⟨_, rfl, ?_, ?_, _, (acceptIssue { side := x, card := c } k u).card u,
    imageIssued_presented (imageIssued_of_same hissued ?_ ?_ ?_ ?_ ?_),
    ⟨(acceptIssue { side := x, card := c } k u).slot { side := x, card := c } u, ?_, rfl, rfl, rfl, ?_⟩, ?_, ?_, ?_, ?_, ?_⟩
  · exact presented_frame x image (by simp) (by simp [accept, keepsBut, Part.forall_iff, Part.same, ← hu])
  · rw [presented_tone]
    simp [accept]
    rfl
  · simp [accept]
  · simp [accept]
  · simp [accept]
  · simp [accept]
  · simp [accept, State.chan]
  · have htxu : (presented (accept { side := x, card := c } k u)).txu
        = (issue { side := x, card := c } (acceptIssue { side := x, card := c } k u) u).txu := by
      simp [accept, presented, respond]
    rw [slot_of_txu htxu, slot_issue, if_pos rfl]
  · refine auditOffered_of_offer (s := s) { side := x, card := c } .accept k.reason k.rating
      (u := issue { side := x, card := c } (acceptIssue { side := x, card := c } k u) u) ?_ ?_
    · simp
      rfl
    · simp [accept, presented, respond]
      rfl
  · cases x with
    | u => rw [card_acceptIssue_u]; simpa using hnotBlocked
    | p => rw [card_acceptIssue_p]; simpa using hnotBlocked
  · exact hbalance.trans hrates.balance
  · rintro rfl
    rw [card_acceptIssue_u]
    exact ⟨by simp [Card.entryOpen], rfl, rfl, rfl, rfl, rfl, rfl, rfl, rfl, rfl, rfl⟩
  · rintro rfl
    rw [card_acceptIssue_p]
    exact ⟨by simp [Card.entryOpen], rfl, rfl, rfl, rfl, rfl, rfl⟩
  · rw [presented_responseSlot, hbalance]
    rfl

end Sys2Proof.Machine
end

section
/-! SUPPORT. Sightings from other lanes: the body, the rows of a merge, and what each leaves (R99 to R101). -/

namespace Sys2Proof.Machine

/-! ## The body of a SIGHTING (R99, R198) -/

/-- The event a sighting body names. -/
def eventOf (ev : Byte) : SightEvent := if ev = 1 then .entry else if ev = 2 then .exit else .refused

theorem sightEventOf_eq (ev : Byte) :
    sightEventOf ev = if ev = 1 ∨ ev = 2 ∨ ev = 3 then some (eventOf ev) else none := by
  have hcode : ∀ n : Nat, n < 256 → (ev = BitVec.ofNat 8 n ↔ ev.toNat = n) := fun n hn => by
    rw [← BitVec.toNat_inj, BitVec.toNat_ofNat, Nat.mod_eq_of_lt hn]
  have h1 : ev = 1 ↔ ev.toNat = 1 := hcode 1 (by decide)
  have h2 : ev = 2 ↔ ev.toNat = 2 := hcode 2 (by decide)
  have h3 : ev = 3 ↔ ev.toNat = 3 := hcode 3 (by decide)
  unfold sightEventOf eventOf
  simp only [h1, h2, h3]
  split
  next h => simp [h]
  next h => simp [h]
  next h => simp [h]
  next hne1 hne2 hne3 => exact (if_neg fun h => h.elim hne1 fun h => h.elim hne2 hne3).symm

/-- The bytes of a sighting body. -/
def bodyBytes (b : SightBody) : List Byte :=
  toBE 4 b.card ++ toBE 2 b.seq.toNat ++ toBE 2 b.tag.toNat ++ toBE 2 b.day ++ toBE 3 b.secs
    ++ toBE 2 b.station ++ [BitVec.ofNat 8 b.lane, b.event]

theorem readSightBody_bodyBytes {b : SightBody} (hcard : b.card < 256 ^ 4) (hday : b.day < 256 ^ 2)
    (hsecs : b.secs < 256 ^ 3) (hstation : b.station < 256 ^ 2) (hlane : b.lane < 256 ^ 1) :
    readSightBody (bodyBytes b) = b := by
  have hlane' : b.lane % 2 ^ 8 = b.lane := Nat.mod_eq_of_lt hlane
  unfold readSightBody bodyBytes
  simp only [List.append_assoc, field_toBE_front, field_toBE_skip, field_cons_front, field_cons_skip,
    Nat.reduceLeDiff, Nat.reduceSub, ofNat_toNat_mod, Nat.mod_eq_of_lt hcard, Nat.mod_eq_of_lt hday,
    Nat.mod_eq_of_lt hsecs, Nat.mod_eq_of_lt hstation, BitVec.toNat_ofNat, hlane', BitVec.ofNat_toNat,
    BitVec.setWidth_eq]

/-- A body whose fields are in their ranges (R99). -/
structure SightBody.Good (b : SightBody) : Prop where
  card : b.card ≠ 0 ∧ b.card ≠ 4294967295
  day : 1 ≤ b.day ∧ b.day ≤ 65534
  secs : b.secs ≤ 86399
  station : b.station ≠ 0
  lane : b.lane ≤ 63
  event : b.event = 1 ∨ b.event = 2 ∨ b.event = 3

theorem inRange_iff (b : SightBody) : b.inRange = true ↔ b.Good := by
  have hsome : (sightEventOf b.event).isSome = true ↔ b.event = 1 ∨ b.event = 2 ∨ b.event = 3 := by
    rw [sightEventOf_eq]
    split
    next h => exact iff_of_true rfl h
    next h => exact iff_of_false (by simp) h
  simp only [SightBody.inRange, Bool.and_eq_true, bne_iff_ne, decide_eq_true_eq, hsome]
  constructor
  · rintro ⟨⟨⟨⟨⟨⟨⟨hzero, hones⟩, hone⟩, hlast⟩, hsecs⟩, hstation⟩, hlane⟩, hevent⟩
    exact ⟨⟨hzero, hones⟩, ⟨hone, hlast⟩, hsecs, hstation, hlane, hevent⟩
  · rintro ⟨⟨hzero, hones⟩, ⟨hone, hlast⟩, hsecs, hstation, hlane, hevent⟩
    exact ⟨⟨⟨⟨⟨⟨⟨hzero, hones⟩, hone⟩, hlast⟩, hsecs⟩, hstation⟩, hlane⟩, hevent⟩

section
variable {body : List Byte} {b : SightBody} (hread : readSightBody body = b) (s : State)
include hread

theorem sightingRun_bad (h : ¬b.Good) : sightingRun body s = (s, refusal .badField) := by
  have hrange : b.inRange = false := by rwa [← Bool.not_eq_true, inRange_iff]
  unfold sightingRun
  simp only [hread, hrange, Bool.not_false, if_true]
  split <;> rfl

theorem sightingRun_own (h : b.Good) (hown : b.station = s.setup.stationCode ∧ b.lane = s.laneAddr) :
    sightingRun body s = (s, { result := .ok, data := [0] }) := by
  have hself : isOwnSighting s b = true := by simp [isOwnSighting, hown]
  unfold sightingRun
  simp only [hread, sightEventOf_eq, if_pos h.event, (inRange_iff b).mpr h, hself, Bool.not_true, Bool.false_eq_true,
    if_false, if_true]
  rfl

theorem sightingRun_other (h : b.Good) (hown : ¬(b.station = s.setup.stationCode ∧ b.lane = s.laneAddr)) :
    sightingRun body s = ((mergeSighting b (eventOf b.event) s).1,
      { result := .ok, data := [(mergeSighting b (eventOf b.event) s).2.code] }) := by
  have hself : isOwnSighting s b = false := by
    rw [← Bool.not_eq_true]
    simpa [isOwnSighting] using hown
  unfold sightingRun
  simp only [hread, sightEventOf_eq, if_pos h.event, (inRange_iff b).mpr h, hself, Bool.not_true, Bool.false_eq_true,
    if_false]

end

/-! ## The rows of a merge (R100, R101) -/

theorem seqOrder_self (q : Word16) : seqOrder q q = .equal := by simp [seqOrder]

theorem ne_of_ahead {q g : Word16} (h : seqOrder q g = .ahead) : q ≠ g := by
  rintro rfl
  simp [seqOrder_self] at h

theorem ne_of_behind {q g : Word16} (h : seqOrder q g = .behind) : q ≠ g := by
  rintro rfl
  simp [seqOrder_self] at h

theorem mergeSighting_plain {b : SightBody} {ev : SightEvent} {s : State} {e : Sighting}
    (h : s.sighting b.card = some e) (htear : e.tear = none) : mergeSighting b ev s = mergePlain e b ev s := by
  rw [mergeSighting, h]
  simp only [htear]

theorem mergeSighting_tear {b : SightBody} {ev : SightEvent} {s : State} {e : Sighting} {t : Tear}
    (h : s.sighting b.card = some e) (htear : e.tear = some t) : mergeSighting b ev s = mergeTear e t b ev s := by
  rw [mergeSighting, h]
  simp only [htear]

section
variable {e : Sighting} {b : SightBody} {ev : SightEvent} {s : State}

theorem mergePlain_ahead (h : seqOrder b.seq e.seq = .ahead) :
    mergePlain e b ev s = (touchSighting (e.updated b ev) s, .updated) := by rw [mergePlain, h]

theorem mergePlain_refreshed (hseq : b.seq = e.seq) (htag : b.tag = e.tag) :
    mergePlain e b ev s = (touchSighting e s, .refreshed) := by
  rw [mergePlain, hseq, seqOrder_self]
  exact if_pos htag

theorem mergePlain_clone (hseq : b.seq = e.seq) (htag : b.tag ≠ e.tag) :
    mergePlain e b ev s = (cloneEvidence b.card none b.seq b.tag e.tag (touchSighting e s), .clone) := by
  rw [mergePlain, hseq, seqOrder_self]
  exact if_neg htag

theorem mergePlain_behind (h : seqOrder b.seq e.seq = .behind) : mergePlain e b ev s = (s, .ignored) := by
  rw [mergePlain, h]

variable {t : Tear}

theorem mergeTear_written (hseq : b.seq = t.newSeq) (htag : b.tag = t.newTag) : mergeTear e t b ev s
    = (remoteResolve b.card t true (fun x => x.updated b ev) s, .tearWritten) := if_pos ⟨hseq, htag⟩

theorem mergeTear_notWritten (hseq : b.seq = t.newSeq) (htag : b.tag ≠ t.newTag) : mergeTear e t b ev s
    = (remoteResolve b.card t false (fun x => x.updated b ev) s, .tearNotWritten) := by
  rw [mergeTear, if_neg (fun h => htag h.2), if_pos hseq]

theorem mergeTear_ahead (h : seqOrder b.seq t.newSeq = .ahead) : mergeTear e t b ev s
    = (remoteResolve b.card t true (fun x => x.updated b ev) s, .tearWritten) := by
  have hne := ne_of_ahead h
  rw [mergeTear, if_neg (fun h => hne h.1), if_neg hne, if_pos h]

/-- Behind the new sequence the old one decides. -/
theorem mergeTear_behind (h : seqOrder b.seq t.newSeq = .behind) : mergeTear e t b ev s
    = if b.seq = t.oldSeq ∧ b.tag = t.oldTag then (s, .ignored)
      else if b.seq = t.oldSeq then (cloneEvidence b.card none b.seq b.tag e.tag (touchSighting e s), .clone)
      else (s, .ignored) := by
  have hne := ne_of_behind h
  rw [mergeTear, if_neg (fun h => hne h.1), if_neg hne, if_neg (by simp [h])]

end

/-! ## Remote resolutions (R53, R101) -/

/-- A pending-tear holds two reservations (R159). -/
theorem two_le_reserved {s : State} (h : s.books) {e : Sighting} {t : Tear} (he : e ∈ s.scu.sightings)
    (ht : e.tear = some t) : 2 ≤ s.rjn.reserved := by
  obtain ⟨-, -, hheld, -⟩ := h
  have htears : 0 < s.tears.length := List.length_pos_of_mem (a := (e.card, t))
    (List.mem_filterMap.mpr ⟨e, he, by rw [ht]⟩)
  have hsum : s.held = slotHeld s.txu.slotU + slotHeld s.txu.slotP
    + creditReservations * (s.pcu.queueUp.length + s.pcu.queuePu.length) + 2 * s.tears.length := rfl
  unfold State.reservedHeld at hheld
  omega

theorem reserved_release1 (s : State) : (release1 s).rjn.reserved = s.rjn.reserved - 1 := by
  unfold release1
  split
  next h => omega
  next =>
    unfold overrunEntry
    split <;> simp [judgeSpace_rjn, appendEntry]

/-- A tear resolved on a card that has an entry. -/
theorem resolveTear_seen {c : Nat} {t : Tear} {w : Bool} {s : State} {e : Sighting} (h : s.sighting c = some e) :
    resolveTear c t w s = putSighting (if w then { e with seq := t.newSeq, tag := t.newTag, tear := none }
        else { e with tear := none })
      (writeReserved (tearResolvedEntry s c t (if w then .written else .notWritten)) s) := by
  have hseen : ∀ d, (writeReserved d s).sighting c = some e :=
    fun d => (sighting_of_scu (by simp) c).trans h
  unfold resolveTear
  dsimp only
  rw [hseen]

theorem rjn_resolveTear (c : Nat) (t : Tear) (w : Bool) (s : State) : (resolveTear c t w s).rjn
    = (writeReserved (tearResolvedEntry s c t (if w then .written else .notWritten)) s).rjn := by
  unfold resolveTear putSighting
  dsimp only
  split <;> rfl

/-- A remote resolution of a tear on a card that has an entry: the entry updated without its tear, and touched. -/
theorem remoteResolve_seen {c : Nat} {t : Tear} {w : Bool} {s : State} {e : Sighting} (b : SightBody) (ev : SightEvent)
    (h : s.sighting c = some e) : remoteResolve c t w (fun x => x.updated b ev) s
      = touchSighting { e.updated b ev with tear := none } (release1 (resolveTear c t w s)) := by
  have hcard := card_of_sighting h
  have hafter : (release1 (resolveTear c t w s)).sighting c
      = some (if w then { e with seq := t.newSeq, tag := t.newTag, tear := none } else { e with tear := none }) := by
    rw [sighting_of_scu (by simp : (release1 (resolveTear c t w s)).scu = (resolveTear c t w s).scu),
      resolveTear_seen h]
    have hput : ∀ (x : Sighting) (d : Entry), x.card = c → (putSighting x (writeReserved d s)).sighting c = some x := by
      rintro x d rfl
      exact sighting_put_same ((sighting_of_scu (by simp) _).trans h)
    exact hput _ _ (by cases w <;> exact hcard)
  unfold remoteResolve
  dsimp only
  rw [hafter]
  cases w <;> rfl

/-- The other cards of a remote resolution are untouched. -/
theorem sighting_resolveTear_other {c m : Nat} {t : Tear} {w : Bool} {s : State} {e : Sighting}
    (h : s.sighting c = some e) (hm : m ≠ c) : (release1 (resolveTear c t w s)).sighting m = s.sighting m := by
  have hcard := card_of_sighting h
  rw [sighting_of_scu (by simp : (release1 (resolveTear c t w s)).scu = (resolveTear c t w s).scu),
    resolveTear_seen h, sighting_put_other (by cases w <;> simpa [hcard] using hm)]
  exact sighting_of_scu (by simp) m

/-- The journal of a resolution with its other reservation released: its entry first, two reservations less. -/
theorem rjn_resolved {c : Nat} {t : Tear} {w : Bool} {s : State} (h : 2 ≤ s.rjn.reserved) :
    (release1 (resolveTear c t w s)).rjn.reserved + 2 = s.rjn.reserved
      ∧ ∃ es, (release1 (resolveTear c t w s)).rjn.journal = s.rjn.journal
        ++ { tearResolvedEntry s c t (if w then .written else .notWritten) with seq := s.rjn.nextSeq } :: es := by
  have hwritten := writeReserved_held (tearResolvedEntry s c t (if w then .written else .notWritten)) s (by omega)
  obtain ⟨es, hjournal, -, -⟩ : (resolveTear c t w s).rjn.Grows (release1 (resolveTear c t w s)).rjn :=
    grows_release1 (Rjn.Grows.refl _)
  rw [reserved_release1, rjn_resolveTear, hwritten]
  refine ⟨by dsimp only; omega, es, ?_⟩
  rw [hjournal, rjn_resolveTear, hwritten, List.append_assoc]
  rfl

/-! ## Clone evidence (R88, R98) -/

theorem mem_denyInsert (e : DenyEntry) (l : List DenyEntry) : e ∈ denyInsert e l := by
  induction l with
  | nil => simp [denyInsert]
  | cons x l ih =>
    rw [denyInsert]
    split <;> simp [ih]

theorem mem_denyPlace {e : DenyEntry} {w w' : DenyWork} (h : denyPlace e w = some w') : e ∈ w'.entries := by
  unfold denyPlace at h
  split at h
  · cases h
    exact mem_denyInsert ..
  · split at h
    · cases h
    · cases h
      exact mem_denyInsert ..

theorem sightings_localAdd (c : Nat) (s : State) : (localAdd c s).1.scu.sightings = s.scu.sightings := by
  unfold localAdd
  split
  · rfl
  · split <;> rfl

/-- A local add leaves the card listed, unless it finds no place. -/
theorem localAdd_listed {c : Nat} {s : State} (h : (localAdd c s).2 ≠ .notAdded) :
    ∃ d ∈ (localAdd c s).1.scu.deny, d.base = c ∧ d.width = 0 := by
  unfold localAdd at h ⊢
  split
  next hany => simpa [DenyEntry.is] using hany
  next hany =>
    rw [if_neg hany] at h
    split
    next w hw => exact ⟨_, mem_denyPlace hw, rfl, rfl⟩
    next hw => simp [hw] at h

theorem localAdd_kept {c : Nat} {s : State} (h : (localAdd c s).2 ≠ .added) :
    (localAdd c s).1.scu.deny = s.scu.deny := by
  unfold localAdd at h ⊢
  split
  next => rfl
  next hany =>
    rw [if_neg hany] at h
    split
    next w hw => simp [hw] at h
    next => rfl

theorem scu_cloneEvidence (c : Nat) (x : Option Side) (q t held : Word16) (s : State) :
    (cloneEvidence c x q t held s).scu = (localAdd c s).1.scu := by simp [cloneEvidence]

/-- The CLONE entry of a merge (R98). -/
def cloneEntry (s : State) (c : Nat) (q t held : Word16) (r : LocalAdd) : Entry :=
  { s.entry .clone .sighting none with card := c, cardSeq := q, tag := t, extra := cloneExtra r held }

theorem cloneEvidence_eq (c : Nat) (q t held : Word16) (s : State) : cloneEvidence c none q t held s
    = raiseStation .clone (writeFree (cloneEntry (localAdd c s).1 c q t held (localAdd c s).2) (localAdd c s).1) := rfl

end Sys2Proof.Machine
end

section
/-! SUPPORT. The SIGHTING request as the station link takes it. -/

namespace Sys2Proof.Machine

/-- A SIGHTING taken and answered: the parts it may change, what holds after it, and the link record (R99, R185). -/
def Answered (addr src : Byte) (body : List Byte) (s : State) (ps : List Part) (a : Answer) (post : State → Prop) :
    Prop :=
  ∃ t, exec (.sighting addr src body) s = .next t ∧ keepsBut ps s t ∧ post t
    ∧ ∃ ns, t.stl = s.linkTaken reqSighting addr src a { s.stl with notices := ns }

/-- The sightings of the other cards stand, and the card's own is the newest of the table (R91). -/
def ShownLast (n : Nat) (s t : State) : Prop :=
  (∀ m, m ≠ n → t.sighting m = s.sighting m) ∧ t.scu.sightings.getLast? = t.sighting n

theorem spares_resolveTear (c : Nat) (t : Tear) (w : Bool) (s : State) :
    s.stl.Spares .restarted (resolveTear c t w s).stl := by
  have hwritten : ∀ e, s.stl.Spares .restarted (writeReserved e s).stl :=
    fun e => spares_writeReserved e (by decide) (Stl.Spares.refl _ _)
  unfold resolveTear
  dsimp only
  split
  · exact hwritten _
  · exact hwritten _

/-- The notices of a clone merge (R98, R161). -/
theorem spares_cloneEvidence (c : Nat) (q g held : Word16) (x : Sighting) (s : State) :
    s.stl.Spares .restarted (cloneEvidence c none q g held (touchSighting x s)).stl := by
  rw [cloneEvidence_eq]
  exact spares_raiseStation (by decide) (spares_writeFree _ (by decide) (by simp))

/-- A clone merge leaves the sightings as the touch left them, and raises CLONE behind its entry. -/
theorem cloneEvidence_touched (c : Nat) (q g held : Word16) (x : Sighting) (s : State) :
    let u := touchSighting x s
    let v := cloneEvidence c none q g held u
    (∃ ns, SameNotice .clone s.stl.notices ns ∧ v.stl.notices = raiseIn .clone ns)
      ∧ v.scu.sightings = u.scu.sightings
      ∧ v.rjn = (writeFree (cloneEntry s c q g held (localAdd c u).2) (localAdd c u).1).rjn := by
  intro u v
  have hadd : (localAdd c u).1.stl = s.stl := by
    have hlist : (localAdd c u).1.stl = u.stl := by simp
    exact hlist
  have hspares : s.stl.Spares .clone (writeFree (cloneEntry (localAdd c u).1 c q g held (localAdd c u).2)
      (localAdd c u).1).stl := spares_writeFree _ (by decide) (hadd ▸ Stl.Spares.refl _ _)
  refine ⟨⟨_, hspares.notices, rfl⟩, ?_, ?_⟩
  · rw [scu_cloneEvidence, sightings_localAdd]
  · have hnow : (localAdd c u).1.entry .clone .sighting none = s.entry .clone .sighting none := by
      simp [State.entry, State.now]
      rfl
    have hentry : cloneEntry (localAdd c u).1 c q g held (localAdd c u).2
        = cloneEntry s c q g held (localAdd c u).2 := by
      rw [cloneEntry, hnow, cloneEntry]
    rw [← hentry]
    rfl

section
variable {addr src : Byte} {body : List Byte} {s v : State} {a : Answer} (hears : s.hears reqSighting addr)
  (hlen : body.length = 17) (hrun : sightingRun body s.listening = (v, a))
include hears hlen hrun

/-- A merge that touches SCU alone ends with SCU as it left it, and with no notice. -/
theorem exec_sighting_quiet (hformed : s.formed) (hv : v = s.listening.setScu v.scu) :
    ∃ t, exec (.sighting addr src body) s = .next t ∧ t.scu = v.scu ∧ keepsBut [.stl, .scu] s t
      ∧ t.stl = s.linkTaken reqSighting addr src a { s.stl with notices := s.stl.notices } := by
  refine ⟨(s.setScu v.scu).setStl (s.linkTaken reqSighting addr src a s.stl), ?_, rfl,
    by simp [keepsBut, Part.forall_iff, Part.same], rfl⟩
  show Host.Outcome.next (stationRequest reqSighting addr src body s) = _
  rw [stationRequest_heard hears (by simp [reqSighting, exactly, hlen]) (by omega) (fun _ _ => hrun)
    (ns := s.stl.notices) (by rw [hv]; rfl)]
  have hstate : v.setStl (s.linkTaken reqSighting addr src a s.stl)
      = (s.setScu v.scu).setStl (s.linkTaken reqSighting addr src a s.stl) := by
    rw [hv]
    rfl
  exact congrArg Host.Outcome.next ((congrArg Machine.finish hstate).trans (finish_of_formed hformed))

/-- A merge that writes an entry or raises a notice ends with SCU and the journal as it left them. -/
theorem exec_sighting_told (hkeeps : keepsBut [.stl, .scu, .rjn, .svc] s.listening v)
    (hspares : s.listening.stl.Spares .restarted v.stl) :
    ∃ t, exec (.sighting addr src body) s = .next t ∧ t.scu = v.scu ∧ t.rjn = v.rjn
      ∧ keepsBut [.stl, .scu, .rjn, .svc, .lpt, .sgu] s t
      ∧ ∃ ns, t.stl = s.linkTaken reqSighting addr src a { s.stl with notices := ns }
        ∧ ∀ c, Cause.serviceChanged ≠ c → SameNotice c v.stl.notices ns := by
  have hheard : keepsBut [.stl, .scu, .rjn, .svc, .lpt, .sgu] s s.listening := by
    simp [keepsBut, Part.forall_iff, Part.same, State.listening]
  refine ⟨_, congrArg Host.Outcome.next (stationRequest_heard hears (by simp [reqSighting, exactly, hlen]) (by omega)
    (fun _ _ => hrun) hspares.eq), by simp, by simp, ?_, _, finish_stl _, fun c hc => sameNotice_told hc _ _⟩
  exact (hheard.trans (hkeeps.mono (by simp))).trans (by simp [keepsBut, Part.forall_iff, Part.same])

/-- A request that merges nothing changes the link alone. -/
theorem answered_nothing (hformed : s.formed) (hv : v = s.listening) :
    Answered addr src body s [.stl] a fun t => t.stl.notices = s.stl.notices := by
  subst hv
  refine ⟨_, congrArg Host.Outcome.next (stationRequest_quiet hears hformed
    (by simp [reqSighting, exactly, hlen]) (by omega) fun _ _ => hrun), ?_, rfl, s.stl.notices, rfl⟩
  simp [keepsBut, Part.forall_iff, Part.same]

/-- A merge that touches the card's entry. -/
theorem answered_touch (hformed : s.formed) {n : Nat} {x : Sighting} (hx : x.card = n)
    (hv : v = touchSighting x s.listening) : Answered addr src body s [.stl, .scu] a fun t =>
      t.stl.notices = s.stl.notices ∧ ShownLast n s t ∧ t.sighting n = some x := by
  subst hv
  obtain ⟨t, hexec, hscu, hkeeps, hlink⟩ := exec_sighting_quiet hears hlen hrun hformed rfl
  obtain ⟨hsame, hrest, hlast⟩ := touched hx s.listening
  refine ⟨t, hexec, hkeeps, ⟨by rw [hlink]; rfl, ⟨fun m hm => ?_, ?_⟩, ?_⟩, _, hlink⟩
  · rw [sighting_of_scu hscu, hrest m hm]
    rfl
  · rw [hscu, hlast, sighting_of_scu hscu, hsame]
  · rw [sighting_of_scu hscu, hsame]

/-- A merge that inserts an entry for the card. -/
theorem answered_insert (hformed : s.formed) (hplace : HasPlace s.scu.sightings) {n : Nat} {x : Sighting}
    (hx : x.card = n) (hnone : s.sighting n = none) (hv : v = insertSighting x s.listening) :
    Answered addr src body s [.stl, .scu] a fun t => t.stl.notices = s.stl.notices
      ∧ t.scu.sightings.getLast? = t.sighting n ∧ t.sighting n = some x := by
  obtain ⟨l, hinsert, -⟩ := insertSighting_place x (s := s.listening) hplace
  obtain ⟨hsame, hlast⟩ := inserted hx (s := s.listening) hplace hnone
  subst hv
  obtain ⟨t, hexec, hscu, hkeeps, hlink⟩ := exec_sighting_quiet hears hlen hrun hformed (by rw [hinsert]; rfl)
  have hseen : t.sighting n = some x := (sighting_of_scu hscu n).trans hsame
  exact ⟨t, hexec, hkeeps, ⟨by rw [hlink]; rfl, by rw [hscu, hlast, hseen], hseen⟩, _, hlink⟩

/-- A merge that is clone evidence: the entry touched, CLONE raised, and its entry with the result of the local add. -/
theorem answered_clone {n : Nat} {q g : Word16} {x : Sighting} (hx : s.sighting n = some x)
    (hv : v = cloneEvidence n none q g x.tag (touchSighting x s.listening)) :
    Answered addr src body s [.stl, .scu, .rjn, .svc, .lpt, .sgu] a fun t =>
      t.sighting n = some x ∧ ShownLast n s t ∧ raisedOnce .clone s.stl.notices t.stl.notices
      ∧ t.rjn.reserved = s.rjn.reserved
      ∧ ∃ r : LocalAdd, (r ≠ .notAdded → ∃ d ∈ t.scu.deny, d.base = n ∧ d.width = 0)
        ∧ (r ≠ .added → t.scu.deny = s.scu.deny)
        ∧ (0 < s.free → onlyEntry (cloneEntry s n q g x.tag r) s t) := by
  subst hv
  obtain ⟨⟨ns', hbefore, hraised⟩, htable, hrjn⟩ := cloneEvidence_touched n q g x.tag x s.listening
  have hfree : (localAdd n (touchSighting x s.listening)).1.rjn = s.rjn := by
    simp
    rfl
  obtain ⟨hsame, hrest, hlast⟩ := touched (card_of_sighting hx) s.listening
  obtain ⟨t, hexec, hscu, hjournal, hkeeps, ns, hlink, hns⟩ := exec_sighting_told hears hlen hrun
    (by simp [keepsBut, Part.forall_iff, Part.same]) (spares_cloneEvidence ..)
  have hlooks : ∀ m, t.sighting m = (touchSighting x s.listening).sighting m := fun m =>
    (sighting_of_scu hscu m).trans (sighting_of_table htable m)
  refine ⟨t, hexec, hkeeps, ⟨(hlooks n).trans hsame, ⟨fun m hm => (hlooks m).trans (hrest m hm), ?_⟩, ?_, ?_,
    (localAdd n (touchSighting x s.listening)).2, ?_, ?_, fun hroom => ?_⟩, ns, hlink⟩
  · rw [hscu, htable, hlast, hlooks, hsame]
  · have hafter := hns .clone (by decide)
    rw [hraised] at hafter
    rw [hlink]
    exact raisedOnce_of_same hbefore hafter
  · rw [hjournal, hrjn, writeFree_reserved, hfree]
  · rw [hscu, scu_cloneEvidence]
    exact localAdd_listed
  · rw [hscu, scu_cloneEvidence]
    exact localAdd_kept
  · have hplace : (localAdd n (touchSighting x s.listening)).1.free ≠ 0 := by
      rw [State.free, hfree]
      exact hroom.ne'
    rw [onlyEntry, hjournal, hrjn, writeFree_room _ _ hplace, hfree]
    rfl

/-- A merge that resolves the card's pending-tear: its entry from one reservation, the other released. -/
theorem answered_resolved (hbooks : s.books) {n : Nat} {x : Sighting} {tear : Tear} {w : Bool} {b : SightBody}
    {ev : SightEvent} (hx : s.sighting n = some x) (htear : x.tear = some tear)
    (hv : v = remoteResolve n tear w (fun x => x.updated b ev) s.listening) :
    Answered addr src body s [.stl, .scu, .rjn, .svc, .lpt, .sgu] a fun t =>
      t.sighting n = some { x.updated b ev with tear := none } ∧ ShownLast n s t
      ∧ t.rjn.reserved + 2 = s.rjn.reserved
      ∧ firstEntry (tearResolvedEntry s n tear (if w then .written else .notWritten)) s t := by
  have hu : s.listening.sighting n = some x := hx
  rw [remoteResolve_seen b ev hu] at hv
  subst hv
  obtain ⟨hsame, hrest, hlast⟩ := touched (e := { x.updated b ev with tear := none })
    (show x.card = n from card_of_sighting hx) (release1 (resolveTear n tear w s.listening))
  obtain ⟨hreserved, es, hes⟩ := rjn_resolved (s := s.listening) (c := n) (t := tear) (w := w)
    (two_le_reserved hbooks (mem_of_sighting hx) htear)
  obtain ⟨t, hexec, hscu, hjournal, hkeeps, ns, hlink, -⟩ := exec_sighting_told hears hlen hrun
    (by simp [keepsBut, Part.forall_iff, Part.same]) (spares_release1 (by decide) (spares_resolveTear ..))
  refine ⟨t, hexec, hkeeps, ⟨(sighting_of_scu hscu n).trans hsame, ⟨fun m hm => ?_, ?_⟩, ?_, es, ?_⟩, ns, hlink⟩
  · rw [sighting_of_scu hscu, hrest m hm, sighting_resolveTear_other hu hm]
    rfl
  · rw [hscu, hlast, sighting_of_scu hscu, hsame]
  · rw [hjournal]
    exact hreserved
  · rw [hjournal]
    exact hes

end

/-- The ranges of R99, in the words of the request. -/
theorem good_iff (card : Word32) (q g station : Word16) (day secs : Nat) (lane ev : Byte) :
    (card ≠ 0 ∧ card ≠ 0xFFFFFFFF ∧ 1 ≤ day ∧ day ≤ 65534 ∧ secs ≤ 86399 ∧ station ≠ 0 ∧ lane.toNat ≤ 63
      ∧ (ev = 1 ∨ ev = 2 ∨ ev = 3))
    ↔ SightBody.Good { card := card.toNat, seq := q, tag := g, day := day, secs := secs, station := station.toNat
                       lane := lane.toNat, event := ev } := by
  have hzero : card ≠ 0 ↔ card.toNat ≠ 0 := (BitVec.toNat_inj (x := card) (y := 0)).symm.not
  have hones : card ≠ 0xFFFFFFFF ↔ card.toNat ≠ 4294967295 :=
    (BitVec.toNat_inj (x := card) (y := 0xFFFFFFFF)).symm.not
  have hstation : station ≠ 0 ↔ station.toNat ≠ 0 := (BitVec.toNat_inj (x := station) (y := 0)).symm.not
  constructor
  · rintro ⟨hc0, hc1, hd0, hd1, hs, hst, hl, hev⟩
    exact ⟨⟨hzero.mp hc0, hones.mp hc1⟩, ⟨hd0, hd1⟩, hs, hstation.mp hst, hl, hev⟩
  · rintro ⟨⟨hc0, hc1⟩, ⟨hd0, hd1⟩, hs, hst, hl, hev⟩
    exact ⟨hzero.mpr hc0, hones.mpr hc1, hd0, hd1, hs, hstation.mpr hst, hl, hev⟩

/-- Settles O43: each clause is the row of the merge that its premises select. -/
theorem sightingsAreMerged : Obligations.SightingsAreMerged := by
  intro addr src card q e station day secs lane ev s hformed hbooks hears hday hsecs n body good own seen answered ok
    quiet others clone
  set b : SightBody := { card := n, seq := q, tag := e, day := day, secs := secs, station := station.toNat
                         lane := lane.toNat, event := ev } with hb
  have hbytes : body = bodyBytes b := by simp [body, bodyBytes, hb]
  have hlen : body.length = 17 := by simp [body]
  have hread : readSightBody body = b := by
    rw [hbytes]
    exact readSightBody_bodyBytes card.isLt hday hsecs station.isLt lane.isLt
  have hgood : good ↔ b.Good := good_iff card q e station day secs lane ev
  have hnothing : ∀ a, sightingRun body s.listening = (s.listening, a) → answered [.stl] a quiet :=
    fun _ hrun => answered_nothing hears hlen hrun hformed rfl
  have hmerge : good → ¬own → sightingRun body s.listening
      = ((mergeSighting b (eventOf ev) s.listening).1,
        ok (mergeSighting b (eventOf ev) s.listening).2.code) :=
    fun hg ho => sightingRun_other hread s.listening (hgood.mp hg) ho
  refine ⟨fun hg => hnothing _ (sightingRun_bad hread _ (mt hgood.mpr hg)),
    fun hg ho => hnothing _ (sightingRun_own hread _ (hgood.mp hg) ho), fun hg ho hnone => ?_,
    fun hg ho x hx htear => ?_, fun hg ho x tear hx htear => ?_⟩
  all_goals have hrun := hmerge hg ho
  · rw [mergeSighting, show s.listening.sighting b.card = none from hnone] at hrun
    obtain ⟨t, hexec, hkeeps, ⟨hquiet, hlast, hseen⟩, hlink⟩ := answered_insert hears hlen hrun hformed
      (hasPlace_of_books hbooks) (n := n) rfl hnone rfl
    exact ⟨t, hexec, hkeeps, ⟨hquiet, hlast, remoteSighting b (eventOf ev), hseen, rfl, rfl, rfl, rfl⟩, hlink⟩
  · rw [mergeSighting_plain (show s.listening.sighting b.card = some x from hx) htear] at hrun
    have hcard : x.card = n := card_of_sighting hx
    refine ⟨fun hahead => ?_, fun hseq htag => ?_, fun hseq htag => ?_, fun hbehind => ?_⟩
    · rw [mergePlain_ahead hahead] at hrun
      exact answered_touch hears hlen hrun hformed (x := seen x) hcard rfl
    · rw [mergePlain_refreshed hseq htag] at hrun
      exact answered_touch hears hlen hrun hformed hcard rfl
    · rw [mergePlain_clone hseq htag] at hrun
      exact answered_clone hears hlen hrun hx rfl
    · rw [mergePlain_behind hbehind] at hrun
      exact hnothing _ hrun
  · rw [mergeSighting_tear (show s.listening.sighting b.card = some x from hx) htear] at hrun
    refine ⟨fun hseq htag => ?_, fun hseq htag => ?_, fun hahead => ?_, fun hbehind hseq htag => ?_,
      fun hbehind hseq htag => ?_, fun hbehind hseq => ?_⟩
    · rw [mergeTear_written hseq htag] at hrun
      exact answered_resolved hears hlen hrun hbooks hx htear rfl
    · rw [mergeTear_notWritten hseq htag] at hrun
      exact answered_resolved hears hlen hrun hbooks hx htear rfl
    · rw [mergeTear_ahead hahead] at hrun
      exact answered_resolved hears hlen hrun hbooks hx htear rfl
    · rw [mergeTear_behind hbehind, if_pos ⟨hseq, htag⟩] at hrun
      exact hnothing _ hrun
    · rw [mergeTear_behind hbehind, if_neg (fun h => htag h.2), if_pos hseq] at hrun
      exact answered_clone hears hlen hrun hx rfl
    · rw [mergeTear_behind hbehind, if_neg (fun h => hseq h.1), if_neg hseq] at hrun
      exact hnothing _ hrun

end Sys2Proof.Machine
end

section
/-! SUPPORT. What a start settles: slots become pending-tears (R56), and every reservation keeps its holder (R159). -/

namespace Sys2Proof.Machine

/-! ## The keyed table (R89) -/

/-- No card stands in two entries. -/
def Keyed (l : List Sighting) : Prop := (l.map Sighting.card).Nodup

/-- The entries that hold a pending-tear. -/
def tearCount (l : List Sighting) : Nat := (l.filter fun e => e.tear.isSome).length

theorem length_tears (s : State) : s.tears.length = tearCount s.scu.sightings := (length_filter_tear _).symm

theorem tearCount_cons (e : Sighting) (l : List Sighting) : tearCount (e :: l) = e.tear.isSome.toNat + tearCount l := by
  unfold tearCount
  cases h : e.tear <;> simp [h, Nat.add_comm]

theorem tearCount_perm {l l' : List Sighting} (h : l.Perm l') : tearCount l = tearCount l' :=
  (h.filter _).length_eq

/-- A keyed table with one entry in front, and no other entry of its card behind. -/
theorem perm_of_mem {l : List Sighting} (h : Keyed l) {e : Sighting} (he : e ∈ l) :
    l.Perm (e :: l.erase e) ∧ ∀ x ∈ l.erase e, x.card ≠ e.card := by
  have hperm := List.perm_cons_erase he
  have hnodup : Keyed (e :: l.erase e) := ((hperm.map _).nodup_iff).mp h
  refine ⟨hperm, fun x hx hcard => ?_⟩
  exact (List.nodup_cons.mp hnodup).1 (List.mem_map.mpr ⟨x, hx, hcard⟩)

theorem eq_of_card {l : List Sighting} (h : Keyed l) {e x : Sighting} (he : e ∈ l) (hx : x ∈ l)
    (hcard : x.card = e.card) : x = e := List.inj_on_of_nodup_map h hx he hcard

/-- One entry of a keyed table exchanged: the rest of the table stands. -/
def Exchanged (e e' : Sighting) (l l' : List Sighting) : Prop := ∃ r, l.Perm (e :: r) ∧ l'.Perm (e' :: r)

theorem exchanged_map {l : List Sighting} (h : Keyed l) {e : Sighting} (he : e ∈ l) {f : Sighting → Sighting}
    (hf : ∀ x, x.card ≠ e.card → f x = x) : Exchanged e (f e) l (l.map f) := by
  obtain ⟨hperm, hrest⟩ := perm_of_mem h he
  refine ⟨_, hperm, (hperm.map f).trans ?_⟩
  rw [List.map_cons, List.map_congr_left fun x hx => hf x (hrest x hx), List.map_id']

theorem exchanged_touch {l : List Sighting} (h : Keyed l) {e e' : Sighting} (he : e ∈ l) (hcard : e'.card = e.card) :
    Exchanged e e' l ((l.filter fun x => x.card != e'.card) ++ [e']) := by
  obtain ⟨hperm, hrest⟩ := perm_of_mem h he
  refine ⟨_, hperm, List.perm_append_comm.trans ?_⟩
  have hbehind : (l.erase e).filter (fun x => x.card != e'.card) = l.erase e :=
    List.filter_eq_self.mpr fun x hx => by simpa [hcard] using hrest x hx
  have hfilter := hperm.filter fun x => x.card != e'.card
  rw [List.filter_cons_of_neg (by simp [hcard]), hbehind] at hfilter
  exact hfilter.cons e'

theorem Exchanged.tearCount {e e' : Sighting} {l l' : List Sighting} (h : Exchanged e e' l l') :
    Machine.tearCount l' + e.tear.isSome.toNat = Machine.tearCount l + e'.tear.isSome.toNat := by
  obtain ⟨r, hl, hl'⟩ := h
  rw [tearCount_perm hl, tearCount_perm hl', tearCount_cons, tearCount_cons]
  omega

theorem Exchanged.keyed {e e' : Sighting} {l l' : List Sighting} (h : Exchanged e e' l l') (hcard : e'.card = e.card)
    (hkeyed : Keyed l) : Keyed l' := by
  obtain ⟨r, hl, hl'⟩ := h
  have hfront : Keyed (e :: r) := ((hl.map _).nodup_iff).mp hkeyed
  exact ((hl'.map _).nodup_iff).mpr (by rw [List.map_cons, hcard]; exact hfront)

theorem keyed_map {l : List Sighting} {f : Sighting → Sighting} (hf : ∀ x, (f x).card = x.card) (h : Keyed l) :
    Keyed (l.map f) := by
  have hcards : Sighting.card ∘ f = Sighting.card := funext hf
  rw [Keyed, List.map_map, hcards]
  exact h

/-- A card shows the changed entry where every entry is changed and keeps its card. -/
theorem sighting_map {s t : State} {f : Sighting → Sighting} (hf : ∀ x, (f x).card = x.card)
    (h : t.scu.sightings = s.scu.sightings.map f) (c : Nat) : t.sighting c = (s.sighting c).map f := by
  have hcards : (fun x : Sighting => x.card == c) ∘ f = fun x => x.card == c := by
    funext x
    simp [hf]
  rw [State.sighting, h, List.find?_map, hcards, State.sighting]

/-! ## What the steps of a start may change -/

/-- The reservations of the slots, of the credits and of the pending-tears (R159). -/
theorem held_eq (s : State) : s.held = slotHeld (s.slot .u) + slotHeld (s.slot .p)
    + (s.queue .u).length + (s.queue .p).length + 2 * tearCount s.scu.sightings := by
  rw [← length_tears]
  simp only [State.held, creditReservations, tearReservations, State.slot, State.queue]
  omega

/-- The books a start works on: a keyed table, slots with their sightings, and reservations with their holders. -/
structure Seated (s : State) : Prop where
  keyed : Keyed s.scu.sightings
  seen : s.slotSeen
  apart : s.slotsApart
  held : s.rjn.reserved = s.held

theorem seated_of_books {s : State} (h : s.books) : Seated s := by
  obtain ⟨-, -, hheld, -, hapart, ⟨hkeyed, -⟩, hseen, -⟩ := h
  exact ⟨hkeyed, hseen, hapart, hheld⟩

/-- The service clock but for JOURNAL_STOP, the notices but for RESTARTED, and SCU but for its sightings stand; while a
place is free no overrun is counted or told, and no place is lost. -/
structure Settles (s t : State) : Prop where
  svc : s.svc.Judged t.svc
  stl : s.stl.Spares .restarted t.stl
  scu : t.scu = { s.scu with sightings := t.scu.sightings, markOrder := t.scu.markOrder }
  room : 0 < s.free → t.rjn.overrun = s.rjn.overrun ∧ s.free ≤ t.free

theorem Svc.Judged.refl (v : Svc) : v.Judged v := rfl

theorem Svc.Judged.trans {v v' v'' : Svc} (h : v.Judged v') (h' : v'.Judged v'') : v.Judged v'' := by
  unfold Svc.Judged at *
  rw [h']
  rw [h]

theorem Settles.refl (s : State) : Settles s s := ⟨rfl, Stl.Spares.refl _ _, rfl, fun _ => ⟨rfl, le_rfl⟩⟩

theorem Settles.trans {s t u : State} (h : Settles s t) (h' : Settles t u) : Settles s u where
  svc := h.svc.trans h'.svc
  stl := h.stl.trans h'.stl
  scu := by rw [h'.scu, h.scu]
  room hfree := by
    obtain ⟨hover, hroom⟩ := h.room hfree
    obtain ⟨hover', hroom'⟩ := h'.room (by omega)
    exact ⟨hover'.trans hover, hroom.trans hroom'⟩

/-- An entry from a reservation takes the place of the reservation. -/
theorem settles_writeReserved {s : State} (e : Entry) (h : s.rjn.reserved ≠ 0) : Settles s (writeReserved e s) where
  svc := by simp [writeReserved, h, appendEntry, Svc.Judged]
  stl := spares_writeReserved e (by decide) (Stl.Spares.refl _ _)
  scu := by simp
  room _ := by
    rw [State.free, State.free, writeReserved_held e s h]
    simp
    omega

theorem appendEntry_svc (e : Entry) (s : State) : (appendEntry e s).svc = s.svc := by simp

theorem judged_judgeSpace {v : Svc} {s : State} (h : v.Judged s.svc) : v.Judged (judgeSpace s).svc :=
  h.trans (judgeSpace_judged s)

theorem judged_overrunEntry {v : Svc} {s : State} (n : Nat) (h : v.Judged s.svc) : v.Judged (overrunEntry n s).svc := by
  have happended : ∀ e u, u.svc = s.svc → v.Judged (judgeSpace (appendEntry e u)).svc := by
    intro e u hu
    refine judged_judgeSpace ?_
    rwa [appendEntry_svc, hu]
  unfold overrunEntry
  split
  · exact happended _ _ (setRjn_svc ..)
  · exact h

theorem release1_judged (s : State) : s.svc.Judged (release1 s).svc := by
  have hreleased : ∀ r, s.svc.Judged (judgeSpace (s.setRjn r)).svc := by
    intro r
    refine judged_judgeSpace ?_
    rw [setRjn_svc]
    exact Svc.Judged.refl _
  unfold release1
  split
  · exact Svc.Judged.refl _
  · exact judged_overrunEntry _ (hreleased _)

theorem settles_release1 {s : State} (h : s.rjn.reserved ≠ 0) : Settles s (release1 s) where
  svc := release1_judged s
  stl := spares_release1 (by decide) (Stl.Spares.refl _ _)
  scu := by simp
  room hfree := by
    obtain ⟨hjournal, hreserved, -, hover⟩ := release1_plain s h (.inl hfree.ne')
    rw [State.free, State.free, hjournal, hreserved]
    exact ⟨hover, by omega⟩

end Sys2Proof.Machine
end

section
/-! SUPPORT. Slots settled by a start (R51 to R53, R56), and a tagged sample with them (R173, R177). -/

namespace Sys2Proof.Machine

theorem queue_of_pcu {s t : State} (h : t.pcu = s.pcu) (d : Side) : t.queue d = s.queue d := by
  cases d <;> simp [State.queue, h]

theorem Seated.of_same {s t : State} (h : Seated s) (hscu : t.scu.sightings = s.scu.sightings) (htxu : t.txu = s.txu)
    (hpcu : t.pcu = s.pcu) (hrjn : t.rjn.reserved = s.rjn.reserved) : Seated t where
  keyed := by rw [hscu]; exact h.keyed
  seen := by
    intro x sl hsl
    rw [slot_of_txu htxu] at hsl
    simpa only [sighting_of_table hscu] using h.seen x sl hsl
  apart := by
    unfold State.slotsApart
    rw [htxu]
    exact h.apart
  held := by
    rw [hrjn, h.held, held_eq, held_eq, slot_of_txu htxu, slot_of_txu htxu, queue_of_pcu hpcu, queue_of_pcu hpcu, hscu]

theorem Settles.of_same {s t u : State} (h : Settles s t) (hsvc : u.svc = t.svc) (hstl : u.stl = t.stl)
    (hscu : u.scu = t.scu) (hrjn : u.rjn = t.rjn) : Settles s u where
  svc := hsvc ▸ h.svc
  stl := hstl ▸ h.stl
  scu := by rw [hscu]; exact h.scu
  room := by
    simp only [State.free, hrjn]
    exact h.room

/-- Only in-flight records and pending-tears differ. -/
def Retorn (s t : State) : Prop :=
  t.scu.markOrder = s.scu.markOrder
    ∧ ∀ e ∈ s.scu.sightings, ∃ e' ∈ t.scu.sightings, { e' with inFlight := e.inFlight, tear := e.tear } = e

theorem Retorn.refl (s : State) : Retorn s s := ⟨rfl, fun e he => ⟨e, he, rfl⟩⟩

theorem Retorn.trans {s t u : State} (h : Retorn s t) (h' : Retorn t u) : Retorn s u := by
  refine ⟨h'.1.trans h.1, fun e he => ?_⟩
  obtain ⟨e', he', hback⟩ := h.2 e he
  obtain ⟨e'', he'', hback'⟩ := h'.2 e' he'
  exact ⟨e'', he'', by rw [← hback, ← hback']⟩

theorem Retorn.of_scu {s t u : State} (h : Retorn s t) (hu : u.scu = t.scu) : Retorn s u := by
  unfold Retorn
  rw [hu]
  exact h

theorem retorn_map {s t : State} {f : Sighting → Sighting}
    (hf : ∀ e, { f e with inFlight := e.inFlight, tear := e.tear } = e)
    (h : t.scu.sightings = s.scu.sightings.map f) (horder : t.scu.markOrder = s.scu.markOrder) : Retorn s t :=
  ⟨horder, fun e he => ⟨f e, h ▸ List.mem_map_of_mem he, hf e⟩⟩

/-! ## The oldest pending-tear (R52, R53) -/

theorem mem_earliestTear {l : List (Nat × Tear)} {t : Nat × Tear} (h : earliestTear l = some t) : t ∈ l := by
  have hfold : ∀ (l : List (Nat × Tear)) (a : Nat × Tear), l.foldl earlierTear a ∈ a :: l := by
    intro l
    induction l with
    | nil => exact fun a => List.mem_cons_self
    | cons b l ih =>
      intro a
      have hmem := ih (earlierTear a b)
      rw [List.foldl_cons]
      rcases List.mem_cons.mp hmem with heq | hmem
      · rw [heq, earlierTear]
        split <;> simp
      · exact List.mem_cons_of_mem _ (List.mem_cons_of_mem _ hmem)
  cases l with
  | nil => cases h
  | cons a l =>
    cases h
    exact hfold l a

/-- An entry without the pending-tear of a card. -/
def untorn (c : Nat) (e : Sighting) : Sighting := if e.card = c then { e with tear := none } else e

theorem card_untorn (c : Nat) (e : Sighting) : (untorn c e).card = e.card := by
  unfold untorn
  split <;> rfl

theorem sightings_unresolveTear (c : Nat) (t : Tear) (s : State) :
    (unresolveTear c t s).scu.sightings = s.scu.sightings.map (untorn c) := by
  simp only [unresolveTear, dropTear, release1_frame, setScu_scu, writeReserved_frame]
  rfl

/-- A pending-tear resolved keeps the books: its two reservations go with it. -/
theorem unresolveTear_seated {s : State} (h : Seated s) {c : Nat} {t : Tear} (ht : (c, t) ∈ s.tears) :
    Seated (unresolveTear c t s) ∧ Settles s (unresolveTear c t s) ∧ Retorn s (unresolveTear c t s) := by
  obtain ⟨e, he, htear⟩ := List.mem_filterMap.mp ht
  obtain ⟨hcard, htear⟩ : e.card = c ∧ e.tear = some t := by
    cases hcase : e.tear with
    | none => simp [hcase] at htear
    | some r => simpa [hcase] using htear
  have htable := sightings_unresolveTear c t s
  have hexchanged := exchanged_map h.keyed he (f := untorn c) fun x hx => if_neg (hcard ▸ hx)
  have hcount := hexchanged.tearCount
  have hnone : (untorn c e).tear = none := by rw [untorn, if_pos hcard]
  rw [htear, hnone] at hcount
  have hheld := h.held
  rw [held_eq] at hheld
  have hone : s.rjn.reserved ≠ 0 := by
    simp at hcount
    omega
  have hwritten := writeReserved_held (tearResolvedEntry s c t .unresolved) s hone
  have hdropped : (dropTear c (writeReserved (tearResolvedEntry s c t .unresolved) s)).rjn.reserved ≠ 0 := by
    simp [hwritten] at hcount ⊢
    omega
  refine ⟨⟨?_, ?_, ?_, ?_⟩, ?_, ?_⟩
  · rw [htable]
    exact keyed_map (card_untorn c) h.keyed
  · intro x sl hsl
    obtain ⟨e', hseen, hflight, hclear⟩ := h.seen x sl (by simpa [State.slot] using hsl)
    refine ⟨untorn c e', ?_, ?_, ?_⟩
    · rw [sighting_map (card_untorn c) htable, hseen]
      rfl
    · unfold untorn
      split <;> exact hflight
    · unfold untorn
      split
      · rfl
      · exact hclear
  · simpa [State.slotsApart] using h.apart
  · have hreserved : (unresolveTear c t s).rjn.reserved = s.rjn.reserved - 1 - 1 := by
      rw [unresolveTear, reserved_release1]
      simp [hwritten]
    have hslots := slot_of_txu (by simp : (unresolveTear c t s).txu = s.txu)
    have hqueues := queue_of_pcu (by simp : (unresolveTear c t s).pcu = s.pcu)
    rw [hreserved, held_eq, htable, hslots, hslots, hqueues, hqueues]
    simp at hcount
    omega
  · refine Settles.trans ?_ (settles_release1 hdropped)
    refine (settles_writeReserved (tearResolvedEntry s c t .unresolved) hone).trans ?_
    exact ⟨by simp [Svc.Judged.refl], by simp, rfl, fun _ => ⟨rfl, le_rfl⟩⟩
  · refine retorn_map (f := untorn c) (fun x => ?_) htable (by simp [unresolveTear, dropTear])
    unfold untorn
    split <;> rfl

theorem displaceTear_seated {s : State} (h : Seated s) :
    Seated (displaceTear s) ∧ Settles s (displaceTear s) ∧ Retorn s (displaceTear s) := by
  unfold displaceTear
  split
  · exact ⟨h, Settles.refl s, Retorn.refl s⟩
  · split
    next c t heq => exact unresolveTear_seated h (mem_earliestTear heq)
    next => exact ⟨h, Settles.refl s, Retorn.refl s⟩

/-! ## A tagged sample at a start (R173, R177) -/

/-- The settings and the counter stand; the sample is VALID with outcome ABORTED. -/
def Ads.Aborted (a a' : Ads) : Prop :=
  (a'.enable = a.enable ∧ a'.interval = a.interval ∧ a'.randomise = a.randomise ∧ a'.counter = a.counter)
    ∧ a'.phase = .valid ∧ (a.sample.isSome → ∃ m, a'.sample = some m ∧ m.outcome = some .aborted)

/-- A number of tags has been settled by a start. -/
def Ads.Through (n : Nat) (a a' : Ads) : Prop := (n = 0 → a' = a) ∧ (0 < n → a.Aborted a')

theorem Ads.Through.refl (a : Ads) : a.Through 0 a := ⟨fun _ => rfl, fun h => absurd h (lt_irrefl 0)⟩

theorem Ads.Through.trans {n m : Nat} {a a' a'' : Ads} (h : a.Through n a') (h' : a'.Through m a'') :
    a.Through (n + m) a'' := by
  obtain ⟨hnone, hsome⟩ := h
  obtain ⟨hnone', hsome'⟩ := h'
  refine ⟨fun hzero => (hnone' (by omega)).trans (hnone (by omega)), fun hpos => ?_⟩
  rcases Nat.eq_zero_or_pos m with hm | hm
  · rw [hnone' hm]
    exact hsome (by omega)
  · rcases Nat.eq_zero_or_pos n with hn | hn
    · rw [← hnone hn]
      exact hsome' hm
    · obtain ⟨⟨he, hi, hr, hc⟩, -, hsample⟩ := hsome hn
      obtain ⟨⟨he', hi', hr', hc'⟩, hphase, hsample'⟩ := hsome' hm
      refine ⟨⟨he'.trans he, hi'.trans hi, hr'.trans hr, hc'.trans hc⟩, hphase, fun h => hsample' ?_⟩
      obtain ⟨m, hm, -⟩ := hsample h
      rw [hm]
      rfl

/-- A completion ABORTED of a sample that has only had its parts filled. -/
theorem ads_auditComplete_aborted {a : Ads} {f : Sample → Sample} {s : State}
    (h : s.ads = { a with sample := a.sample.map f }) : a.Aborted (auditComplete .aborted s).ads := by
  have hads : (auditComplete .aborted s).ads = { s.ads with
      sample := s.ads.sample.map fun m =>
        { m with outcome := some .aborted, doneDay := s.svc.day, doneSecs := s.svc.secs }
      phase := .valid, grantTick := none } := rfl
  rw [hads, h]
  refine ⟨⟨rfl, rfl, rfl, rfl⟩, rfl, fun hsome => ?_⟩
  obtain ⟨m, hm⟩ := Option.isSome_iff_exists.mp hsome
  rw [hm]
  exact ⟨_, rfl, rfl⟩

/-! ## A slot settled (R51, R56) -/

/-- The tag of a settled slot completes its sample. -/
theorem ads_settled (sl : Slot) (s : State) :
    s.ads.Through sl.audit.toNat (if sl.audit then auditComplete .aborted (auditOutcome sl .uncertain .absent s)
      else auditOutcome sl .uncertain .absent s).ads := by
  unfold auditOutcome
  cases sl.audit with
  | false => exact Ads.Through.refl _
  | true => exact ⟨nofun, fun _ => ads_auditComplete_aborted rfl⟩

/-- The entry of a slot's card as its write outcome leaves it: torn. -/
def tornEntry (x : Side) (sl : Slot) (e : Sighting) (s : State) : Sighting :=
  { e with inFlight := none, tear := some (tearRecord s x sl) }

/-- The slot's card torn: its sighting with the pending-tear, the slot FREE (R52). -/
def tornState (x : Side) (sl : Slot) (e : Sighting) (s : State) : State :=
  freeSlot x (putSighting (tornEntry x sl e s) (writeReserved (tearEntry s x sl) s))

theorem slot_tornState (x y : Side) (sl : Slot) (e : Sighting) (s : State) :
    (tornState x sl e s).slot y = if x = y then none else s.slot y := by
  rw [tornState, freeSlot, slot_setSlot, slot_of_txu (by simp : (putSighting _ (writeReserved _ s)).txu = s.txu)]

theorem cards_apart {s : State} (h : s.slotsApart) {x y : Side} {a b : Slot} (hxy : x ≠ y) (ha : s.slot x = some a)
    (hb : s.slot y = some b) : a.card ≠ b.card := by
  cases x <;> cases y
  · exact absurd rfl hxy
  · exact h a b ha hb
  · exact (h b a hb ha).symm
  · exact absurd rfl hxy

theorem sightings_tornState (x : Side) (sl : Slot) (e : Sighting) (s : State) :
    (tornState x sl e s).scu = { s.scu with
      sightings := s.scu.sightings.map fun y => if y.card = e.card then tornEntry x sl e s else y } := by
  have hput : (tornState x sl e s).scu
      = (putSighting (tornEntry x sl e s) (writeReserved (tearEntry s x sl) s)).scu := by simp [tornState]
  rw [hput, putSighting, setScu_scu, (by simp : (writeReserved (tearEntry s x sl) s).scu = s.scu)]
  rfl

theorem settleUncertain_eq {x : Side} {sl : Slot} {s : State} {e : Sighting} (o : AuditOutcome)
    (h : (displaceTear s).sighting sl.card = some e) : settleUncertain o x sl s
      = if sl.audit then auditComplete o (auditOutcome sl .uncertain .absent (tornState x sl e (displaceTear s)))
        else auditOutcome sl .uncertain .absent (tornState x sl e (displaceTear s)) := by
  have hseen : ∀ d, (writeReserved d (displaceTear s)).sighting sl.card = some e := fun d =>
    (sighting_of_scu (by simp) _).trans h
  unfold settleUncertain sightTear
  simp only [hseen, Option.isSome_some, if_true]
  rfl

/-- A slot that becomes a pending-tear gives one reservation to its TEAR entry and the others to the tear. -/
theorem tornState_seated {x : Side} {sl : Slot} {s : State} {e : Sighting} (h : Seated s) (hsl : s.slot x = some sl)
    (he : s.sighting sl.card = some e) (hclear : e.tear = none) :
    Seated (tornState x sl e s) ∧ Settles s (tornState x sl e s) ∧ Retorn s (tornState x sl e s)
      ∧ (tornState x sl e s).slot x = none ∧ (tornState x sl e s).slot (Side.other x) = s.slot (Side.other x) := by
  have hcard := card_of_sighting he
  have hmem := mem_of_sighting he
  have hscu := sightings_tornState x sl e s
  have htable := congrArg Scu.sightings hscu
  have hslots := fun y => slot_tornState x y sl e s
  have hqueues := queue_of_pcu (by simp [tornState, putSighting] : (tornState x sl e s).pcu = s.pcu)
  have hkeeps : ∀ y : Sighting, (if y.card = e.card then tornEntry x sl e s else y).card = y.card := by
    intro y
    split
    next hy => exact hy.symm
    next => rfl
  have hcount := (exchanged_map h.keyed hmem (f := fun y => if y.card = e.card then tornEntry x sl e s else y)
    fun y hy => if_neg hy).tearCount
  simp only [if_true, hclear, tornEntry, Option.isSome_none, Option.isSome_some, Bool.toNat_false, Bool.toNat_true]
    at hcount
  have hheld := h.held
  rw [held_eq] at hheld
  have hthree : 3 ≤ s.rjn.reserved := by
    have hslot : slotHeld (s.slot x) = 3 := by rw [hsl]; rfl
    cases x <;> omega
  have hone : s.rjn.reserved ≠ 0 := by omega
  have hreserved : (tornState x sl e s).rjn.reserved = s.rjn.reserved - 1 := by
    simp [tornState, putSighting, writeReserved_held _ s hone]
  refine ⟨⟨?_, ?_, ?_, ?_⟩, ?_, ⟨by rw [hscu], fun y hy => ?_⟩, ?_, ?_⟩
  · rw [htable]
    exact keyed_map hkeeps h.keyed
  · intro y sl' hsl'
    rw [hslots] at hsl'
    split at hsl'
    · cases hsl'
    next hxy =>
      obtain ⟨e', hseen, hflight, htear⟩ := h.seen y sl' hsl'
      refine ⟨e', ?_, hflight, htear⟩
      have hne : e'.card ≠ e.card := by
        rw [card_of_sighting hseen, hcard]
        exact (cards_apart h.apart hxy hsl hsl').symm
      rw [sighting_map hkeeps htable, hseen, Option.map_some, if_neg hne]
  · intro a b ha hb
    have hfree := (hslots x).trans (if_pos rfl)
    cases x
    · cases ha.symm.trans hfree
    · cases hb.symm.trans hfree
  · rw [hreserved, held_eq, hqueues, hqueues, htable, hslots, hslots]
    cases x <;> simp [hsl, slotHeld, slotReservations, tornEntry] at hheld hcount ⊢ <;> omega
  · refine (settles_writeReserved (tearEntry s x sl) hone).trans ?_
    exact ⟨by simp [tornState, putSighting, Svc.Judged.refl], by simp [tornState, putSighting],
      by simp [tornState, putSighting], fun _ => by simp [tornState, putSighting, State.free]⟩
  · rw [htable]
    by_cases hcase : y.card = e.card
    · have heq := eq_of_card h.keyed hmem hy hcase
      subst heq
      exact ⟨tornEntry x sl y s, List.mem_map.mpr ⟨y, hy, if_pos rfl⟩, rfl⟩
    · exact ⟨y, List.mem_map.mpr ⟨y, hy, if_neg hcase⟩, rfl⟩
  · rw [hslots, if_pos rfl]
  · rw [hslots, if_neg (by cases x <;> decide)]

theorem settles_auditComplete (o : AuditOutcome) (s : State) : Settles s (auditComplete o s) where
  svc := by simp [Svc.Judged.refl]
  stl := spares_raiseStation (by decide) (by simp [onSample])
  scu := by simp
  room _ := by simp [State.free]

/-- What ADS does at a settled slot leaves the books. -/
theorem settled_audit {s w t : State} (o : AuditOutcome) (sl : Slot) (hseated : Seated w) (hsettles : Settles s w)
    (ht : t = if sl.audit then auditComplete o (auditOutcome sl .uncertain .absent w)
      else auditOutcome sl .uncertain .absent w) :
    Seated t ∧ Settles s t ∧ t.scu = w.scu ∧ t.txu = w.txu := by
  have hoffered : Settles s (auditOutcome sl .uncertain .absent w) := hsettles.of_same (by simp) (by simp) (by simp) (by simp)
  subst ht
  split
  · exact ⟨hseated.of_same (by simp) (by simp) (by simp) (by simp),
      hoffered.trans (settles_auditComplete _ _), by simp, by simp⟩
  · exact ⟨hseated.of_same (by simp) (by simp) (by simp) (by simp), hoffered, by simp, by simp⟩

/-- A slot settled by a start. -/
theorem tearSlot_seated {s : State} (h : Seated s) (x : Side) :
    Seated (tearSlot x s) ∧ Settles s (tearSlot x s) ∧ Retorn s (tearSlot x s)
      ∧ s.ads.Through (slotTag (s.slot x)) (tearSlot x s).ads
      ∧ (tearSlot x s).slot x = none ∧ (tearSlot x s).slot (Side.other x) = s.slot (Side.other x)
      ∧ (s.slot x = none → tearSlot x s = s) := by
  unfold tearSlot
  cases hsl : s.slot x with
  | none => exact ⟨h, Settles.refl s, Retorn.refl s, Ads.Through.refl _, hsl, rfl, fun _ => rfl⟩
  | some sl =>
    set s' := chanStop (writeOf x) s with hs'
    have hstopped : Seated s' ∧ Settles s s' := ⟨h.of_same (by simp [hs']) (by simp [hs']) (by simp [hs']) (by simp [hs']),
      (Settles.refl s).of_same (by simp [hs']) (by simp [hs']) (by simp [hs']) (by simp [hs'])⟩
    obtain ⟨hseated, hsettled⟩ := hstopped
    obtain ⟨hseated', hsettled', hretorn⟩ := displaceTear_seated hseated
    have hslots := slot_of_txu (by simp [hs'] : (displaceTear s').txu = s.txu)
    have hsl' : (displaceTear s').slot x = some sl := (hslots x).trans hsl
    obtain ⟨e, hseen, -, hclear⟩ := hseated'.seen x sl hsl'
    obtain ⟨htorn, hsettles, hretorn', hfree, hother⟩ := tornState_seated hseated' hsl' hseen hclear
    obtain ⟨hdone, hdone', hscu, htxu⟩ := settled_audit .aborted sl htorn
      ((hsettled.trans hsettled').trans hsettles) (settleUncertain_eq .aborted hseen)
    refine ⟨hdone, hdone', ?_, ?_, ?_, ?_, nofun⟩
    · exact (Retorn.trans (s := s) hretorn hretorn').of_scu hscu
    · have hads : (tornState x sl e (displaceTear s')).ads = s.ads := by simp [tornState, putSighting, hs']
      dsimp only
      rw [settleUncertain_eq .aborted hseen, ← hads]
      exact ads_settled sl _
    · exact (slot_of_txu htxu x).trans hfree
    · exact ((slot_of_txu htxu _).trans hother).trans (hslots _)

/-- Both slots settled by a start, U and then P (R56). -/
theorem tearSlots_seated {s : State} (h : Seated s) :
    Seated (tearSlots s) ∧ Settles s (tearSlots s) ∧ Retorn s (tearSlots s)
      ∧ s.ads.Through (slotTag (s.slot .u) + slotTag (s.slot .p)) (tearSlots s).ads
      ∧ (∀ x, (tearSlots s).slot x = none)
      ∧ (s.slot .u = none → s.slot .p = none → tearSlots s = s) := by
  obtain ⟨hseated, hsettles, hretorn, hads, hfree, hother, hnone⟩ := tearSlot_seated h .u
  obtain ⟨hseated', hsettles', hretorn', hads', hfree', hother', hnone'⟩ := tearSlot_seated hseated .p
  have hstood : (tearSlot .u s).slot .p = s.slot .p := hother
  rw [hstood] at hads' hnone'
  refine ⟨hseated', hsettles.trans hsettles', hretorn.trans hretorn', hads.trans hads', fun x => ?_, fun hu hp => ?_⟩
  · cases x with
    | u => exact hother'.trans hfree
    | p => exact hfree'
  · exact (hnone' hp).trans (hnone hu)

end Sys2Proof.Machine
end

section
/-! SUPPORT. Credits cancelled by a start (R94, R116, R177): each gives its reservation to its entry, and marks alone
change in the sighting table. -/

namespace Sys2Proof.Machine

/-! ## Marks (R90, R94) -/

/-- Only marks differ, and the order of the entries. -/
structure Remarked (s t : State) : Prop where
  keyed : Keyed t.scu.sightings
  tears : tearCount t.scu.sightings = tearCount s.scu.sightings
  entries : ∀ e ∈ s.scu.sightings, ∃ e' ∈ t.scu.sightings, { e' with mark := e.mark } = e

theorem Remarked.refl {s : State} (h : Keyed s.scu.sightings) : Remarked s s := ⟨h, rfl, fun e he => ⟨e, he, rfl⟩⟩

theorem Remarked.trans {s t u : State} (h : Remarked s t) (h' : Remarked t u) : Remarked s u where
  keyed := h'.keyed
  tears := h'.tears.trans h.tears
  entries e he := by
    obtain ⟨e', he', hback⟩ := h.entries e he
    obtain ⟨e'', he'', hback'⟩ := h'.entries e' he'
    exact ⟨e'', he'', by rw [← hback, ← hback']⟩

theorem Remarked.of_scu {s t u : State} (h : Remarked s t) (hu : u.scu = t.scu) : Remarked s u :=
  ⟨hu ▸ h.keyed, hu ▸ h.tears, hu ▸ h.entries⟩

/-- An entry without the mark of a card. -/
def unmarked (c : Nat) (e : Sighting) : Sighting := if e.card = c then { e with mark := none } else e

theorem unmarked_keeps (c : Nat) (e : Sighting) :
    (unmarked c e).card = e.card ∧ (unmarked c e).tear = e.tear ∧ { unmarked c e with mark := e.mark } = e := by
  unfold unmarked
  split <;> exact ⟨rfl, rfl, rfl⟩

theorem remarked_dropMark (c : Nat) {s : State} (h : Keyed s.scu.sightings) : Remarked s (dropMark c s) := by
  have htable : (dropMark c s).scu.sightings = s.scu.sightings.map (unmarked c) := rfl
  refine ⟨?_, ?_, fun e he => ⟨unmarked c e, htable ▸ List.mem_map_of_mem he, (unmarked_keeps c e).2.2⟩⟩
  · rw [htable]
    exact keyed_map (fun x => (unmarked_keeps c x).1) h
  · have htears : (fun e : Sighting => e.tear.isSome) ∘ unmarked c = fun e => e.tear.isSome := by
      funext e
      simp [(unmarked_keeps c e).2.1]
    rw [htable, tearCount, List.filter_map, List.length_map, htears, tearCount]

theorem remarked_dropNinthMark {s : State} (h : Keyed s.scu.sightings) : Remarked s (dropNinthMark s) := by
  unfold dropNinthMark
  split
  · exact Remarked.refl h
  · split
    · exact Remarked.refl h
    · exact remarked_dropMark _ h

theorem remarked_placeMark (c : Nat) (m : Mark) {s : State} (h : Keyed s.scu.sightings) :
    Remarked s (placeMark c m s) := by
  unfold placeMark
  split
  next e he =>
    have hmem := mem_of_sighting he
    have hexchanged := exchanged_touch h hmem (e' := { e with mark := some m }) rfl
    refine ⟨hexchanged.keyed rfl h, Nat.add_right_cancel hexchanged.tearCount, fun x hx => ?_⟩
    by_cases hcard : x.card = e.card
    · rw [eq_of_card h hmem hx hcard]
      exact ⟨{ e with mark := some m }, List.mem_append_right _ (List.mem_singleton_self _), rfl⟩
    · exact ⟨x, List.mem_append_left _ (List.mem_filter.mpr ⟨hx, by simpa using hcard⟩), rfl⟩
  next => exact Remarked.refl h

theorem remarked_markCredit (d : Side) (c : Credit) {s : State} (h : Keyed s.scu.sightings) :
    Remarked s (markCredit d c s) := by
  unfold markCredit
  split
  next n _ =>
    unfold setMark
    split
    · exact Remarked.refl h
    next e _ =>
      cases e.mark.isSome with
      | true => exact remarked_placeMark _ _ h
      | false =>
        have hdropped := remarked_dropNinthMark h
        exact hdropped.trans (remarked_placeMark _ _ hdropped.keyed)
  next => exact Remarked.refl h

/-- SCU but for its sightings and the order of the marks. -/
def ListKept (s t : State) : Prop :=
  t.scu = { s.scu with sightings := t.scu.sightings, markOrder := t.scu.markOrder }

theorem ListKept.trans {s t u : State} (h : ListKept s t) (h' : ListKept t u) : ListKept s u := by
  unfold ListKept at *
  rw [h', h]

theorem listKept_dropNinthMark (s : State) : ListKept s (dropNinthMark s) := by
  unfold dropNinthMark
  split
  · rfl
  · split <;> rfl

theorem listKept_placeMark (c : Nat) (m : Mark) (s : State) : ListKept s (placeMark c m s) := by
  unfold placeMark
  split <;> rfl

theorem listKept_markCredit (d : Side) (c : Credit) (s : State) : ListKept s (markCredit d c s) := by
  unfold markCredit
  split
  · unfold setMark
    split
    · rfl
    next e _ =>
      cases e.mark.isSome with
      | true => exact listKept_placeMark ..
      | false => exact (listKept_dropNinthMark s).trans (listKept_placeMark ..)
  · rfl

theorem settles_markCredit (d : Side) (c : Credit) (s : State) : Settles s (markCredit d c s) where
  svc := by simp [Svc.Judged.refl]
  stl := by simp
  scu := listKept_markCredit d c s
  room _ := by simp [State.free]

/-! ## Credits (R116) -/

/-- A credit cancelled by a warm start: one reservation is its entry's, and its tag completes the sample ABORTED. -/
theorem cancelCredit_settles (d : Side) (c : Credit) {s : State} (hkeyed : Keyed s.scu.sightings)
    (hone : s.rjn.reserved ≠ 0) :
    Settles s (cancelCredit d .warmStart c s) ∧ Remarked s (cancelCredit d .warmStart c s)
      ∧ (cancelCredit d .warmStart c s).rjn.reserved + 1 = s.rjn.reserved
      ∧ s.ads.Through c.audit.toNat (cancelCredit d .warmStart c s).ads := by
  set v := writeReserved (creditEntry s .creditCancelled .warmStart d c) s with hv
  have hwritten : v.rjn.reserved + 1 = s.rjn.reserved := by
    rw [hv, writeReserved_held _ s hone]
    exact Nat.sub_add_cancel (Nat.pos_of_ne_zero hone)
  have hscu : v.scu = s.scu := by simp [hv]
  have hsettles : Settles s (markCredit d c v) := (settles_writeReserved _ hone).trans (settles_markCredit d c v)
  have hmarked : Remarked s (markCredit d c v) := by
    have hmark := remarked_markCredit d c (s := v) (hscu ▸ hkeyed)
    exact ⟨hmark.keyed, hscu ▸ hmark.tears, hscu ▸ hmark.entries⟩
  have hrjn : (markCredit d c v).rjn = v.rjn := by simp
  have hads : (markCredit d c v).ads = s.ads := by simp [hv]
  have hcancel : cancelCredit d .warmStart c s
      = if c.audit then auditComplete .aborted (markCredit d c v) else markCredit d c v := rfl
  rw [hcancel]
  cases c.audit with
  | false => exact ⟨hsettles, hmarked, hrjn ▸ hwritten, hads ▸ Ads.Through.refl _⟩
  | true =>
    refine ⟨hsettles.trans (settles_auditComplete _ _), hmarked.of_scu (by simp), ?_, nofun, fun _ => ?_⟩
    · simpa [hrjn] using hwritten
    · exact ads_auditComplete_aborted (f := id) (by rw [hads, Option.map_id]; rfl)

/-- Credits cancelled from the head on, from a state whose queue is already without them. -/
theorem cancelFrom_settles (d : Side) (l : List Credit) {s : State} (hkeyed : Keyed s.scu.sightings)
    (hroom : l.length ≤ s.rjn.reserved) (hqueue : s.queue d = l) :
    Settles s (cancelFrom d .warmStart l s) ∧ Remarked s (cancelFrom d .warmStart l s)
      ∧ (cancelFrom d .warmStart l s).rjn.reserved + l.length = s.rjn.reserved
      ∧ s.ads.Through (l.filter Credit.audit).length (cancelFrom d .warmStart l s).ads
      ∧ (cancelFrom d .warmStart l s).queue d = []
      ∧ (cancelFrom d .warmStart l s).queue (Side.other d) = s.queue (Side.other d)
      ∧ (l = [] → (cancelFrom d .warmStart l s).scu = s.scu) := by
  induction l generalizing s with
  | nil => exact ⟨Settles.refl s, Remarked.refl hkeyed, rfl, Ads.Through.refl _, hqueue, rfl, fun _ => rfl⟩
  | cons c l ih =>
    set u := setQueue d l s with hu
    obtain ⟨hscu, hrjn, hads, hsvc, hstl⟩ :
        u.scu = s.scu ∧ u.rjn = s.rjn ∧ u.ads = s.ads ∧ u.svc = s.svc ∧ u.stl = s.stl := by simp [hu]
    have hstart : Settles s u := (Settles.refl s).of_same hsvc hstl hscu hrjn
    rw [List.length_cons] at hroom
    have hkeyed' : Keyed u.scu.sightings := hscu ▸ hkeyed
    have hone : u.rjn.reserved ≠ 0 := by rw [hrjn]; omega
    obtain ⟨hsettles, hmarked, hreserved, hthrough⟩ := cancelCredit_settles d c hkeyed' hone
    have hqueues : ∀ y, (cancelCredit d .warmStart c u).queue y = if d = y then l else s.queue y := fun y =>
      (queue_of_pcu (by simp : (cancelCredit d .warmStart c u).pcu = u.pcu) y).trans (queue_setQueue d y l s)
    rw [hrjn] at hreserved
    rw [hads] at hthrough
    obtain ⟨hsettles', hmarked', hreserved', hthrough', hempty, hother, -⟩ :=
      ih hmarked.keyed (by omega) ((hqueues d).trans (if_pos rfl))
    refine ⟨(hstart.trans hsettles).trans hsettles', ?_, ?_, ?_, hempty, ?_, nofun⟩
    · exact Remarked.trans ⟨hmarked.keyed, hscu ▸ hmarked.tears, hscu ▸ hmarked.entries⟩ hmarked'
    · rw [List.length_cons, cancelFrom, ← hu]
      omega
    · have hfilter : ((c :: l).filter Credit.audit).length = c.audit.toNat + (l.filter Credit.audit).length := by
        cases h : c.audit <;> simp [h, Nat.add_comm]
      rw [hfilter]
      exact hthrough.trans hthrough'
    · exact hother.trans ((hqueues _).trans (if_neg (by cases d <;> decide)))

/-- Every credit of a direction cancelled by a warm start. -/
theorem cancelQueue_settles (d : Side) {s : State} (hkeyed : Keyed s.scu.sightings)
    (hroom : (s.queue d).length ≤ s.rjn.reserved) :
    Settles s (cancelQueue d .warmStart s) ∧ Remarked s (cancelQueue d .warmStart s)
      ∧ (cancelQueue d .warmStart s).rjn.reserved + (s.queue d).length = s.rjn.reserved
      ∧ s.ads.Through ((s.queue d).filter Credit.audit).length (cancelQueue d .warmStart s).ads
      ∧ (cancelQueue d .warmStart s).queue d = []
      ∧ (cancelQueue d .warmStart s).queue (Side.other d) = s.queue (Side.other d)
      ∧ (s.queue d = [] → (cancelQueue d .warmStart s).scu = s.scu) := by
  obtain ⟨hsettles, hmarked, hreserved, hthrough, hempty, hother, hnone⟩ := cancelFrom_settles d _ hkeyed hroom rfl
  have hstopped := stopWindow_frame d (cancelFrom d .warmStart (s.queue d) s)
  obtain ⟨-, -, -, hstl, -, -, hsvc, -, -, hscu, hpcu, -, hrjn, hads, -⟩ := hstopped
  refine ⟨hsettles.of_same hsvc hstl hscu hrjn, hmarked.of_scu hscu, ?_, ?_, (queue_of_pcu hpcu d).trans hempty,
    (queue_of_pcu hpcu _).trans hother, fun h => hscu.trans (hnone h)⟩
  · rw [cancelQueue, hrjn]
    exact hreserved
  · rw [cancelQueue, hads]
    exact hthrough

/-- Both queues cancelled by a warm start (R116, R120). -/
theorem cancelBoth_settles {s : State} (hkeyed : Keyed s.scu.sightings)
    (hroom : (s.queue .u).length + (s.queue .p).length ≤ s.rjn.reserved) :
    Settles s (cancelBoth .warmStart s) ∧ Remarked s (cancelBoth .warmStart s)
      ∧ (cancelBoth .warmStart s).rjn.reserved + ((s.queue .u).length + (s.queue .p).length) = s.rjn.reserved
      ∧ s.ads.Through ((s.queue .u ++ s.queue .p).filter Credit.audit).length (cancelBoth .warmStart s).ads
      ∧ (∀ d, (cancelBoth .warmStart s).queue d = [])
      ∧ (s.queue .u = [] → s.queue .p = [] → (cancelBoth .warmStart s).scu = s.scu) := by
  obtain ⟨hsettles, hmarked, hreserved, hthrough, hempty, hother, hnone⟩ :=
    cancelQueue_settles .u hkeyed (by omega)
  have hstands : (cancelQueue .u .warmStart s).queue .p = s.queue .p := hother
  obtain ⟨hsettles', hmarked', hreserved', hthrough', hempty', hother', hnone'⟩ :=
    cancelQueue_settles .p hmarked.keyed (by rw [hstands]; omega)
  rw [hstands] at hreserved' hthrough' hnone'
  refine ⟨hsettles.trans hsettles', hmarked.trans hmarked', by rw [cancelBoth]; omega, ?_, fun d => ?_, fun hu hp => ?_⟩
  · rw [List.filter_append, List.length_append]
    exact hthrough.trans hthrough'
  · cases d with
    | u => exact hother'.trans hempty
    | p => exact hempty'
  · exact (hnone' hp).trans (hnone hu)

end Sys2Proof.Machine
end

section
/-! SUPPORT. The lane a start has settled, and the free period after it (R56, R120, R127, R177). -/

namespace Sys2Proof.Machine

/-! ## The settled lane -/

/-- The state a start cancels from and the state its tracker is cleared in. -/
theorem settleLane_eq (r : Reason) (s : State) :
    settleLane r s = auditStart (clearTracker (chanStop .occupancy (cancelBoth r (tearSlots s)))) := rfl

theorem settles_auditStart (s : State) : Settles s (auditStart s) := by
  unfold auditStart
  split
  · exact settles_auditComplete _ s
  · exact Settles.refl s

/-- The tracker of a settled lane; its queues and its free period are as the cancels left them. -/
theorem pcu_settleLane (r : Reason) (s : State) : (settleLane r s).pcu = { (cancelBoth r (tearSlots s)).pcu with
    beam1 := false, beam2 := false, beam3 := false, beam4 := false, episode := false, episodeDir := none
    farClears := 0 } := by
  have hend : ∀ w, (auditStart w).pcu = w.pcu := by simp
  rw [settleLane_eq, hend]
  rfl

/-- The sightings of a settled lane, for a state that may have changed where no sighting is (R89, R94). -/
theorem sightingsKept_of_same {s s' t t' : State} (h : sightingsKept s t) (hscu : s'.scu = s.scu)
    (hqueue : ∀ d, s'.queue d = s.queue d) (hslot : ∀ x, s'.slot x = s.slot x) (ht : t'.scu = t.scu) :
    sightingsKept s' t' := by
  unfold sightingsKept at h ⊢
  rw [hscu, hqueue, hqueue, hslot, hslot, ht]
  exact h

/-- What was last seen stands through the settling of the slots and the cancels of the credits. -/
theorem sightingsKept_settled {s t u : State} (ht : Retorn s t) (hu : Remarked t u)
    (hawaited : s.slot .u = none → s.slot .p = none → t = s)
    (hqueued : s.queue .u = [] → s.queue .p = [] → u.scu = t.scu) : sightingsKept s u := by
  have hnoCredit : ¬(s.queue .u ≠ [] ∨ s.queue .p ≠ []) → u.scu = t.scu := fun h => by
    rw [not_or, not_not, not_not] at h
    exact hqueued h.1 h.2
  have hnoSlot : ¬(s.slot .u ≠ none ∨ s.slot .p ≠ none) → t = s := fun h => by
    rw [not_or, not_not, not_not] at h
    exact hawaited h.1 h.2
  refine ⟨fun e he => ?_, fun h => by rw [hnoCredit h]; exact ht.1, fun h h' => by rw [hnoCredit h, hnoSlot h']⟩
  obtain ⟨e', he', hback⟩ : ∃ e' ∈ t.scu.sightings, { e' with inFlight := e.inFlight, tear := e.tear } = e
      ∧ (¬(s.slot .u ≠ none ∨ s.slot .p ≠ none) → e' = e) := by
    by_cases hcase : s.slot .u ≠ none ∨ s.slot .p ≠ none
    · obtain ⟨e', he', hback⟩ := ht.2 e he
      exact ⟨e', he', hback, fun h => absurd hcase h⟩
    · exact ⟨e, hnoSlot hcase ▸ he, rfl, fun _ => rfl⟩
  obtain ⟨e'', he'', hback'⟩ : ∃ e'' ∈ u.scu.sightings, { e'' with mark := e'.mark } = e'
      ∧ (¬(s.queue .u ≠ [] ∨ s.queue .p ≠ []) → e'' = e') := by
    by_cases hcase : s.queue .u ≠ [] ∨ s.queue .p ≠ []
    · obtain ⟨e'', he'', hback⟩ := hu.entries e' he'
      exact ⟨e'', he'', hback, fun h => absurd hcase h⟩
    · exact ⟨e', hnoCredit hcase ▸ he', rfl, fun _ => rfl⟩
  have hmark : e'.mark = e.mark := by rw [← hback.1]
  have htear : e''.tear = e'.tear := by rw [← hback'.1]
  refine ⟨e'', he'', ?_, fun h => by rw [hback'.2 h, hmark], fun h => by rw [htear, hback.2 h]⟩
  rw [← hback.1, ← hback'.1]

/-- A settled lane: no slot, no credit, and two reservations for each pending-tear (R56, R120, R159). -/
theorem settleLane_settles {s : State} (h : Seated s) :
    Settles s (settleLane .warmStart s) ∧ sightingsKept s (settleLane .warmStart s)
      ∧ (settleLane .warmStart s).rjn.reserved = 2 * (settleLane .warmStart s).tears.length
      ∧ (∀ x, (settleLane .warmStart s).slot x = none) ∧ (∀ d, (settleLane .warmStart s).queue d = []) := by
  obtain ⟨hseated, hsettles, hretorn, -, hslots, hstill⟩ := tearSlots_seated h
  have hqueues := queue_of_pcu (by simp : (tearSlots s).pcu = s.pcu)
  have hheld := hseated.held
  rw [held_eq, hslots, hslots] at hheld
  simp only [slotHeld] at hheld
  obtain ⟨hsettles', hmarked, hreserved, -, hempty, hnone⟩ := cancelBoth_settles hseated.keyed (by omega)
  simp only [hqueues] at hnone
  set v := cancelBoth .warmStart (tearSlots s) with hv
  set w := clearTracker (chanStop .occupancy v) with hw
  have hsame : w.scu = v.scu ∧ w.txu = v.txu ∧ w.rjn = v.rjn ∧ w.svc = v.svc ∧ w.stl = v.stl := by simp [hw, clearTracker]
  obtain ⟨hscu, htxu, hrjn, hsvc, hstl⟩ := hsame
  have hlane : settleLane .warmStart s = auditStart w := rfl
  obtain ⟨hscu', htxu', hrjn', hpcu'⟩ : (auditStart w).scu = w.scu ∧ (auditStart w).txu = w.txu
      ∧ (auditStart w).rjn = w.rjn ∧ (auditStart w).pcu = w.pcu := by simp
  have htable := hscu'.trans hscu
  have hseats : (auditStart w).txu = (tearSlots s).txu := by rw [htxu', htxu, hv]; simp
  have hqueue : ∀ d, w.queue d = v.queue d := fun d => by cases d <;> simp [State.queue, hw, clearTracker]
  rw [hlane]
  refine ⟨?_, ?_, ?_, fun x => (slot_of_txu hseats x).trans (hslots x),
    fun d => ((queue_of_pcu hpcu' d).trans (hqueue d)).trans (hempty d)⟩
  · exact ((hsettles.trans hsettles').of_same hsvc hstl hscu hrjn).trans (settles_auditStart w)
  · exact sightingsKept_of_same (sightingsKept_settled hretorn hmarked hstill hnone) rfl (fun _ => rfl) (fun _ => rfl)
      htable
  · rw [length_tears, htable, hrjn', hrjn, hmarked.tears]
    omega

/-- What a start leaves of the sampler: a tagged slot or credit completes its sample ABORTED, a sample in CLOSING is
completed as it stood (R173, R177). -/
theorem ads_settleLane {s : State} (h : Seated s) (htags : s.tagKept) :
    let a := (settleLane .warmStart s).ads
    (a.enable = s.ads.enable ∧ a.interval = s.ads.interval ∧ a.randomise = s.ads.randomise ∧ a.counter = s.ads.counter)
      ∧ (s.ads.phase ≠ .tracking → s.ads.phase ≠ .closing → a = s.ads)
      ∧ (s.ads.phase = .tracking → a.phase = .valid ∧ ∃ m, a.sample = some m ∧ m.outcome = some .aborted)
      ∧ (s.ads.phase = .closing → a.phase = .valid ∧ ∃ m, a.sample = some m ∧ m.outcome = some .passed) := by
  intro a
  obtain ⟨hseated, -, -, hthrough, hslots, -⟩ := tearSlots_seated h
  have hqueues := queue_of_pcu (by simp : (tearSlots s).pcu = s.pcu)
  have hheld := hseated.held
  rw [held_eq] at hheld
  obtain ⟨-, -, -, hthrough', -, -⟩ := cancelBoth_settles hseated.keyed (by omega)
  rw [hqueues, hqueues] at hthrough'
  obtain ⟨htags, hsample, -⟩ := htags
  have hall : s.ads.Through s.tags (cancelBoth .warmStart (tearSlots s)).ads := hthrough.trans hthrough'
  have hend : a = (auditStart (clearTracker (chanStop .occupancy (cancelBoth .warmStart (tearSlots s))))).ads := rfl
  have hads : (clearTracker (chanStop .occupancy (cancelBoth .warmStart (tearSlots s)))).ads
      = (cancelBoth .warmStart (tearSlots s)).ads := rfl
  unfold auditStart at hend
  rw [hads] at hend
  by_cases htracking : s.ads.phase = .tracking
  · rw [if_pos htracking] at htags
    obtain ⟨hkept, hphase, hdone⟩ := hall.2 (by omega)
    rw [hphase, if_neg (by decide)] at hend
    rw [htracking] at hsample
    rw [hend, hads]
    exact ⟨hkept, fun h => absurd htracking h, fun _ => ⟨hphase, hdone hsample⟩, fun h => by simp [htracking] at h⟩
  · rw [if_neg htracking] at htags
    have hstill := hall.1 htags
    rw [hstill] at hend hads
    by_cases hclosing : s.ads.phase = .closing
    · rw [if_pos hclosing] at hend
      rw [hclosing] at hsample
      obtain ⟨m, hm⟩ := Option.isSome_iff_exists.mp hsample
      have hcompleted : ∀ w : State, w.ads = s.ads → (auditComplete .passed w).ads = { s.ads with
          sample := some { m with outcome := some .passed, doneDay := w.svc.day, doneSecs := w.svc.secs }
          phase := .valid, grantTick := none } := by
        intro w hw
        simp [auditComplete, onSample, hw, hm]
      rw [hend, hcompleted _ hads]
      exact ⟨⟨rfl, rfl, rfl, rfl⟩, fun _ h => absurd hclosing h, fun h => absurd h htracking, fun _ => ⟨rfl, _, rfl, rfl⟩⟩
    · rw [if_neg hclosing, hads] at hend
      rw [hend]
      exact ⟨⟨rfl, rfl, rfl, rfl⟩, fun _ _ => rfl, fun h => absurd h htracking, fun h => absurd h hclosing⟩

/-! ## The free period (R120) -/

/-- The free period of a warm start: its entry comes from the free pool, the record alone changes of PCU. -/
theorem warmFree_keeps (s : State) : (warmFree s).powered = s.powered ∧ (warmFree s).pending = s.pending
    ∧ (warmFree s).lpt = s.lpt ∧ (warmFree s).setup = s.setup ∧ (warmFree s).rck = s.rck ∧ (warmFree s).txu = s.txu
    ∧ (warmFree s).fru = s.fru ∧ (warmFree s).scu = s.scu ∧ (warmFree s).lfc = s.lfc ∧ (warmFree s).ads = s.ads
    ∧ (warmFree s).inp = s.inp := by
  unfold warmFree
  dsimp only
  split_ifs <;> simp

theorem closeFree_settles (s : State) : s.svc.Judged (closeFree s).svc ∧ s.stl.Spares .restarted (closeFree s).stl
    ∧ (closeFree s).rjn.reserved = s.rjn.reserved ∧ (0 < s.free → (closeFree s).rjn.overrun = s.rjn.overrun)
    ∧ (closeFree s).pcu = { s.pcu with freePeriod := { s.pcu.freePeriod with isOpen := false } } := by
  unfold closeFree
  set e : Entry := { s.entry .freePeriod s.pcu.freePeriod.reason none with
    extra := s.pcu.freePeriod.up * 65536 + s.pcu.freePeriod.pu }
  refine ⟨writeFree_judged e s, spares_writeFree e (by decide) (Stl.Spares.refl _ _), writeFree_reserved e s,
    fun hfree => ?_, by simp⟩
  rw [setPcu_rjn, writeFree_room e s hfree.ne']

theorem openFree_pcu (r : Reason) (s : State) : (openFree r s).pcu.freePeriod.isOpen = true
    ∧ (openFree r s).pcu = { s.pcu with freePeriod := (openFree r s).pcu.freePeriod } := by
  unfold openFree
  split
  next h => exact ⟨h, rfl⟩
  next => exact ⟨rfl, rfl⟩

theorem warmFree_settles (s : State) : s.svc.Judged (warmFree s).svc ∧ s.stl.Spares .restarted (warmFree s).stl
    ∧ (warmFree s).rjn.reserved = s.rjn.reserved ∧ (0 < s.free → (warmFree s).rjn.overrun = s.rjn.overrun)
    ∧ (warmFree s).pcu = { s.pcu with freePeriod := (warmFree s).pcu.freePeriod }
    ∧ ((warmFree s).pcu.freePeriod.isOpen = true ↔ s.effMode = .free) := by
  set u := if s.pcu.freePeriod.isOpen then closeFree s else s with hu
  have hclosed : s.svc.Judged u.svc ∧ s.stl.Spares .restarted u.stl ∧ u.rjn.reserved = s.rjn.reserved
      ∧ (0 < s.free → u.rjn.overrun = s.rjn.overrun) ∧ u.pcu = { s.pcu with freePeriod := u.pcu.freePeriod }
      ∧ u.pcu.freePeriod.isOpen = false := by
    rw [hu]
    split
    · obtain ⟨hsvc, hstl, hreserved, hover, hpcu⟩ := closeFree_settles s
      exact ⟨hsvc, hstl, hreserved, hover, by rw [hpcu], by rw [hpcu]⟩
    next h => exact ⟨Svc.Judged.refl _, Stl.Spares.refl _ _, rfl, fun _ => rfl, rfl, by simpa using h⟩
  obtain ⟨hsvc, hstl, hreserved, hover, hpcu, hshut⟩ := hclosed
  have hmode : u.effMode = s.effMode := effMode_of_judged hsvc
  have hfree : warmFree s = if u.effMode = .free then openFree .stationFree u else u := rfl
  rw [hfree, hmode]
  split
  next h =>
    obtain ⟨hopen, hpcu'⟩ := openFree_pcu .stationFree u
    refine ⟨by simpa using hsvc, by simpa using hstl, by simpa using hreserved, by simpa using hover, ?_,
      iff_of_true hopen h⟩
    rw [hpcu', hpcu]
  next h => exact ⟨hsvc, hstl, hreserved, hover, hpcu, iff_of_false (by simp [hshut]) h⟩

end Sys2Proof.Machine
end

section
/-! SUPPORT. The end of a warm start: leaves, channels, signals, service and notices (R103, R144, R153, R194). -/

namespace Sys2Proof.Machine

/-! ## Notices at a start (R190, R194) -/

/-- Every cause of a set is UNMASKED. -/
def AllUnmasked (ns : List Notice) : Prop := ∀ n ∈ ns, n.setting = .unmasked

theorem allUnmasked_map {ns : List Notice} {f : Notice → Notice} (h : AllUnmasked ns)
    (hf : ∀ n, (f n).setting = n.setting) : AllUnmasked (ns.map f) := by
  intro n hn
  obtain ⟨m, hm, rfl⟩ := List.mem_map.mp hn
  rw [hf, h m hm]

theorem allUnmasked_raiseIn {ns : List Notice} (c : Cause) (h : AllUnmasked ns) : AllUnmasked (raiseIn c ns) :=
  allUnmasked_map h fun n => by split <;> simp

theorem allUnmasked_forget {ns : List Notice} (c : Cause) (h : AllUnmasked ns) : AllUnmasked (forget c ns) :=
  allUnmasked_map h fun n => by split <;> rfl

theorem allUnmasked_spares {c : Cause} {x x' : Stl} (h : x.Spares c x') (hall : AllUnmasked x.notices) :
    AllUnmasked x'.notices := by
  obtain ⟨ds, -, rfl⟩ := h
  have hfold : ∀ (ds : List Cause) (ns : List Notice), AllUnmasked ns →
      AllUnmasked (ds.foldl (fun ns d => raiseIn d ns) ns) := by
    intro ds
    induction ds with
    | nil => exact fun _ h => h
    | cons d ds ih => exact fun ns h => ih _ (allUnmasked_raiseIn d h)
  exact hfold ds _ hall

/-- A cause taken back leaves the record of another. -/
theorem sameNotice_forget {c d : Cause} (h : d ≠ c) (ns : List Notice) : SameNotice c ns (forget d ns) := by
  unfold SameNotice forget
  induction ns with
  | nil => rfl
  | cons n ns ih =>
    simp only [List.map_cons, List.filter_cons]
    by_cases hn : n.cause = d <;> simp [hn, h, ih]

/-- The record of a cause raised once in a set that starts afresh. -/
theorem count_of_raised {c : Cause} {ns : List Notice}
    (h : (ns.filter fun n => n.cause == c) = [{ cause := c, setting := .unmasked, count := 0 }]) :
    ∀ n ∈ raiseIn c ns, n.cause = c → n.count = 1 := by
  intro n hn hc
  have hmem : n ∈ (raiseIn c ns).filter fun n => n.cause == c := List.mem_filter.mpr ⟨hn, by simpa using hc⟩
  rw [filter_raiseIn_self, h] at hmem
  rw [List.eq_of_mem_singleton hmem]
  rfl

theorem noticesOf_laneCauses_raised : ∀ n ∈ raiseIn .restarted (noticesOf laneCauses),
    n.setting = .unmasked ∧ n.count = if n.cause = .restarted then 1 else 0 := by decide

theorem allUnmasked_noticesOf (causes : List Cause) : AllUnmasked (noticesOf causes) := by
  intro n hn
  obtain ⟨c, -, rfl⟩ := List.mem_map.mp hn
  rfl

/-- The station set of a start: every cause UNMASKED, RESTARTED counted once (R194). -/
theorem stationNotices_started {x : Stl} {ns : List Notice} (hx : x.notices = noticesOf stationCauses)
    (h : x.Spares .restarted { x with notices := ns }) :
    ∀ n ∈ raiseIn .restarted (forget .journalLow (forget .journalStop ns)),
      n.setting = .unmasked ∧ (n.cause = .restarted → n.count = 1) := by
  have hall : AllUnmasked ns := allUnmasked_spares h (hx ▸ allUnmasked_noticesOf _)
  have hsame : SameNotice .restarted (noticesOf stationCauses) (forget .journalLow (forget .journalStop ns)) :=
    ((hx ▸ h.notices : SameNotice .restarted _ ns).trans (sameNotice_forget (by decide) _)).trans
      (sameNotice_forget (by decide) _)
  exact fun n hn => ⟨allUnmasked_raiseIn _ (allUnmasked_forget _ (allUnmasked_forget _ hall)) n hn,
    count_of_raised hsame n hn⟩

/-! ## The end of a warm start -/

/-- The leaves of a start with the switches unset: CLOSING with the drives released, whatever they were (R144). -/
def Lfc.released (l : Lfc) : Lfc :=
  { l with
    leaf := .closing, grant := none, reversal := false, paused := false, reversalCount := 0
    driveL := .released, driveR := .released, runL := 0, runR := 0, nextLeaf := .left
    swLC := none, swLO := none, swRC := none, swRO := none }

theorem warmDriven_eq (s : State) :
    warmDriven s = resetSignals ((s.setLfc s.lfc.released).setLtu .reset) := rfl

theorem chan_warmDriven (s : State) (i : ChanId) : ((warmDriven s).chan i).state = .stopped := by
  rw [warmDriven_eq]
  cases i <;> rfl

/-- The state in which a warm start forms its service. -/
def warmJudged (s : State) : State := forgetSpace (judgeSpace (warmDriven s))

theorem warmFormed_eq (s : State) : warmFormed (warmDriven s)
    = formAttn (formLamps (raiseBoth .restarted (warmService (warmJudged s)))) := rfl

theorem warmFormed_keeps (s : State) :
    let t := warmFormed (warmDriven s)
    t.powered = s.powered ∧ t.pending = s.pending ∧ t.setup = s.setup ∧ t.rck = s.rck ∧ t.txu = s.txu ∧ t.fru = s.fru
      ∧ t.scu = s.scu ∧ t.pcu = s.pcu ∧ t.lfc = s.lfc.released ∧ t.ads = s.ads ∧ t.inp = s.inp
      ∧ t.rjn.reserved = s.rjn.reserved ∧ t.rjn.overrun = s.rjn.overrun ∧ ∀ i, (t.chan i).state = .stopped := by
  intro t
  have ht : t = formAttn (formLamps (raiseBoth .restarted (warmService (warmJudged s)))) := rfl
  have hchan : ∀ i, t.chan i = (warmDriven s).chan i := by
    intro i
    simp [ht, State.chan, warmService, warmJudged, forgetSpace]
  refine ⟨?_, ?_, ?_, ?_, ?_, ?_, ?_, ?_, ?_, ?_, ?_, ?_, ?_, fun i => hchan i ▸ chan_warmDriven s i⟩ <;>
    simp [ht, warmService, warmJudged, forgetSpace, warmDriven_eq, resetSignals, judgeSpace_rjn]

/-- The service a warm start forms (R24, R30). -/
theorem warmFormed_svc (s : State) : (warmFormed (warmDriven s)).svc = { s.svc with
    laneHold := false, reasons := standingReasons (warmJudged s), serviceTouched := false } := by
  have hjudged := judgeSpace_judged (warmDriven s)
  have hdriven : (warmDriven s).svc = s.svc := by simp [warmDriven_eq, resetSignals]
  have hsvc : (warmFormed (warmDriven s)).svc = { (judgeSpace (warmDriven s)).svc with
      laneHold := false, reasons := standingReasons (warmJudged s), serviceTouched := false } := by
    simp [warmFormed_eq, warmService, warmJudged, forgetSpace]
  rw [hdriven, Svc.Judged] at hjudged
  rw [hsvc, hjudged]

theorem formed_of_untouched {s : State} (h : s.svc.serviceTouched = false) : (formAttn (formLamps s)).formed :=
  ⟨⟨rfl, rfl, rfl, rfl⟩, rfl, h⟩

theorem warmFormed_formed (s : State) : (warmFormed (warmDriven s)).formed := by
  rw [warmFormed_eq]
  exact formed_of_untouched (by simp [warmService])

/-- The reasons formed at the end of a warm start are those of its state, FAULT being left. -/
theorem reasonsTold_of_service {s : State} (h : s.lfc.leaf ≠ .fault) :
    (formAttn (formLamps (raiseBoth .restarted (warmService s)))).reasonsTold := by
  have hleaf : (s.lfc.leaf == .fault) = false := by simpa using h
  show standingReasons s = { standingReasons s with leafFault := s.lfc.leaf == .fault }
  rw [hleaf]
  rfl

theorem warmFormed_reasonsTold (s : State) : (warmFormed (warmDriven s)).reasonsTold := by
  have hleaf : (warmJudged s).lfc.leaf = .closing := by
    simp [warmJudged, forgetSpace, warmDriven_eq, resetSignals, Lfc.released]
  rw [warmFormed_eq]
  exact reasonsTold_of_service (by rw [hleaf]; decide)

theorem warmFormed_sgu (s : State) : let g := (warmFormed (warmDriven s)).sgu
    g.tone = none ∧ g.hurryUp = false ∧ g.hurryPu = false ∧ g.flashU = none ∧ g.flashP = none := by
  have hquiet : ∀ z : State, (formAttn (formLamps z)).sgu = { z.sgu with
      lampUG := greenLamp z .u, lampUR := redLamp z .u, lampPG := greenLamp z .p, lampPR := redLamp z .p } := by
    intro z
    rfl
  have hreset : (raiseBoth .restarted (warmService (warmJudged s))).sgu = (warmDriven s).sgu := by
    simp [warmService, warmJudged, forgetSpace]
  rw [warmFormed_eq, hquiet, hreset, warmDriven_eq]
  simp [resetSignals]

/-- The lane port after a start: RESTARTED stands in its set, so ATTN is up (R181, R194). -/
theorem warmFormed_lpt (s : State) : (warmFormed (warmDriven s)).lpt = { s.lpt with
    notices := raiseIn .restarted s.lpt.notices
    attn := s.lpt.responseSlot.isSome || (raiseIn .restarted s.lpt.notices).any Notice.unmasked } := by
  have hlpt : (warmJudged s).lpt = s.lpt := by simp [warmJudged, forgetSpace, warmDriven_eq, resetSignals]
  have hport : ∀ z : State, (formAttn (formLamps (raiseBoth .restarted (warmService z)))).lpt = { z.lpt with
      notices := raiseIn .restarted z.lpt.notices
      attn := z.lpt.responseSlot.isSome || (raiseIn .restarted z.lpt.notices).any Notice.unmasked } := by
    intro z
    rfl
  rw [warmFormed_eq, hport, hlpt]

/-- The station link after a start: the notices of the space are taken back, and RESTARTED is raised (R161, R194). -/
theorem warmFormed_stl (s : State) : ∃ ns, s.stl.Spares .restarted { s.stl with notices := ns }
    ∧ (warmFormed (warmDriven s)).stl = { s.stl with
      notices := raiseIn .restarted (forget .journalLow (forget .journalStop ns)) } := by
  have hdriven : s.stl.Spares .restarted (warmDriven s).stl := by simp [warmDriven_eq, resetSignals]
  obtain ⟨ds, hds, heq⟩ := spares_judgeSpace (by decide) hdriven
  have hlink : ∀ z : State, (formAttn (formLamps (raiseBoth .restarted (warmService (forgetSpace z))))).stl
      = { z.stl with notices := raiseIn .restarted (forget .journalLow (forget .journalStop z.stl.notices)) } := by
    intro z
    rfl
  refine ⟨_, ⟨ds, hds, rfl⟩, ?_⟩
  rw [warmFormed_eq, warmJudged, hlink, heq]

end Sys2Proof.Machine
end

section
/-! SUPPORT. The warm start from a state that keeps its books: what is retained, and what starts afresh (R194). -/

namespace Sys2Proof.Machine

/-- The state a warm start settles the lane from: ports and filters afresh, EMERG released, its START entry written. -/
def warmBegun (a : BitVec 6) (b : BitVec 2) (s : State) : State := writeStart .warm (warmOpened a b s)

/-- The START entry of a warm start (R164). -/
def warmEntry (s : State) : Entry := { s.entry .start .warm none with extra := s.rck.w.toNat }

theorem warmBegun_eq (a : BitVec 6) (b : BitVec 2) (s : State) :
    warmBegun a b s = writeFree (warmEntry s) (warmOpened a b s) := rfl

theorem warmOpened_rjn (a : BitVec 6) (b : BitVec 2) (s : State) : (warmOpened a b s).rjn = s.rjn := rfl

theorem warmBegun_keeps (a : BitVec 6) (b : BitVec 2) (s : State) : let t := warmBegun a b s
    t.pending = s.pending ∧ t.setup = s.setup ∧ t.rck = s.rck ∧ t.txu = s.txu ∧ t.fru = s.fru ∧ t.scu = s.scu
      ∧ t.pcu = s.pcu ∧ t.lfc = s.lfc ∧ t.ads = s.ads ∧ t.rjn.reserved = s.rjn.reserved ∧ t.powered = true
      ∧ t.lpt = (warmOpened a b s).lpt ∧ t.inp = (warmOpened a b s).inp := by
  intro t
  have ht : t = writeFree (warmEntry s) (warmOpened a b s) := rfl
  have hreserved := writeFree_reserved (warmEntry s) (warmOpened a b s)
  rw [← ht] at hreserved
  refine ⟨?_, ?_, ?_, ?_, ?_, ?_, ?_, ?_, ?_, hreserved, ?_, ?_, ?_⟩ <;> rw [ht] <;> simp <;> rfl

theorem seated_warmBegun (a : BitVec 6) (b : BitVec 2) {s : State} (h : Seated s) : Seated (warmBegun a b s) := by
  obtain ⟨-, -, -, htxu, -, hscu, hpcu, -, -, hreserved, -⟩ := warmBegun_keeps a b s
  exact h.of_same (congrArg Scu.sightings hscu) htxu hpcu hreserved

theorem warmBegun_svc (a : BitVec 6) (b : BitVec 2) (s : State) :
    Svc.Judged { s.svc with emerg := false } (warmBegun a b s).svc := writeFree_judged (warmEntry s) (warmOpened a b s)

theorem warmBegun_stl (a : BitVec 6) (b : BitVec 2) (s : State) :
    (warmOpened a b s).stl.Spares .restarted (warmBegun a b s).stl :=
  spares_writeFree (warmEntry s) (by decide) (Stl.Spares.refl _ _)

/-- The first entry of a warm start is its START entry (R164). -/
theorem warmStarted_firstEntry (a : BitVec 6) (b : BitVec 2) {s : State} (h : s.free ≠ 0) :
    firstEntry (warmEntry s) s (warmStarted a b s) := by
  have hwritten := writeFree_room (warmEntry s) (warmOpened a b s) h
  rw [← warmBegun_eq, warmOpened_rjn] at hwritten
  obtain ⟨es, hes, -⟩ : (warmBegun a b s).rjn.Grows (warmStarted a b s).rjn :=
    grows_warmStarted_of_start a b (Rjn.Grows.refl _)
  rw [hwritten] at hes
  exact ⟨es, by rw [hes, List.append_assoc]; rfl⟩

/-- With 4 places free no overrun is counted or told: a warm start takes two of them. -/
theorem warmBegun_room (a : BitVec 6) (b : BitVec 2) {s : State} (h : 4 ≤ s.free) :
    (warmBegun a b s).rjn.overrun = s.rjn.overrun ∧ 0 < (warmBegun a b s).free := by
  have hwritten := writeFree_room (warmEntry s) (warmOpened a b s) (show s.free ≠ 0 by omega)
  rw [← warmBegun_eq, warmOpened_rjn] at hwritten
  rw [State.free] at h
  rw [State.free, hwritten]
  refine ⟨rfl, ?_⟩
  simp only [List.length_append, List.length_singleton]
  omega

theorem tagKept_of_same {s t : State} (h : s.tagKept) (hads : t.ads = s.ads) (htxu : t.txu = s.txu)
    (hpcu : t.pcu = s.pcu) : t.tagKept := by
  unfold State.tagKept State.tags at *
  simpa only [hads, htxu, hpcu, slot_of_txu htxu] using h

theorem settleLane_keeps (r : Reason) (s : State) : let t := settleLane r s
    t.powered = s.powered ∧ t.pending = s.pending ∧ t.lpt = s.lpt ∧ t.setup = s.setup ∧ t.rck = s.rck
      ∧ t.fru = s.fru ∧ t.lfc = s.lfc ∧ t.inp = s.inp := by
  simp [settleLane]

theorem queue_of_period {s t : State} {p : FreePeriod} (h : t.pcu = { s.pcu with freePeriod := p }) (d : Side) :
    t.queue d = s.queue d := by
  cases d <;> simp [State.queue, h]

/-- The state a warm start has settled, its free period formed. -/
theorem warmSettled_eq (a : BitVec 6) (b : BitVec 2) (s : State) :
    warmSettled a b s = warmFree (settleLane .warmStart (warmBegun a b s)) := rfl

/-- The parts that the settling of the lane leaves as the opening of the start set them. -/
theorem warmSettled_keeps (a : BitVec 6) (b : BitVec 2) (s : State) : let t := warmSettled a b s
    t.powered = true ∧ t.pending = s.pending ∧ t.setup = s.setup ∧ t.rck = s.rck ∧ t.fru = s.fru ∧ t.lfc = s.lfc
      ∧ t.lpt = (warmOpened a b s).lpt ∧ t.inp = (warmOpened a b s).inp := by
  intro t
  obtain ⟨hpending, hsetup, hrck, -, hfru, -, -, hlfc, -, -, hpowered, hlpt, hinp⟩ := warmBegun_keeps a b s
  obtain ⟨hpowered', hpending', hlpt', hsetup', hrck', hfru', hlfc', hinp'⟩ :=
    settleLane_keeps .warmStart (warmBegun a b s)
  obtain ⟨hpowered'', hpending'', hlpt'', hsetup'', hrck'', -, hfru'', -, hlfc'', -, hinp''⟩ :=
    warmFree_keeps (settleLane .warmStart (warmBegun a b s))
  exact ⟨(hpowered''.trans hpowered').trans hpowered, (hpending''.trans hpending').trans hpending,
    (hsetup''.trans hsetup').trans hsetup, (hrck''.trans hrck').trans hrck, (hfru''.trans hfru').trans hfru,
    (hlfc''.trans hlfc').trans hlfc, (hlpt''.trans hlpt').trans hlpt, (hinp''.trans hinp').trans hinp⟩

/-- The lane as a warm start from `s` leaves it: nothing awaited, queued or tracked, the sightings and the deny list
kept, and a tagged sample completed (R56, R120, R127, R159, R177). -/
structure LaneStarted (s t : State) : Prop where
  slots : ∀ x, t.slot x = none
  queues : ∀ d, t.queue d = []
  reserved : t.rjn.reserved = 2 * t.tears.length
  overrun : 4 ≤ s.free → t.rjn.overrun = s.rjn.overrun
  lists : t.scu = { s.scu with sightings := t.scu.sightings, markOrder := t.scu.markOrder }
  sightings : sightingsKept s t
  tracker : t.pcu.episode = false ∧ t.pcu.episodeDir = none ∧ t.pcu.farClears = 0 ∧ t.anyBeam = false
  period : t.pcu.freePeriod.isOpen = true ↔ s.svc.stationMode = .free
  settings : t.ads.enable = s.ads.enable ∧ t.ads.interval = s.ads.interval ∧ t.ads.randomise = s.ads.randomise
    ∧ t.ads.counter = s.ads.counter
  still : s.ads.phase ≠ .tracking → s.ads.phase ≠ .closing → t.ads = s.ads
  tracked : s.ads.phase = .tracking → t.ads.phase = .valid ∧ ∃ m, t.ads.sample = some m ∧ m.outcome = some .aborted
  closed : s.ads.phase = .closing → t.ads.phase = .valid ∧ ∃ m, t.ads.sample = some m ∧ m.outcome = some .passed

theorem laneStarted_warmSettled (a : BitVec 6) (b : BitVec 2) {s : State} (h : s.books) :
    LaneStarted s (warmSettled a b s) := by
  have hseated := seated_warmBegun a b (seated_of_books h)
  obtain ⟨-, -, -, htxu, -, hscu, hpcu, -, hads, -⟩ := warmBegun_keeps a b s
  obtain ⟨-, -, -, -, -, -, -, -, -, -, htags⟩ := h
  obtain ⟨hsettles, hkept, hheld, hslots, hqueues⟩ := settleLane_settles hseated
  obtain ⟨hsettings, hstill, htracked, hclosed⟩ := ads_settleLane hseated (tagKept_of_same htags hads htxu hpcu)
  have htracker := pcu_settleLane .warmStart (warmBegun a b s)
  rw [hads] at hsettings hstill htracked hclosed
  rw [warmSettled_eq]
  set v := warmBegun a b s
  set u := settleLane .warmStart v
  obtain ⟨-, -, -, -, -, htxu', -, hscu', -, hads', -⟩ := warmFree_keeps u
  obtain ⟨-, -, hreserved', hover', hpcu', hperiod⟩ := warmFree_settles u
  have hreleased : Svc.Judged { s.svc with emerg := false } u.svc := (warmBegun_svc a b s).trans hsettles.svc
  have hmode : u.effMode = s.svc.stationMode := by
    rw [State.effMode, hreleased.emerg, hreleased.stationMode]
    rfl
  exact {
    slots := fun x => (slot_of_txu htxu' x).trans (hslots x)
    queues := fun d => (queue_of_period hpcu' d).trans (hqueues d)
    reserved := by rw [hreserved', hheld, length_tears, length_tears, hscu']
    overrun := fun hroom => by
      obtain ⟨hbegun, hplace⟩ := warmBegun_room a b hroom
      obtain ⟨hsettled, hmore⟩ := hsettles.room hplace
      rw [hover' (hplace.trans_le hmore), hsettled, hbegun]
    lists := by rw [hscu', hsettles.scu, hscu]
    sightings := sightingsKept_of_same hkept hscu.symm (fun d => (queue_of_pcu hpcu d).symm)
      (fun x => (slot_of_txu htxu x).symm) hscu'
    tracker := by
      rw [State.anyBeam, hpcu', htracker]
      exact ⟨rfl, rfl, rfl, rfl⟩
    period := by rw [hperiod, hmode]
    settings := by rw [hads']; exact hsettings
    still := fun h h' => hads'.trans (hstill h h')
    tracked := fun h => by rw [hads']; exact htracked h
    closed := fun h => by rw [hads']; exact hclosed h }

/-- The end of a warm start leaves the settled lane. -/
theorem LaneStarted.of_same {s t t' : State} (h : LaneStarted s t) (htxu : t'.txu = t.txu) (hscu : t'.scu = t.scu)
    (hpcu : t'.pcu = t.pcu) (hads : t'.ads = t.ads) (hreserved : t'.rjn.reserved = t.rjn.reserved)
    (hover : t'.rjn.overrun = t.rjn.overrun) : LaneStarted s t' where
  slots x := (slot_of_txu htxu x).trans (h.slots x)
  queues d := (queue_of_pcu hpcu d).trans (h.queues d)
  reserved := by rw [hreserved, h.reserved, length_tears, length_tears, hscu]
  overrun hroom := hover.trans (h.overrun hroom)
  lists := by rw [hscu]; exact h.lists
  sightings := sightingsKept_of_same h.sightings rfl (fun _ => rfl) (fun _ => rfl) hscu
  tracker := by
    rw [State.anyBeam, hpcu]
    exact h.tracker
  period := by rw [hpcu]; exact h.period
  settings := by rw [hads]; exact h.settings
  still hphase hphase' := hads.trans (h.still hphase hphase')
  tracked hphase := by rw [hads]; exact h.tracked hphase
  closed hphase := by rw [hads]; exact h.closed hphase

theorem warmSettled_told (a : BitVec 6) (b : BitVec 2) {s : State} (h : Seated s) :
    Svc.Judged { s.svc with emerg := false } (warmSettled a b s).svc
      ∧ (warmOpened a b s).stl.Spares .restarted (warmSettled a b s).stl := by
  obtain ⟨hsettles, -⟩ := settleLane_settles (seated_warmBegun a b h)
  obtain ⟨hsvc, hstl, -⟩ := warmFree_settles (settleLane .warmStart (warmBegun a b s))
  exact ⟨(warmBegun_svc a b s).trans (hsettles.svc.trans hsvc), (warmBegun_stl a b s).trans (hsettles.stl.trans hstl)⟩

/-- The service clock of a warm start: time and station mode retained, EMERG and the hold released (R24, R25, R30). -/
theorem warmStarted_svc (a : BitVec 6) (b : BitVec 2) {s : State} (h : Seated s) : (warmStarted a b s).svc = { s.svc with
    emerg := false, laneHold := false, reasons := (warmStarted a b s).svc.reasons, serviceTouched := false } := by
  obtain ⟨hjudged, -⟩ := warmSettled_told a b h
  rw [Svc.Judged] at hjudged
  rw [warmStarted_eq, warmFormed_svc, hjudged]

/-- The station link of a warm start: the straps as read, and its notice set afresh (R183, R194). -/
theorem warmStarted_stl (a : BitVec 6) (b : BitVec 2) {s : State} (h : Seated s) :
    ∃ ns, (warmStarted a b s).stl = { (warmOpened a b s).stl with notices := ns }
      ∧ ∀ n ∈ ns, n.setting = .unmasked ∧ (n.cause = .restarted → n.count = 1) := by
  obtain ⟨-, hspares⟩ := warmSettled_told a b h
  obtain ⟨ns, hns, hstl⟩ := warmFormed_stl (warmSettled a b s)
  obtain ⟨ds, hds, heq⟩ := hspares.trans hns
  have hwith := congrArg (fun x : Stl => { x with
    notices := raiseIn .restarted (forget .journalLow (forget .journalStop ns)) }) heq
  refine ⟨_, (warmStarted_eq a b s ▸ hstl).trans hwith, stationNotices_started (x := (warmOpened a b s).stl) rfl ?_⟩
  exact ⟨ds, hds, congrArg (fun x : Stl => { (warmOpened a b s).stl with notices := x.notices }) heq⟩

/-- The lane port of a warm start: NOT READY and empty, with RESTARTED in its set (R177, R194). -/
theorem warmStarted_lpt (a : BitVec 6) (b : BitVec 2) (s : State) : (warmStarted a b s).lpt = { (warmOpened a b s).lpt with
    notices := raiseIn .restarted (noticesOf laneCauses), attn := true } := by
  obtain ⟨-, -, -, -, -, -, hlpt, -⟩ := warmSettled_keeps a b s
  rw [warmStarted_eq, warmFormed_lpt, hlpt]
  rfl

/-- Settles O6: the retained fields pass each stage of the start unchanged, and the others are what the stages set. -/
theorem warmStartKeepsRetained : Obligations.WarmStartKeepsRetained := by
  intro a b s hbooks
  have hseated := seated_of_books hbooks
  have hsvc := warmStarted_svc a b hseated
  have hlpt := warmStarted_lpt a b s
  obtain ⟨ns, hstl, hnotices⟩ := warmStarted_stl a b hseated
  obtain ⟨es, hes, hnext, -⟩ := grows_warmStarted a b (Rjn.Grows.refl s.rjn)
  have hfirst : s.free = 0 ∨ firstEntry (warmEntry s) s (warmStarted a b s) :=
    or_iff_not_imp_left.mpr (warmStarted_firstEntry a b)
  have hlane := laneStarted_warmSettled a b hbooks
  obtain ⟨hpowered, hpending, hsetup, hrck, hfru, hlfc, -, hinp⟩ := warmSettled_keeps a b s
  rw [warmStarted_eq] at hsvc hlpt hstl hes hnext hfirst
  set w := warmSettled a b s
  obtain ⟨fpowered, fpending, fsetup, frck, ftxu, ffru, fscu, fpcu, flfc, fads, finp, freserved, foverrun, fchan⟩ :=
    warmFormed_keeps w
  obtain ⟨htone, hhurryUp, hhurryPu, hflashU, hflashP⟩ := warmFormed_sgu w
  have hformed := warmFormed_formed w
  have htold := warmFormed_reasonsTold w
  have hstart := hlane.of_same ftxu fscu fpcu fads freserved foverrun
  refine ⟨warmFormed (warmDriven w), rfl, ?_⟩
  set t := warmFormed (warmDriven w)
  have hmode : t.effMode = s.svc.stationMode := by
    rw [State.effMode, hsvc]
    rfl
  have hleaves : t.lfc = s.lfc.released := by rw [flfc, hlfc]
  obtain ⟨hdeny, hversion, hlocal⟩ : t.scu.deny = s.scu.deny ∧ t.scu.denyVersion = s.scu.denyVersion
      ∧ t.scu.denyLocal = s.scu.denyLocal := by
    rw [hstart.lists]
    exact ⟨rfl, rfl, rfl⟩
  obtain ⟨hepisode, hdir, hfar, hbeams⟩ := hstart.tracker
  obtain ⟨henable, hinterval, hrandomise, hcounter⟩ := hstart.settings
  refine ⟨fpowered.trans hpowered, ?_, fun i => ?_, by rw [hstl]; rfl, by rw [hstl]; rfl, by rw [hstl]; rfl,
    by rw [hstl]; rfl, by rw [hstl]; rfl, by rw [hstl]; rfl, by rw [hlpt]; rfl, by rw [hlpt]; rfl,
    by rw [hlpt]; rfl, by rw [hlpt], ?_, ?_, by rw [hsvc], by rw [hsvc], by rw [hsvc], by rw [hsvc], by rw [hsvc],
    by rw [hsvc], by rw [hsvc], by rw [hsvc], hmode, htold, hstart.slots .u, hstart.slots .p, hstart.queues .u,
    hstart.queues .p, hstart.reserved, hdeny, hversion, hlocal, fchan, hepisode, hdir, hfar, hbeams, hstart.period,
    by rw [hleaves]; rfl, by rw [hleaves]; rfl, by rw [hleaves]; rfl, by rw [hleaves]; rfl, by rw [hleaves]; rfl,
    by rw [hleaves]; rfl, fun l y => ?_, htone, hhurryUp, hhurryPu, hflashU, hflashP, hformed, hstart.sightings,
    ⟨es, hes, hnext⟩, hstart.overrun, henable, hinterval, hrandomise, hcounter, hstart.still, hstart.tracked,
    hstart.closed, hfirst⟩
  · simp [keepsBut, Part.forall_iff, Part.same, fpending, hpending, fsetup, hsetup, frck, hrck, ffru, hfru]
  · rw [finp, hinp]
    simp [warmOpened, clearFilters, InFilter.cleared, resetPorts]
  · rw [hlpt]
    exact noticesOf_laneCauses_raised
  · rw [hstl]
    exact hnotices
  · rw [hleaves]
    cases l <;> cases y <;> rfl

end Sys2Proof.Machine
end

section
/-! SUPPORT. What a row can do, said once: every row but the two starts has one of a few effects, and the invariants and
the notices of every step are proved over these effects. -/

namespace Sys2Proof.Machine

/-! ## Changes of the ports alone -/

/-- `t` is `s` but for the fields of the two ports outside their notice sets. -/
def PortsOnly (s t : State) : Prop :=
  ∃ (p : Lpt) (x : Stl), t = (s.setLpt { p with notices := s.lpt.notices }).setStl { x with notices := s.stl.notices }

theorem PortsOnly.refl (s : State) : PortsOnly s s := ⟨s.lpt, s.stl, rfl⟩

theorem PortsOnly.trans {s t u : State} (h : PortsOnly s t) (h' : PortsOnly t u) : PortsOnly s u := by
  obtain ⟨p, x, rfl⟩ := h
  obtain ⟨p', x', rfl⟩ := h'
  exact ⟨p', x', rfl⟩

theorem portsOnly_setLpt {s : State} {p : Lpt} (h : p.notices = s.lpt.notices) : PortsOnly s (s.setLpt p) := by
  refine ⟨p, s.stl, ?_⟩
  rw [← h]
  rfl

theorem portsOnly_setStl {s : State} {x : Stl} (h : x.notices = s.stl.notices) : PortsOnly s (s.setStl x) := by
  refine ⟨s.lpt, x, ?_⟩
  rw [← h]
  rfl

theorem portsOnly_recordTransfer (bytes : List Byte) (s : State) : PortsOnly s (recordTransfer bytes s) :=
  portsOnly_setLpt rfl

theorem portsOnly_respond (k : Byte) (a : Answer) (s : State) : PortsOnly s (respond k a s) := portsOnly_setLpt rfl

theorem portsOnly_reply (k src : Byte) (a : Answer) (s : State) : PortsOnly s (reply k src a s) := portsOnly_setStl rfl

theorem portsOnly_hunt (s : State) : PortsOnly s (hunt s) := portsOnly_setStl rfl

theorem portsOnly_addressTaken (addr : Byte) (s : State) : PortsOnly s (addressTaken addr s) :=
  ⟨s.lpt, (addressTaken addr s).stl, rfl⟩

theorem portsOnly_linkRefuse (cls : AddrClass) (k src : Byte) (r : Result) (s : State) :
    PortsOnly s (linkRefuse cls k src r s) := by
  cases cls with
  | own => exact portsOnly_reply _ _ _ s
  | group => exact .refl s
  | all => exact .refl s

/-! ## Frames and transfers handed to an owner -/

/-- What a port leaves of a frame or a transfer, before the end of the event: nothing but the port's own fields, or the
run of the request's owner between two such changes. -/
inductive Handled (s : State) : State → Prop
  | ports {t : State} (h : PortsOnly s t) : Handled s t
  | run {rq : Request} (hrq : rq ∈ allRequests) (p : Port) (b : List Byte) {u v : State} (hu : PortsOnly s u)
      (hv : PortsOnly (rq.run p b u).1 v) : Handled s v

theorem Handled.of_ports {s u v : State} (h : PortsOnly s u) (hv : Handled u v) : Handled s v := by
  cases hv with
  | ports ht => exact .ports (h.trans ht)
  | run hrq p b hu hv => exact .run hrq p b (h.trans hu) hv

theorem laneAct_handled {rq : Request} (hrq : rq ∈ allRequests) (b : List Byte) (s : State) :
    Handled s (laneAct rq b s) := by
  unfold laneAct
  split
  · exact .run hrq .lane b (.refl s) (portsOnly_respond ..)
  · exact .ports (portsOnly_respond ..)

theorem laneJudge_handled {rq : Request} (hrq : rq ∈ allRequests) (b : List Byte) (s : State) :
    Handled s (laneJudge rq b s) := by
  unfold laneJudge
  split
  · exact .ports (portsOnly_respond ..)
  · exact laneAct_handled hrq b s

theorem judgeFrame_handled (bytes : List Byte) (ragged : Bool) (s : State) : Handled s (judgeFrame bytes ragged s) := by
  unfold judgeFrame
  split_ifs
  · exact .ports (portsOnly_respond ..)
  · exact .ports (portsOnly_respond ..)
  · split
    next rq hkind => exact laneAct_handled (List.mem_of_find?_eq_some hkind) _ s
    next => exact .ports (portsOnly_respond ..)

theorem laneTake_handled {judge : State → State} (bytes : List Byte) (s : State) (hjudge : ∀ u, Handled u (judge u)) :
    Handled s (laneTake bytes judge s) := by
  unfold laneTake
  split
  · exact .ports ((portsOnly_recordTransfer bytes s).trans (portsOnly_setLpt rfl))
  · exact .of_ports (portsOnly_recordTransfer bytes s) (hjudge _)

theorem stationAct_handled {rq : Request} (hrq : rq ∈ allRequests) (cls : AddrClass) (src : Byte) (b : List Byte)
    (s : State) : Handled s (stationAct cls src rq b s) := by
  unfold stationAct
  split_ifs
  · exact .ports (.refl s)
  · exact .ports (portsOnly_linkRefuse ..)
  · split
    · exact .run hrq .broadcast b (.refl s) (.refl _)
    · exact .run hrq (portOf cls) b (.refl s) (portsOnly_reply ..)

theorem stationJudge_handled (cls : AddrClass) (addr src kind : Byte) (b : List Byte) (crc : Word16) (s : State) :
    Handled s (stationJudge cls addr src kind b crc s) := by
  unfold stationJudge
  split
  · exact .ports (portsOnly_linkRefuse ..)
  · split
    next rq hkind => exact stationAct_handled (List.mem_of_find?_eq_some hkind) cls src b s
    next => exact .ports (portsOnly_linkRefuse ..)

/-! ## Effects of the rows -/

/-- The effects of the rows of the clock, the lines and the channels in a state, before the end of the event. -/
inductive Act (s : State) : (State → State) → Prop
  | second : Act s secondTaken
  | fares : Act s fruTakes
  | marks : Act s fun t => marksTake (fruTakes t)
  | tears : Act s fun t => tearsTake (fruTakes t)
  | emergency (v : Bool) : Act s fun t => takeEmerg v (pinLevel .emerg v t)
  | beam (b : Beam) (v : Bool) : Act s fun t => beamChanged b v (pinLevel (.beam b) v t)
  | switch (l : Leaf) (w : Switch) (v : Bool) : Act s fun t => switchChanged l w v (pinLevel (.switch l w) v t)
  | sample (n : Nat) (h : converting s = true) : Act s (sampleTaken n)
  | warning (d : Side) : Act s fun t => setHurry d true (takeCompare (windowOf d) t)
  | expiry (d : Side) : Act s fun t => expireHead d (takeUnderflow (windowOf d) t)
  | wait (x : Side) : Act s fun t => writeWaitEnds x (takeUnderflow (writeOf x) t)
  | hold : Act s fun t => holdEnds (takeUnderflow .leafHold t)
  | move : Act s fun t => moveTimeout (takeUnderflow .leafMove t)
  | occupied : Act s fun t => raiseLane .occupiedLong (takeUnderflow .occupancy t)
  | silence : Act s fun t => (takeCompare .signal t).setSgu { t.sgu with toneOn := false }
  | segment : Act s fun t => signalEnds (takeUnderflow .signal t)
  | lapse (x : Side) : Act s (clearFlash x)
  | read (n : Nat) : Act s (readResponse n)

/-- What a row other than a start makes of a state. -/
inductive Effect (s : State) : State → Prop
  /-- The fields of the ports alone, neither the response slot nor ATTN among them. -/
  | quiet {t : State} (h : PortsOnly s t) (hslot : t.lpt.responseSlot = s.lpt.responseSlot)
      (hattn : t.lpt.attn = s.lpt.attn) : Effect s t
  /-- A frame or a transfer handled, at the end of its event. -/
  | handled {t : State} (h : Handled s t) : Effect s (finish t)
  /-- An event of the clock, the lines or the channels, at its end. -/
  | acted {f : State → State} (h : Act s f) : Effect s (finish (f s))
  /-- A tick of the divider, and of the channels with VDD present. -/
  | retainedTick : Effect s (dividerTick s)
  | tick : Effect s ((dividerTick s).setLtu s.ltu.ticked)
  | retainedSecond : Effect s (secondRetained s)
  | unpowered : Effect s (s.setPowered false)

theorem Effect.refl (s : State) : Effect s s := .quiet (.refl s) rfl rfl

theorem Effect.ite {p : Prop} [Decidable p] {s t u : State} (ht : p → Effect s t) (hu : Effect s u) :
    Effect s (if p then t else u) := by
  split
  next h => exact ht h
  next => exact hu

theorem Act.effect {f : State → State} {s : State} (h : Act s f) : Effect s (finish (f s)) := .acted h

theorem Act.event {f : State → State} {s : State} (h : Act s f) : Effect s (event f s) :=
  .ite (fun _ => .acted h) (.refl s)

theorem laneRequest_effect {rq : Request} (hrq : rq ∈ allRequests) (b : List Byte) (s : State) :
    Effect s (laneRequest rq b s) :=
  .ite (fun _ => .handled (laneTake_handled _ s (laneJudge_handled hrq b))) (.refl s)

theorem laneTransfer_effect (bytes : List Byte) (ragged : Bool) (s : State) :
    Effect s (laneTransfer bytes ragged s) := by
  unfold laneTransfer
  split
  · exact .refl s
  · split_ifs
    · exact .refl s
    · exact .quiet (portsOnly_setLpt rfl) rfl rfl
    · exact .acted (.read _)
    · exact .handled (laneTake_handled _ s (judgeFrame_handled _ _))

theorem frameArrives_effect {take : AddrClass → State → State} (addr : Byte) (b : List Byte) (s : State)
    (htake : ∀ cls u, Handled u (take cls u)) : Effect s (frameArrives addr b take s) := by
  have hheard : PortsOnly s (hunt (addressTaken addr s)) := (portsOnly_addressTaken addr s).trans (portsOnly_hunt _)
  unfold frameArrives
  split
  · dsimp only
    split
    · split
      · exact .quiet hheard rfl rfl
      · exact .handled (.of_ports hheard (htake _ _))
    · exact .quiet hheard rfl rfl
  · exact .refl s

theorem characterTaken_effect (ninth : Bool) (data : Byte) (stop : Bool) (s : State) :
    Effect s (characterTaken ninth data stop s) := by
  unfold characterTaken
  split_ifs
  · exact .quiet (portsOnly_hunt s) rfl rfl
  · exact .quiet (portsOnly_addressTaken data s) rfl rfl
  · split
    · unfold dataTaken
      dsimp only
      split_ifs
      · exact .quiet (portsOnly_hunt s) rfl rfl
      · exact .handled (.of_ports (portsOnly_hunt s) (stationJudge_handled ..))
      · exact .quiet (portsOnly_setStl rfl) rfl rfl
    · exact .refl s

/-- Every row but the two starts answers with a next state that is one of the effects. -/
theorem exec_effect (c : Instr) (s : State) (hcold : ∀ a r, c ≠ .coldStart a r) (hwarm : ∀ a r, c ≠ .warmStart a r) :
    ∃ t, exec c s = .next t ∧ Effect s t := by
  rcases hlane : laneForm c with _ | ⟨rq, b⟩
  case some => exact ⟨_, exec_of_laneForm hlane s, laneRequest_effect (laneForm_mem hlane).1 b s⟩
  rcases hlink : linkForm c with _ | f
  case some =>
    exact ⟨_, exec_of_linkForm hlink s,
      frameArrives_effect _ _ s fun cls u => stationAct_handled (linkForm_mem hlink).1 cls _ _ u⟩
  cases c with
  | coldStart a r => exact absurd rfl (hcold a r)
  | warmStart a r => exact absurd rfl (hwarm a r)
  | writeWaitUnderflow x => exact ⟨_, rfl, .ite (fun _ => (Act.wait x).effect) (.refl s)⟩
  | responseRead n g => exact ⟨_, rfl, .ite (fun _ => (Act.read n).effect) (.refl s)⟩
  | portPoll x => exact ⟨_, rfl, .ite (fun _ => .quiet (portsOnly_setLpt rfl) rfl rfl) (.refl s)⟩
  | laneFrameFault bytes g => exact ⟨_, rfl, laneTransfer_effect bytes g s⟩
  | timedFareSwitch => exact ⟨_, rfl, .ite (fun _ => Act.fares.event) (.refl s)⟩
  | stationFrameFault a b k body crc =>
    exact ⟨_, rfl, frameArrives_effect a body s fun cls u => stationJudge_handled cls a b k body crc u⟩
  | frameGapTimeout => exact ⟨_, rfl, .ite (fun _ => .quiet (portsOnly_hunt s) rfl rfl) (.refl s)⟩
  | stationReply =>
    refine ⟨_, rfl, ?_⟩
    split
    · exact .quiet (portsOnly_setStl rfl) rfl rfl
    · exact .refl s
  | second =>
    exact ⟨_, rfl, by
      split
      · exact .refl s
      · exact .ite (fun _ => Act.second.effect) .retainedSecond⟩
  | markExpiry => exact ⟨_, rfl, .ite (fun _ => Act.marks.event) (.refl s)⟩
  | tearDeadline => exact ⟨_, rfl, .ite (fun _ => Act.tears.event) (.refl s)⟩
  | emergChange v => exact ⟨_, rfl, (Act.emergency v).event⟩
  | beamChange b v => exact ⟨_, rfl, (Act.beam b v).event⟩
  | switchChange l w m => exact ⟨_, rfl, (Act.switch l w m).event⟩
  | currentSample v => exact ⟨_, rfl, .ite (fun h => (Act.sample v.toNat h).event) (.refl s)⟩
  | passageWarning d => exact ⟨_, rfl, .ite (fun _ => (Act.warning d).effect) (.refl s)⟩
  | creditExpiry d => exact ⟨_, rfl, .ite (fun _ => (Act.expiry d).effect) (.refl s)⟩
  | leafHoldUnderflow => exact ⟨_, rfl, .ite (fun _ => Act.hold.effect) (.refl s)⟩
  | leafMoveUnderflow => exact ⟨_, rfl, .ite (fun _ => Act.move.effect) (.refl s)⟩
  | occupancyUnderflow => exact ⟨_, rfl, .ite (fun _ => Act.occupied.effect) (.refl s)⟩
  | signalCompare => exact ⟨_, rfl, .ite (fun _ => Act.silence.effect) (.refl s)⟩
  | signalUnderflow => exact ⟨_, rfl, .ite (fun _ => Act.segment.effect) (.refl s)⟩
  | refusalFlashLapse x => exact ⟨_, rfl, .ite (fun _ => (Act.lapse x).effect) (.refl s)⟩
  | tick => exact ⟨_, rfl, .ite (fun _ => .tick) .retainedTick⟩
  | stationCharacter n d p => exact ⟨_, rfl, .ite (fun _ => characterTaken_effect n d p s) (.refl s)⟩
  | replyEnd => exact ⟨_, rfl, .ite (fun _ => .quiet (portsOnly_setStl rfl) rfl rfl) (.refl s)⟩
  | lcsSeenHigh => exact ⟨_, rfl, .ite (fun _ => .quiet (portsOnly_setLpt rfl) rfl rfl) (.refl s)⟩
  | vddLoss => exact ⟨_, rfl, .unpowered⟩
  | laneStatus v b => cases v <;> simp [laneForm, linkForm] at hlane hlink
  | noticeFetch v b => cases v <;> simp [laneForm, linkForm] at hlane hlink
  | noticeMask v b => cases v <;> simp [laneForm, linkForm] at hlane hlink
  | laneRestart v b => cases v <;> simp [laneForm, linkForm] at hlane hlink
  | _ => simp [laneForm, linkForm] at hlane hlink

/-- What a step can do: a start, an effect of another row, or on an empty queue a sense tick or nothing. -/
inductive Stepped (s : State) : State → Prop
  | idle (h : s.powered = false) : Stepped s s
  | sensed (h : s.powered = true) : Stepped s (senseTick s)
  | cold (q : List Instr) (a : BitVec 6) (r : BitVec 2) : Stepped s (coldStarted a r (s.setPending q))
  | warm (q : List Instr) (a : BitVec 6) (r : BitVec 2) : Stepped s (warmStarted a r (s.setPending q))
  | row (q : List Instr) {t : State} (h : Effect (s.setPending q) t) : Stepped s t

theorem step_stepped {s t : State} (h : step s = .next t) : Stepped s t := by
  rcases hpending : s.pending with _ | ⟨c, rest⟩
  · simp only [step, hpending, Host.Outcome.next.injEq] at h
    subst h
    split
    next hp => exact .sensed hp
    next hp => exact .idle (by simpa using hp)
  · simp only [step, hpending] at h
    by_cases hcold : ∃ a r, c = .coldStart a r
    · obtain ⟨a, r, rfl⟩ := hcold
      rw [show exec (.coldStart a r) (s.setPending rest) = .next (coldStarted a r (s.setPending rest)) from rfl] at h
      rw [← Host.Outcome.next.inj h]
      exact .cold rest a r
    by_cases hwarm : ∃ a r, c = .warmStart a r
    · obtain ⟨a, r, rfl⟩ := hwarm
      rw [show exec (.warmStart a r) (s.setPending rest) = .next (warmStarted a r (s.setPending rest)) from rfl] at h
      rw [← Host.Outcome.next.inj h]
      exact .warm rest a r
    push Not at hcold hwarm
    obtain ⟨u, hexec, heffect⟩ := exec_effect c (s.setPending rest) hcold hwarm
    rw [hexec] at h
    rw [← Host.Outcome.next.inj h]
    exact .row rest heffect

end Sys2Proof.Machine
end

section
/-! SUPPORT. The outputs stand formed after every step (R150 to R152, R181). -/

namespace Sys2Proof.Machine

/-- Whatever an event has done, its end forms the outputs and tells a change of the reason set. -/
theorem finish_formed (s : State) : (finish s).formed := by
  refine formed_of_untouched ?_
  unfold raiseService
  split
  · simp
  next h => simpa using h

theorem hurry_of_sgu {s t : State} (h : t.sgu = s.sgu) (x : Side) : t.hurry x = s.hurry x := by
  cases x <;> simp [State.hurry, h]

theorem flash_of_sgu {s t : State} (h : t.sgu = s.sgu) (x : Side) : t.flash x = s.flash x := by
  cases x <;> simp [State.flash, h]

/-- Formed outputs stay formed where neither they nor their inputs change. -/
theorem State.formed.of_same {s t : State} (h : s.formed) (hsgu : t.sgu = s.sgu) (hlfc : t.lfc = s.lfc)
    (hnotices : t.lpt.notices = s.lpt.notices) (hslot : t.lpt.responseSlot = s.lpt.responseSlot)
    (hattn : t.lpt.attn = s.lpt.attn) (hmode : t.effMode = s.effMode) (hreasons : t.svc.reasons = s.svc.reasons)
    (htouched : t.svc.serviceTouched = s.svc.serviceTouched) : t.formed := by
  obtain ⟨hlamps, hlevel, htold⟩ := h
  have hgreen : ∀ x, greenLamp t x = greenLamp s x := fun x => by
    rw [greenLamp, hmode, hlfc, hurry_of_sgu hsgu, greenLamp]
  have hred : ∀ x, redLamp t x = redLamp s x := fun x => by
    rw [redLamp, hmode, flash_of_sgu hsgu, State.permits, hmode, hreasons, redLamp, State.permits]
  refine ⟨?_, ?_, htouched.trans htold⟩
  · simpa only [State.lampsFormed, hgreen, hred, hsgu] using hlamps
  · simpa only [State.attnFormed, attnLevel, State.noticeBit, hslot, hnotices, hattn] using hlevel

theorem dividerTick_formed {s : State} (h : s.formed) : (dividerTick s).formed :=
  h.of_same rfl rfl rfl rfl rfl rfl rfl rfl

theorem secondRetained_formed {s : State} (h : s.formed) : (secondRetained s).formed := by
  unfold secondRetained
  dsimp only
  split <;> exact h.of_same rfl rfl rfl rfl rfl rfl rfl rfl

theorem Effect.formed {s t : State} (h : Effect s t) (hs : s.formed) : t.formed := by
  cases h with
  | quiet hports hslot hattn =>
    obtain ⟨p, x, rfl⟩ := hports
    exact hs.of_same rfl rfl rfl hslot hattn rfl rfl rfl
  | handled _ => exact finish_formed _
  | acted _ => exact finish_formed _
  | retainedTick => exact dividerTick_formed hs
  | tick => exact (dividerTick_formed hs).of_same rfl rfl rfl rfl rfl rfl rfl rfl
  | retainedSecond => exact secondRetained_formed hs
  | unpowered => exact hs.of_same rfl rfl rfl rfl rfl rfl rfl rfl

theorem coldStarted_formed (a : BitVec 6) (r : BitVec 2) (s : State) : (coldStarted a r s).formed := by
  obtain ⟨hformed, -⟩ := resetMeetsInvariants
  exact hformed.of_same rfl rfl rfl rfl rfl rfl rfl rfl

theorem warmStarted_formed (a : BitVec 6) (r : BitVec 2) (s : State) : (warmStarted a r s).formed := by
  rw [warmStarted_eq]
  exact warmFormed_formed _

/-- Settles O54: an event's end forms the outputs, and what has no such end changes none of their inputs. -/
theorem stepKeepsOutputsFormed : Obligations.StepKeepsOutputsFormed := by
  intro s t hs hstep
  cases step_stepped hstep with
  | idle _ => exact hs
  | sensed _ => exact hs.of_same rfl rfl rfl rfl rfl rfl rfl rfl
  | cold q a r => exact coldStarted_formed a r _
  | warm q a r => exact warmStarted_formed a r _
  | row q h => exact h.formed (hs.of_same rfl rfl rfl rfl rfl rfl rfl rfl)

/-! ## Without VDD (R17; log 16) -/

/-- Settles O3: every row but a tick, a second and a start asks for VDD first. -/
theorem nothingWithoutVdd : Obligations.NothingWithoutVdd := by
  intro c s hoff htick hsecond hcold hwarm
  have hlane : laneLive s = false := by simp [laneLive, hoff]
  have hlink : linkLive s = false := by simp [linkLive, hoff]
  have hrequest : ∀ rq b, laneRequest rq b s = s := fun rq b => by simp [laneRequest, hlane]
  have harrives : ∀ a b take, frameArrives a b take s = s := fun a b take => by simp [frameArrives, hlink]
  have hevent : ∀ f, event f s = s := fun f => by simp [event, hoff]
  have hcompare : ∀ i, compareDue i s = false := fun i => by simp [compareDue, hoff]
  have hunderflow : ∀ i, underflowDue i s = false := fun i => by simp [underflowDue, hoff]
  rcases hform : laneForm c with _ | ⟨rq, b⟩
  case some => rw [exec_of_laneForm hform, hrequest]
  rcases hframe : linkForm c with _ | f
  case some => rw [exec_of_linkForm hframe, stationRequest, harrives]
  cases c with
  | coldStart a r => exact absurd rfl (hcold a r)
  | warmStart a r => exact absurd rfl (hwarm a r)
  | tick => exact absurd rfl htick
  | second => exact absurd rfl hsecond
  | laneFrameFault bytes g => cases bytes <;> simp [exec, execLaneFrameFault, laneTransfer, hlane]
  | responseRead n g => simp [exec, execResponseRead, hlane]
  | portPoll x => simp [exec, execPortPoll, hlane]
  | stationFrameFault a b k body crc => simp [exec, execStationFrameFault, harrives]
  | frameGapTimeout => simp [exec, execFrameGapTimeout, hlink]
  | stationReply => simp [exec, execStationReply, hoff]
  | stationCharacter n d p => simp [exec, execStationCharacter, hlink]
  | replyEnd => simp [exec, execReplyEnd, hoff]
  | lcsSeenHigh => simp [exec, execLcsSeenHigh, hoff]
  | vddLoss => rw [show s = s.setPowered false by rw [← hoff]; rfl]; rfl
  | timedFareSwitch => simp [exec, execTimedFareSwitch, hevent]
  | markExpiry => simp [exec, execMarkExpiry, hevent]
  | tearDeadline => simp [exec, execTearDeadline, hevent]
  | emergChange v => simp [exec, execEmergChange, hevent]
  | beamChange b v => simp [exec, execBeamChange, hevent]
  | switchChange l w m => simp [exec, execSwitchChange, hevent]
  | currentSample v => simp [exec, execCurrentSample, hevent]
  | passageWarning d => simp [exec, execPassageWarning, hcompare]
  | creditExpiry d => simp [exec, execCreditExpiry, hunderflow]
  | writeWaitUnderflow x => simp [exec, execWriteWaitUnderflow, hunderflow]
  | leafHoldUnderflow => simp [exec, execLeafHoldUnderflow, hunderflow]
  | leafMoveUnderflow => simp [exec, execLeafMoveUnderflow, hunderflow]
  | occupancyUnderflow => simp [exec, execOccupancyUnderflow, hunderflow]
  | signalCompare => simp [exec, execSignalCompare, hcompare]
  | signalUnderflow => simp [exec, execSignalUnderflow, hunderflow]
  | refusalFlashLapse x =>
    have hflash : flashLapsed x s = false := by
      unfold flashLapsed
      split <;> simp [hoff]
    simp [exec, execRefusalFlashLapse, hflash]
  | laneStatus v b => cases v <;> simp [laneForm, linkForm] at hform hframe
  | noticeFetch v b => cases v <;> simp [laneForm, linkForm] at hform hframe
  | noticeMask v b => cases v <;> simp [laneForm, linkForm] at hform hframe
  | laneRestart v b => cases v <;> simp [laneForm, linkForm] at hform hframe
  | _ => simp [laneForm, linkForm] at hform hframe

/-! ## The port signals (R17, R178, R183, R185) -/

theorem keepsBut_setLpt (p : Lpt) (s : State) : keepsBut [.lpt] s (s.setLpt p) := by
  simp [keepsBut, Part.forall_iff, Part.same]

theorem keepsBut_setStl (x : Stl) (s : State) : keepsBut [.stl] s (s.setStl x) := by
  simp [keepsBut, Part.forall_iff, Part.same]

/-- Settles O8: each signal's row, where its port takes it, is one update of that port. -/
theorem portSignalsAct : Obligations.PortSignalsAct := by
  refine ⟨fun s => ⟨s.setPowered false, rfl, rfl, by simp [keepsBut, Part.forall_iff, Part.same]⟩, ?_, ?_, ?_, ?_, ?_⟩
  · intro s hon
    exact ⟨_, congrArg Host.Outcome.next (if_pos hon), rfl, keepsBut_setLpt _ s⟩
  · intro first s hlive
    exact ⟨_, congrArg Host.Outcome.next (if_pos hlive), rfl, keepsBut_setLpt _ s⟩
  · intro s hlive
    exact ⟨_, congrArg Host.Outcome.next (if_pos hlive), rfl, keepsBut_setStl _ s⟩
  · intro s cs hon hturn
    refine ⟨s.setStl { s.stl with replyTurn := none, sde := true, tx := cs }, ?_, rfl, keepsBut_setStl _ s⟩
    simp [exec, execStationReply, hon, hturn]
  · intro s hon
    exact ⟨_, congrArg Host.Outcome.next (if_pos hon), rfl, keepsBut_setStl _ s⟩

end Sys2Proof.Machine
end

section
/-! SUPPORT. The deny list keeps its order under placing, adding and removing entries (R81, R84, R86, R88). -/

namespace Sys2Proof.Machine

/-! ## The order of the list (R81) -/

/-- A list and its LOCAL add order as R81 and R88 keep them. -/
def DenyWork.ok (w : DenyWork) : Prop :=
  (w.entries.length ≤ 2048 ∧ denySorted w.entries ∧ ∀ e ∈ w.entries, e.width ≤ 16 ∧ e.base % 2 ^ e.width = 0)
    ∧ w.locals.Nodup
    ∧ (∀ e ∈ w.entries, e.origin = .localOrigin → e.width = 0 ∧ e.reason = .localClone)
    ∧ ∀ b, b ∈ w.locals ↔ ∃ e ∈ w.entries, e.base = b ∧ e.width = 0 ∧ e.origin = .localOrigin

theorem denyOk_iff (s : State) : s.denyOk ↔ s.denyWork.ok := Iff.rfl

theorem before_iff (a b : DenyEntry) : a.before b = true ↔ a.base < b.base ∨ a.base = b.base ∧ a.width < b.width := by
  simp [DenyEntry.before]

theorem is_iff (e : DenyEntry) (b w : Nat) : e.is b w = true ↔ e.base = b ∧ e.width = w := by
  simp [DenyEntry.is]

theorem before_trans {a b c : DenyEntry} (h : a.before b = true) (h' : b.before c = true) : a.before c = true := by
  rw [before_iff] at *
  omega

theorem denySorted_iff (l : List DenyEntry) : denySorted l ↔ l.Pairwise fun a b => a.before b = true := by
  induction l with
  | nil => simp [denySorted]
  | cons e l ih => simp [denySorted, ih]

theorem denyInsert_perm (e : DenyEntry) (l : List DenyEntry) : (denyInsert e l).Perm (e :: l) := by
  induction l with
  | nil => exact .refl _
  | cons x l ih =>
    unfold denyInsert
    split
    · exact .refl _
    · exact (ih.cons x).trans (.swap e x l)

theorem mem_denyInsert_iff {e x : DenyEntry} {l : List DenyEntry} : x ∈ denyInsert e l ↔ x = e ∨ x ∈ l := by
  rw [(denyInsert_perm e l).mem_iff, List.mem_cons]

theorem length_denyInsert (e : DenyEntry) (l : List DenyEntry) : (denyInsert e l).length = l.length + 1 :=
  (denyInsert_perm e l).length_eq

/-- Placing an entry of a new base and width keeps the order. -/
theorem denySorted_denyInsert {e : DenyEntry} {l : List DenyEntry} (h : denySorted l)
    (hnew : ∀ x ∈ l, x.is e.base e.width = false) : denySorted (denyInsert e l) := by
  induction l with
  | nil => exact ⟨nofun, trivial⟩
  | cons x l ih =>
    obtain ⟨hx, hl⟩ := h
    obtain ⟨hne, hnew⟩ := List.forall_mem_cons.mp hnew
    unfold denyInsert
    split
    next hb =>
      refine ⟨fun y hy => ?_, hx, hl⟩
      rcases List.mem_cons.mp hy with rfl | hy
      · exact hb
      · exact before_trans hb (hx y hy)
    next hb =>
      refine ⟨fun y hy => ?_, ih hl hnew⟩
      rcases mem_denyInsert_iff.mp hy with rfl | hy
      · rw [Bool.not_eq_true, ← Bool.not_eq_true, before_iff] at hb
        rw [← Bool.not_eq_true, is_iff] at hne
        rw [before_iff]
        omega
      · exact hx y hy

theorem denySorted_filter {l : List DenyEntry} (p : DenyEntry → Bool) (h : denySorted l) : denySorted (l.filter p) := by
  rw [denySorted_iff] at *
  exact h.filter p

/-- An entry replaced by one of its base and width keeps the order. -/
theorem denySorted_replace {l : List DenyEntry} (e : DenyEntry) (h : denySorted l) :
    denySorted (l.map fun x => if x.is e.base e.width then e else x) := by
  have hplace : ∀ x : DenyEntry, (if x.is e.base e.width then e else x).base = x.base
      ∧ (if x.is e.base e.width then e else x).width = x.width := by
    intro x
    split
    next hx =>
      obtain ⟨hb, hw⟩ := (is_iff _ _ _).mp hx
      exact ⟨hb.symm, hw.symm⟩
    next => exact ⟨rfl, rfl⟩
  rw [denySorted_iff, List.pairwise_map] at *
  refine h.imp fun {a b} hab => ?_
  obtain ⟨ha, ha'⟩ := hplace a
  obtain ⟨hb, hb'⟩ := hplace b
  rw [before_iff] at *
  omega

/-! ## Entries placed, added and removed (R84, R88) -/

/-- The entries stand well in the list: sorted, aligned, and LOCAL ones of width 0. -/
theorem DenyWork.ok.filter {w : DenyWork} (h : w.ok) (b width : Nat) :
    DenyWork.ok { entries := w.entries.filter fun x => !x.is b width
                  locals := if width = 0 then w.locals.filter (· != b) else w.locals, evicted := w.evicted } := by
  obtain ⟨⟨hlen, hsorted, haligned⟩, hnodup, hlocal, hnamed⟩ := h
  refine ⟨⟨(List.length_filter_le _ _).trans hlen, denySorted_filter _ hsorted,
    fun e he => haligned e (List.mem_of_mem_filter he)⟩, ?_, fun e he => hlocal e (List.mem_of_mem_filter he), ?_⟩
  · dsimp only
    split
    · exact hnodup.filter _
    · exact hnodup
  · intro c
    dsimp only
    by_cases hwidth : width = 0
    · subst hwidth
      simp only [if_true, List.mem_filter, hnamed, bne_iff_ne, ne_eq, Bool.not_eq_true', ← Bool.not_eq_true, is_iff]
      constructor
      · rintro ⟨⟨e, he, hb, hw, ho⟩, hne⟩
        exact ⟨e, ⟨he, fun hx => hne (hb.symm.trans hx.1)⟩, hb, hw, ho⟩
      · rintro ⟨e, ⟨he, hx⟩, hb, hw, ho⟩
        exact ⟨⟨e, he, hb, hw, ho⟩, fun hc => hx ⟨hb.trans hc, hw⟩⟩
    · simp only [if_neg hwidth, hnamed, List.mem_filter, Bool.not_eq_true', ← Bool.not_eq_true, is_iff]
      constructor
      · rintro ⟨e, he, hb, hw, ho⟩
        exact ⟨e, ⟨he, fun hx => hwidth (hx.2.symm.trans hw)⟩, hb, hw, ho⟩
      · rintro ⟨e, ⟨he, -⟩, hb, hw, ho⟩
        exact ⟨e, he, hb, hw, ho⟩

/-- The LOCAL add order of a list after a placed entry: its base joins it when the entry is LOCAL. -/
def DenyWork.joined (w : DenyWork) (e : DenyEntry) : DenyWork :=
  { w with locals := if e.origin = .localOrigin then w.locals ++ [e.base] else w.locals }

/-- An entry of a new base and width placed in a list with room. -/
theorem DenyWork.ok.insert {w : DenyWork} (h : w.ok) {e : DenyEntry} (hroom : w.entries.length < 2048)
    (hnew : ∀ x ∈ w.entries, x.is e.base e.width = false) (haligned : e.width ≤ 16 ∧ e.base % 2 ^ e.width = 0)
    (hlocal : e.origin = .localOrigin → e.width = 0 ∧ e.reason = .localClone) :
    (DenyWork.joined { w with entries := denyInsert e w.entries } e).ok := by
  obtain ⟨⟨-, hsorted, haligned'⟩, hnodup, hlocal', hnamed⟩ := h
  have hfresh : e.origin = .localOrigin → e.base ∉ w.locals := by
    intro ho hmem
    obtain ⟨x, hx, hb, hw, -⟩ := (hnamed e.base).mp hmem
    have hne := hnew x hx
    rw [← Bool.not_eq_true, is_iff] at hne
    exact hne ⟨hb, hw.trans (hlocal ho).1.symm⟩
  refine ⟨⟨?_, denySorted_denyInsert hsorted hnew, ?_⟩, ?_, ?_, ?_⟩
  · rw [DenyWork.joined, length_denyInsert]
    exact hroom
  · intro x hx
    rcases mem_denyInsert_iff.mp hx with rfl | hx
    · exact haligned
    · exact haligned' x hx
  · rw [DenyWork.joined]
    dsimp only
    split
    next ho => exact List.Nodup.append hnodup (List.nodup_singleton _) (by simpa using hfresh ho)
    next => exact hnodup
  · intro x hx
    rcases mem_denyInsert_iff.mp hx with rfl | hx
    · exact hlocal
    · exact hlocal' x hx
  · intro b
    have hold : (∃ x ∈ denyInsert e w.entries, x.base = b ∧ x.width = 0 ∧ x.origin = .localOrigin)
        ↔ (e.base = b ∧ e.width = 0 ∧ e.origin = .localOrigin) ∨ b ∈ w.locals := by
      simp only [mem_denyInsert_iff, hnamed, exists_eq_or_imp]
    rw [DenyWork.joined]
    dsimp only
    rw [hold]
    split
    next ho => simp [ho, (hlocal ho).1, or_comm, eq_comm]
    next ho => simp [ho]

theorem denyPlace_ok {w w' : DenyWork} {e : DenyEntry} (h : w.ok) (hplace : denyPlace e w = some w')
    (hnew : ∀ x ∈ w.entries, x.is e.base e.width = false) (haligned : e.width ≤ 16 ∧ e.base % 2 ^ e.width = 0)
    (hlocal : e.origin = .localOrigin → e.width = 0 ∧ e.reason = .localClone) : (w'.joined e).ok := by
  unfold denyPlace at hplace
  split at hplace
  next hroom =>
    cases hplace
    exact h.insert hroom hnew haligned hlocal
  next hfull =>
    split at hplace
    next => cases hplace
    next b rest hlocals =>
      cases hplace
      obtain ⟨⟨hlen, -, -⟩, hnodup, -, hnamed⟩ := id h
      rw [hlocals] at hnodup hnamed
      have hrest : w.locals.filter (· != b) = rest := by
        obtain ⟨hb, -⟩ := List.nodup_cons.mp hnodup
        rw [hlocals, List.filter_cons_of_neg (by simp), List.filter_eq_self]
        intro x hx
        simpa using fun heq : x = b => hb (heq ▸ hx)
      have hevicted : (w.entries.filter fun x => !x.is b 0).length < w.entries.length := by
        obtain ⟨x, hx, hbase, hwidth, -⟩ := (hnamed b).mp List.mem_cons_self
        exact List.length_filter_lt_length_iff_exists.mpr ⟨x, hx, by simp [DenyEntry.is, hbase, hwidth]⟩
      have hkept := h.filter b 0
      rw [if_pos rfl, hrest] at hkept
      exact DenyWork.ok.insert hkept (lt_of_lt_of_le hevicted hlen)
        (fun x hx => hnew x (List.mem_of_mem_filter hx)) haligned hlocal

/-- A station entry added: it replaces the one of its base and width, or is placed. -/
theorem denyAdd_ok {w w' : DenyWork} {e : DenyEntry} (h : w.ok) (hadd : denyAdd e w = some w')
    (haligned : e.width ≤ 16 ∧ e.base % 2 ^ e.width = 0) (hstation : e.origin = .station) : w'.ok := by
  have hne : e.origin ≠ .localOrigin := by simp [hstation]
  unfold denyAdd at hadd
  split at hadd
  next =>
    cases hadd
    obtain ⟨⟨hlen, hsorted, -⟩, -⟩ := id h
    obtain ⟨⟨-, -, haligned'⟩, hnodup, hlocal, hnamed⟩ := h.filter e.base e.width
    have hmem : ∀ x, x ∈ (w.entries.map fun x => if x.is e.base e.width then e else x) →
        x = e ∨ x ∈ w.entries.filter fun x => !x.is e.base e.width := by
      intro x hx
      obtain ⟨y, hy, rfl⟩ := List.mem_map.mp hx
      split
      next => exact .inl rfl
      next hy' => exact .inr (List.mem_filter.mpr ⟨hy, by simpa using hy'⟩)
    refine ⟨⟨by simpa using hlen, denySorted_replace e hsorted, ?_⟩, hnodup, ?_, ?_⟩
    · intro x hx
      rcases hmem x hx with rfl | hx
      · exact haligned
      · exact haligned' x hx
    · intro x hx ho
      rcases hmem x hx with rfl | hx
      · exact absurd ho hne
      · exact hlocal x hx ho
    · intro b
      refine (hnamed b).trans ⟨?_, ?_⟩
      · rintro ⟨x, hx, hrest⟩
        obtain ⟨hx, hfar⟩ := List.mem_filter.mp hx
        refine ⟨x, List.mem_map.mpr ⟨x, hx, if_neg (by simpa using hfar)⟩, hrest⟩
      · rintro ⟨x, hx, hb, hw, ho⟩
        rcases hmem x hx with rfl | hx
        · exact absurd ho hne
        · exact ⟨x, hx, hb, hw, ho⟩
  next hnone =>
    have hplaced := denyPlace_ok h hadd (by simpa using hnone) haligned fun ho => absurd ho hne
    rwa [DenyWork.joined, if_neg hne] at hplaced

theorem denyApply_ok {now : DayTime} {w w' : DenyWork} {o : DenyOp} (h : w.ok) (hfields : o.fieldsOk = true)
    (happly : denyApply now w o = some w') : w'.ok := by
  simp only [DenyOp.fieldsOk, Bool.and_eq_true, decide_eq_true_eq, beq_iff_eq] at hfields
  obtain ⟨⟨⟨-, hwidth⟩, haligned⟩, -⟩ := hfields
  unfold denyApply at happly
  split at happly
  · split at happly
    · exact denyAdd_ok h happly ⟨hwidth, haligned⟩ rfl
    · cases happly
  · cases happly
    exact h.filter o.base o.width

theorem denyApplyAll_ok {now : DayTime} {ops : List DenyOp} {w w' : DenyWork} (h : w.ok)
    (hfields : ∀ o ∈ ops, o.fieldsOk = true) (happly : denyApplyAll now ops w = some w') : w'.ok := by
  induction ops generalizing w with
  | nil =>
    cases happly
    exact h
  | cons o ops ih =>
    obtain ⟨ho, hops⟩ := List.forall_mem_cons.mp hfields
    unfold denyApplyAll at happly
    split at happly
    next w'' hw => exact ih (denyApply_ok h ho hw) hops happly
    next => cases happly

/-- A local add keeps the list (R88). -/
theorem localAdd_denyOk (c : Nat) {s : State} (h : s.denyOk) : (localAdd c s).1.denyOk := by
  unfold localAdd
  split
  next => exact h
  next hnone =>
    split
    next w hw =>
      exact denyPlace_ok (w := s.denyWork) (e := localEntry s.now c) h hw (by simpa [State.denyWork, localEntry] using hnone)
        ⟨by simp [localEntry], by simp [localEntry, Nat.mod_one]⟩ fun _ => ⟨rfl, rfl⟩
    next => exact h

/-- A wipe keeps the LOCAL entries, in order (R86). -/
theorem denyWiped_denyOk {s : State} (h : s.denyOk) : (denyWiped s).denyOk := by
  obtain ⟨⟨hlen, hsorted, haligned⟩, hnodup, hlocal, hnamed⟩ := h
  refine ⟨⟨(List.length_filter_le _ _).trans hlen, denySorted_filter _ hsorted,
    fun e he => haligned e (List.mem_of_mem_filter he)⟩, hnodup, fun e he => hlocal e (List.mem_of_mem_filter he), ?_⟩
  intro b
  refine (hnamed b).trans ⟨?_, ?_⟩
  · rintro ⟨e, he, hb, hw, ho⟩
    exact ⟨e, List.mem_filter.mpr ⟨he, by simpa using ho⟩, hb, hw, ho⟩
  · rintro ⟨e, he, hrest⟩
    exact ⟨e, List.mem_of_mem_filter he, hrest⟩

theorem denyDeltaRun_denyOk (p : Port) (b : List Byte) {s : State} (h : s.denyOk) : (denyDeltaRun p b s).1.denyOk := by
  unfold denyDeltaRun
  split
  next w hcheck =>
    unfold deltaCheck at hcheck
    dsimp only at hcheck
    split_ifs at hcheck with hlength hfields hversion
    · cases hcheck
    · cases hcheck
    · cases hcheck
    · split at hcheck
      next w' hw =>
        cases hcheck
        exact denyApplyAll_ok (w := s.denyWork) h (by simpa using hfields) hw
      next => cases hcheck
  next =>
    unfold deltaRefused
    dsimp only
    split <;> exact h

end Sys2Proof.Machine
end

section
/-! SUPPORT. The work of the lane: what the operations of the journal, the timers, the tables, the queues and the leaves
keep, whatever they are composed to. Neither settings nor fares, keys, mode or time are part of it, the leaves neither
enter nor leave FAULT, and the notices of the mode, the service and the starts are never among those it raises. -/

namespace Sys2Proof.Machine

/-- The causes that the work of the lane never raises. -/
def steadyCauses : List Cause := [.emergency, .modeChanged, .serviceChanged, .restarted, .fareSwitched]

/-- What the work of the lane keeps from a state to the next. -/
structure Works (s t : State) : Prop where
  setup : t.setup = s.setup
  fru : t.fru = s.fru
  key : t.rck.current = s.rck.current
  inp : t.inp = s.inp
  svc : s.svc.Judged t.svc
  touched : s.svc.serviceTouched = true ∨ t.svc.reasons ≠ s.svc.reasons → t.svc.serviceTouched = true
  lane : t.lpt = { s.lpt with notices := t.lpt.notices }
  laneSet : ∀ c ∈ steadyCauses, SameNotice c s.lpt.notices t.lpt.notices
  link : t.stl = { s.stl with notices := t.stl.notices }
  linkSet : ∀ c ∈ steadyCauses, SameNotice c s.stl.notices t.stl.notices
  space : s.spaceJudged → t.spaceJudged
  chans : s.setup.ok → s.channelsOk → t.channelsOk
  fault : t.lfc.leaf = .fault ↔ s.lfc.leaf = .fault
  beams : t.anyBeam = s.anyBeam
  episode : t.pcu.episode = s.pcu.episode
  deny : s.denyOk → t.denyOk

theorem Works.refl (s : State) : Works s s :=
  ⟨rfl, rfl, rfl, rfl, Svc.Judged.refl _, fun h => h.resolve_right fun hne => hne rfl, rfl, fun _ _ => rfl, rfl,
    fun _ _ => rfl, id, fun _ => id, Iff.rfl, rfl, rfl, id⟩

theorem Works.trans {s t u : State} (h : Works s t) (h' : Works t u) : Works s u where
  setup := h'.setup.trans h.setup
  fru := h'.fru.trans h.fru
  key := h'.key.trans h.key
  inp := h'.inp.trans h.inp
  svc := h.svc.trans h'.svc
  touched := by
    rintro (hs | hne)
    · exact h'.touched (.inl (h.touched (.inl hs)))
    · by_cases hst : t.svc.reasons = s.svc.reasons
      · exact h'.touched (.inr (hst ▸ hne))
      · exact h'.touched (.inl (h.touched (.inr hst)))
  lane := by rw [h'.lane, h.lane]
  laneSet c hc := (h.laneSet c hc).trans (h'.laneSet c hc)
  link := by rw [h'.link, h.link]
  linkSet c hc := (h.linkSet c hc).trans (h'.linkSet c hc)
  space := h'.space ∘ h.space
  chans hsetup hchans := h'.chans (h.setup ▸ hsetup) (h.chans hsetup hchans)
  fault := h'.fault.trans h.fault
  beams := h'.beams.trans h.beams
  episode := h'.episode.trans h.episode
  deny := h'.deny ∘ h.deny

theorem Works.not_fault {s t : State} (h : Works s t) (hs : s.lfc.leaf ≠ .fault) : t.lfc.leaf ≠ .fault :=
  fun ht => hs (h.fault.mp ht)

section
variable {s t : State}

/-! ## Blocks that the kept facts do not rest on -/

@[simp] theorem works_setSgu (x : Sgu) (h : Works s t) : Works s (t.setSgu x) := { h with }

@[simp] theorem works_setAds (x : Ads) (h : Works s t) : Works s (t.setAds x) := { h with }

@[simp] theorem works_setTxu (x : Txu) (h : Works s t) : Works s (t.setTxu x) := { h with }

theorem works_setScu {x : Scu} (hdeny : t.denyOk → (t.setScu x).denyOk) (h : Works s t) : Works s (t.setScu x) :=
  { h with deny := hdeny ∘ h.deny }

theorem works_setPcu {x : Pcu} (hbeams : (t.setPcu x).anyBeam = t.anyBeam) (hepisode : x.episode = t.pcu.episode)
    (h : Works s t) : Works s (t.setPcu x) :=
  { h with beams := hbeams.trans h.beams, episode := hepisode.trans h.episode }

theorem works_setLfc {l : Lfc} (hleaf : l.leaf = .fault ↔ t.lfc.leaf = .fault) (h : Works s t) :
    Works s (t.setLfc l) :=
  { h with fault := hleaf.trans h.fault }

/-- The leaves moved from one state to another outside FAULT. -/
theorem works_moved {l : Lfc} (hleaf : l.leaf ≠ .fault) (ht : t.lfc.leaf ≠ .fault) (h : Works s t) :
    Works s (t.setLfc l) := works_setLfc (iff_of_false hleaf ht) h

/-! ## Notices (R190) -/

@[simp] theorem works_raiseLane {c : Cause} (hc : c ∉ steadyCauses) (h : Works s t) : Works s (raiseLane c t) :=
  { h with
    lane := congrArg (fun p : Lpt => { p with notices := raiseIn c t.lpt.notices }) h.lane
    laneSet := fun d hd => (h.laneSet d hd).trans (sameNotice_raiseIn (fun hcd : c = d => hc (hcd ▸ hd)) _) }

@[simp] theorem works_raiseStation {c : Cause} (hc : c ∉ steadyCauses) (h : Works s t) :
    Works s (raiseStation c t) :=
  { h with
    link := congrArg (fun x : Stl => { x with notices := raiseIn c t.stl.notices }) h.link
    linkSet := fun d hd => (h.linkSet d hd).trans (sameNotice_raiseIn (fun hcd : c = d => hc (hcd ▸ hd)) _) }

@[simp] theorem works_raiseBoth {c : Cause} (hc : c ∉ steadyCauses) (h : Works s t) : Works s (raiseBoth c t) :=
  works_raiseStation hc (works_raiseLane hc h)

/-! ## The journal (R158 to R163) -/

/-- Judging the space sets LOW, STOP and JOURNAL_STOP to what the free count gives (R161). -/
theorem judgeSpace_spaceJudged (h : s.svc.reasons.journalStop = s.rjn.stop) : (judgeSpace s).spaceJudged := by
  have hlow : (judgeLow s).svc = s.svc ∧ (judgeLow s).rjn.stop = s.rjn.stop := by
    rw [judgeLow_rjn]
    unfold judgeLow
    split_ifs <;> simp
  refine ⟨by rw [judgeSpace_free, judgeSpace_rjn], by rw [judgeSpace_free, judgeSpace_rjn], ?_⟩
  rw [judgeSpace_rjn]
  unfold judgeSpace judgeStop
  rw [judgeLow_free]
  split_ifs with hstop hstands
  · rw [hlow.1, h, ← hlow.2, hstands, decide_eq_true hstop]
  · simp [setJournalStop, setReasons_reasons, hstop]
  · simp [setJournalStop, setReasons_reasons, hstop]

theorem judgeSpace_touched (s : State) : s.svc.serviceTouched = true ∨ (judgeSpace s).svc.reasons ≠ s.svc.reasons →
    (judgeSpace s).svc.serviceTouched = true := by
  have hlow : (judgeLow s).svc = s.svc := by simp
  have hset : ∀ (b : Bool) (u : State), u.svc = s.svc →
      s.svc.serviceTouched = true ∨ (setJournalStop b u).svc.reasons ≠ s.svc.reasons →
      (setJournalStop b u).svc.serviceTouched = true := by
    intro b u hu
    simp only [setJournalStop, setReasons_reasons, setReasons_touched, hu, Bool.or_eq_true, decide_eq_true_eq]
    exact Or.imp_right Ne.symm
  unfold judgeSpace judgeStop
  split_ifs
  · rw [hlow]
    exact fun h => h.resolve_right fun hne => hne rfl
  · exact hset true _ (by simp)
  · exact hset false _ (by simp)

/-- Entries, reservations and the overrun count changed, and the space judged. -/
theorem works_judged {r : Rjn} (hr : r.stop = t.rjn.stop) (h : Works s t) : Works s (judgeSpace (t.setRjn r)) :=
  h.trans
    { Works.refl t with
      setup := by simp
      fru := by simp
      key := by simp
      inp := by simp
      svc := judgeSpace_judged (t.setRjn r)
      touched := judgeSpace_touched (t.setRjn r)
      lane := by simp
      laneSet := fun _ _ => by simp [SameNotice]
      link := (spares_judgeSpace (c := .restarted) (x := t.stl) (s := t.setRjn r) (by decide) (.refl _ _)).eq
      linkSet := fun c hc => (spares_judgeSpace (x := t.stl) (s := t.setRjn r)
        (by revert c; decide) (.refl _ _)).notices
      space := fun ⟨_, _, hstop⟩ => judgeSpace_spaceJudged (hstop.trans hr.symm)
      chans := fun _ hchans => by simpa [State.channelsOk, State.chan] using hchans
      fault := by simp
      beams := by simp [State.anyBeam]
      episode := by simp
      deny := fun hdeny => by simpa [State.denyOk, State.denyListed, State.localsListed] using hdeny }

/-- A journal record with as many places free and the same conditions. -/
theorem works_setRjn {r : Rjn} (hfree : (t.setRjn r).free = t.free) (hlow : r.low = t.rjn.low)
    (hstop : r.stop = t.rjn.stop) (h : Works s t) : Works s (t.setRjn r) :=
  { h with
    space := fun hs => by
      obtain ⟨hjl, hjs, hjr⟩ := h.space hs
      exact ⟨by rw [hfree]; exact hlow.trans hjl, by rw [hfree]; exact hstop.trans hjs, hjr.trans hstop.symm⟩ }

@[simp] theorem works_countOverrun (h : Works s t) : Works s (countOverrun t) :=
  works_raiseStation (by decide) (works_setRjn rfl rfl rfl h)

@[simp] theorem works_writeFree (e : Entry) (h : Works s t) : Works s (writeFree e t) := by
  unfold writeFree
  split
  · exact works_countOverrun h
  · exact works_judged rfl h

@[simp] theorem works_writeReserved (e : Entry) (h : Works s t) : Works s (writeReserved e t) := by
  unfold writeReserved
  split
  · exact works_writeFree e h
  next hheld =>
    refine works_setRjn (t := t) ?_ rfl rfl h
    simp only [State.free, setRjn_rjn, List.length_append, List.length_singleton]
    omega

@[simp] theorem works_overrunEntry (n : Nat) (h : Works s t) : Works s (overrunEntry n t) := by
  unfold overrunEntry
  split
  · exact works_judged rfl (works_setRjn (t := t) (r := { t.rjn with overrun := 0 }) rfl rfl rfl h)
  · exact h

@[simp] theorem works_release1 (h : Works s t) : Works s (release1 t) := by
  unfold release1
  split
  · exact h
  · exact works_overrunEntry _ (works_judged rfl h)

@[simp] theorem works_reserve (k : Nat) (h : Works s t) : Works s (reserve k t) := works_judged rfl h

/-! ## Channels (R103 to R107) -/

theorem works_setChan {i : ChanId} {c : Channel} (hc : t.setup.ok → t.channelsOk → c.ok) (h : Works s t) :
    Works s (setChan i c t) :=
  { h with
    chans := fun hsetup hchans j => by
      have ht := h.chans hsetup hchans
      rw [chan_setChan]
      split
      · exact hc (h.setup ▸ hsetup) ht
      · exact ht j }

theorem start_ok {r c : Nat} (h : c < r) : (Channel.start r c).ok := ⟨le_rfl, .inr h, nofun, fun _ => by
  show 0 < r
  omega⟩

theorem startHeld_ok {r c : Nat} (h : c < r) : (Channel.startHeld r c).ok := ⟨le_rfl, .inr h, nofun, fun _ => by
  show 0 < r
  omega⟩

theorem stop_ok {c : Channel} (h : c.ok) : c.stop.ok := by
  obtain ⟨hcount, hcompare, hstopped, -⟩ := h
  unfold Channel.stop
  split
  next hc => exact ⟨hcount, hcompare, hstopped, fun hne => absurd hc hne⟩
  next => exact ⟨Nat.zero_le _, hcompare, fun _ => rfl, fun hne => absurd rfl hne⟩

theorem hold_ok {c : Channel} (h : c.ok) : c.hold.ok := by
  obtain ⟨hcount, hcompare, hstopped, hrunning⟩ := h
  unfold Channel.hold
  split
  next hc => exact ⟨hcount, hcompare, nofun, fun _ => hrunning (by simp [hc])⟩
  next => exact ⟨hcount, hcompare, hstopped, hrunning⟩

theorem resume_ok {c : Channel} (h : c.ok) : c.resume.ok := by
  obtain ⟨hcount, hcompare, hstopped, hrunning⟩ := h
  unfold Channel.resume
  split
  next hc => exact ⟨hcount, hcompare, nofun, fun _ => hrunning (by simp [hc])⟩
  next => exact ⟨hcount, hcompare, hstopped, hrunning⟩

theorem works_chanStart {i : ChanId} {r c : Nat} (hc : t.setup.ok → c < r) (h : Works s t) :
    Works s (chanStart i r c t) := works_setChan (fun hsetup _ => start_ok (hc hsetup)) h

@[simp] theorem works_chanStop (i : ChanId) (h : Works s t) : Works s (chanStop i t) :=
  works_setChan (fun _ hchans => stop_ok (hchans i)) h

@[simp] theorem works_chanHold (i : ChanId) (h : Works s t) : Works s (chanHold i t) :=
  works_setChan (fun _ hchans => hold_ok (hchans i)) h

@[simp] theorem works_chanResume (i : ChanId) (h : Works s t) : Works s (chanResume i t) :=
  works_setChan (fun _ hchans => resume_ok (hchans i)) h

@[simp] theorem works_takeCompare (i : ChanId) (h : Works s t) : Works s (takeCompare i t) :=
  works_setChan (fun _ hchans => hchans i) h

@[simp] theorem works_takeUnderflow (i : ChanId) (h : Works s t) : Works s (takeUnderflow i t) :=
  works_setChan (fun _ hchans => hchans i) h

/-! ## Slots, queues and signals (R31, R108, R147 to R151) -/

@[simp] theorem works_setSlot (x : Side) (v : Option Slot) (h : Works s t) : Works s (setSlot x v t) := by
  cases x <;> exact works_setTxu _ h

@[simp] theorem works_setQueue (d : Side) (q : List Credit) (h : Works s t) : Works s (setQueue d q t) := by
  cases d <;> exact works_setPcu rfl rfl h

@[simp] theorem works_setHurry (d : Side) (b : Bool) (h : Works s t) : Works s (setHurry d b t) := by
  cases d <;> exact works_setSgu _ h

@[simp] theorem works_requestTone (p : Tone) (n : Nat) (h : Works s t) : Works s (requestTone p n t) := by
  unfold requestTone
  split
  · exact works_chanStart (fun _ => by cases p <;> decide) (works_setSgu _ h)
  · exact h

@[simp] theorem works_toneAlarm (h : Works s t) : Works s (toneAlarm t) := works_requestTone _ _ h

@[simp] theorem works_toneAccept (h : Works s t) : Works s (toneAccept t) := works_requestTone _ _ h

@[simp] theorem works_sguRefuse (x : Side) (h : Works s t) : Works s (sguRefuse x t) := by
  unfold sguRefuse
  dsimp only
  split
  · exact works_requestTone _ _ h
  · cases x <;> exact works_setSgu _ (works_requestTone _ _ h)

@[simp] theorem works_startWindow (d : Side) (h : Works s t) : Works s (startWindow d t) := by
  have hwindow : t.setup.ok → windowCompare t < windowReload t := by
    rintro ⟨-, -, ⟨hwindow, -⟩, -⟩
    simp only [windowCompare, windowReload]
    omega
  unfold startWindow
  dsimp only
  split
  · exact works_setChan (fun hsetup _ => startHeld_ok (hwindow (by simpa using hsetup))) (works_setHurry d false h)
  · exact works_chanStart (fun hsetup => hwindow (by simpa using hsetup)) (works_setHurry d false h)

@[simp] theorem works_stopWindow (d : Side) (h : Works s t) : Works s (stopWindow d t) := by
  simp [stopWindow, h]

@[simp] theorem works_headWindow (d : Side) (h : Works s t) : Works s (headWindow d t) := by
  unfold headWindow
  split <;> simp [h]

@[simp] theorem works_startMove (h : Works s t) : Works s (startMove t) := works_chanStart (fun _ => by decide) h

@[simp] theorem works_startHold (h : Works s t) : Works s (startHold t) :=
  works_chanStart (fun ⟨_, _, _, _, ⟨hhold, _⟩, _⟩ => by omega) h

/-! ## The audit sampler (R170 to R177) -/

@[simp] theorem works_onSample (f : Sample → Sample) (h : Works s t) : Works s (onSample f t) := works_setAds _ h

@[simp] theorem works_auditOffer (m : Sample) (h : Works s t) : Works s (auditOffer m t) := by
  unfold auditOffer
  split
  · split
    · exact works_setAds _ h
    · exact h
  · exact works_setAds _ h
  all_goals exact h

@[simp] theorem works_auditComplete (o : AuditOutcome) (h : Works s t) : Works s (auditComplete o t) :=
  works_raiseStation (by decide) (works_setAds _ (works_onSample _ h))

@[simp] theorem works_auditGrant (h : Works s t) : Works s (auditGrant t) := by
  unfold auditGrant
  split
  · split
    · exact works_setAds _ (works_onSample _ h)
    · exact h
  · exact h

@[simp] theorem works_auditExpired (h : Works s t) : Works s (auditExpired t) :=
  works_auditComplete _ (works_onSample _ h)

@[simp] theorem works_auditConsumed (h : Works s t) : Works s (auditConsumed t) :=
  works_setAds _ (works_onSample _ (works_onSample _ h))

@[simp] theorem works_auditEpisodeEnd (n : Nat) (h : Works s t) : Works s (auditEpisodeEnd n t) := by
  unfold auditEpisodeEnd
  split
  · exact works_auditComplete _ (works_onSample _ h)
  · exact h

@[simp] theorem works_auditStart (h : Works s t) : Works s (auditStart t) := by
  unfold auditStart
  split <;> simp [h]

@[simp] theorem works_auditOutcome (sl : Slot) (r : WriteResult) (p : SampleTone) (h : Works s t) :
    Works s (auditOutcome sl r p t) := by
  unfold auditOutcome auditWrite
  split <;> simp [h]

end

/-- The leaves driven toward FREE_OPEN (R142). -/
def freeDriven (s : State) : State :=
  let t := chanStop .leafHold (leaveOpen s)
  startMove (t.setLfc
    { (t.lfc.drives .openSw .swingU) with
      leaf := .freeOpen, grant := none, reversal := false, paused := false, reversalCount := 0
      openSide := if t.lfc.bothMade .openSw then t.lfc.openSide else some .u })

/-- The record from which the leaves are commanded (R144). -/
def Lfc.commanded (l : Lfc) (count : Nat) : Lfc :=
  { l with
    leaf := .closing, grant := none, reversal := false, paused := false, reversalCount := count, driveL := .released
    driveR := .released, runL := 0, runR := 0, nextLeaf := .left }

@[simp] theorem leaf_commanded (l : Lfc) (n : Nat) : (l.commanded n).leaf = .closing := rfl

theorem commandLeaves_eq (n : Nat) (s : State) : commandLeaves n s =
    let t := s.setLfc (s.lfc.commanded n)
    if !t.lfc.allTaken then t
    else if t.effMode = .free then freeOpen t
    else if t.lfc.bothMade .closedSw then enterClosed t
    else driveClosed t := rfl

theorem freeOpen_eq (s : State) : freeOpen s =
    if s.lfc.leaf = .fault ∨ !s.lfc.allTaken then s
    else if (freeDriven s).lfc.bothBraked then chanStop .leafMove (freeDriven s) else freeDriven s := rfl

section
variable {s t : State}

/-! ## The leaves outside FAULT (R130 to R144) -/

@[simp] theorem works_openCheck (d : Side) (h : Works s t) : Works s (openCheck d t) := by
  unfold openCheck
  split_ifs <;> simp [h]

@[simp] theorem works_enterOpen (d : Side) (hl : t.lfc.leaf ≠ .fault) (h : Works s t) : Works s (enterOpen d t) :=
  works_openCheck d (works_headWindow d (works_moved nofun (by simpa using hl) (works_chanStop _ h)))

@[simp] theorem works_beginOpening (d : Side) (rev : Bool) (hl : t.lfc.leaf ≠ .fault) (h : Works s t) :
    Works s (beginOpening d rev t) := by
  unfold beginOpening
  dsimp only
  split
  · exact works_enterOpen d (by simp) (works_startMove (works_moved nofun hl h))
  · exact works_startMove (works_moved nofun hl h)

@[simp] theorem works_grantLeaves (d : Side) (hl : t.lfc.leaf ≠ .fault) (h : Works s t) : Works s (grantLeaves d t) :=
  works_beginOpening d false (by simpa using hl) (works_auditGrant (works_setLfc (by simp) h))

@[simp] theorem works_enterClosed (hl : t.lfc.leaf ≠ .fault) (h : Works s t) : Works s (enterClosed t) := by
  have hclosed : ∀ l : Lfc, l.leaf = .closed →
      Works s ((chanStop .leafHold (chanStop .leafMove t)).setLfc l) := fun l hleaf =>
    works_moved (by simp [hleaf]) (by simpa using hl) (works_chanStop _ (works_chanStop _ h))
  unfold enterClosed
  dsimp only
  split
  · exact works_grantLeaves _ (by simp) (hclosed _ rfl)
  · exact hclosed _ rfl

@[simp] theorem works_driveClosed (hl : t.lfc.leaf ≠ .fault) (h : Works s t) : Works s (driveClosed t) := by
  have hdriven : ∀ l : Lfc, l.leaf = t.lfc.leaf → Works s (startMove (t.setLfc l)) := fun l hleaf =>
    works_startMove (works_setLfc (by rw [hleaf]) h)
  unfold driveClosed
  dsimp only
  split
  · exact works_enterClosed hl (hdriven _ rfl)
  · exact hdriven _ rfl

@[simp] theorem works_leaveOpen (h : Works s t) : Works s (leaveOpen t) := by
  unfold leaveOpen
  split <;> simp [h]

@[simp] theorem works_beginClosing (g : Option Side) (n : Nat) (hl : t.lfc.leaf ≠ .fault) (h : Works s t) :
    Works s (beginClosing g n t) :=
  works_driveClosed (by simp) (works_moved nofun (by simpa using hl) (works_leaveOpen h))

@[simp] theorem works_lfcQueue (h : Works s t) : Works s (lfcQueue t) := by
  unfold lfcQueue
  split
  next hl => split <;> simp [h, hl]
  next d hl => split <;> simp [h, hl]
  next => simp [h]
  all_goals exact h

@[simp] theorem works_freeOpen (h : Works s t) : Works s (freeOpen t) := by
  rw [freeOpen_eq]
  split
  next => exact h
  next hl =>
    push Not at hl
    have hdriven : Works s (freeDriven t) :=
      works_startMove (works_moved nofun (by simpa using hl.1) (works_chanStop _ (works_leaveOpen h)))
    split
    · exact works_chanStop _ hdriven
    · exact hdriven

/-- Once the record says CLOSING without a drive, the command of the leaves is lane work (R144). -/
theorem works_commandLeaves_of (n : Nat) (h : Works s (t.setLfc (t.lfc.commanded n))) :
    Works s (commandLeaves n t) := by
  rw [commandLeaves_eq]
  dsimp only
  split_ifs
  · exact h
  · exact works_freeOpen h
  · exact works_enterClosed (by simp) h
  · exact works_driveClosed (by simp) h

@[simp] theorem works_commandLeaves (n : Nat) (hl : t.lfc.leaf ≠ .fault) (h : Works s t) :
    Works s (commandLeaves n t) := works_commandLeaves_of n (works_moved nofun hl h)

@[simp] theorem works_lastSwitchTaken (hl : t.lfc.leaf ≠ .fault) (h : Works s t) : Works s (lastSwitchTaken t) := by
  unfold lastSwitchTaken
  split <;> simp [h, hl]

@[simp] theorem works_lfcEmpty (h : Works s t) : Works s (lfcEmpty t) := by
  unfold lfcEmpty
  split
  · split <;> simp [h]
  · exact h

@[simp] theorem works_forceLeaf (l : Leaf) (hl : t.lfc.leaf ≠ .fault) (h : Works s t) : Works s (forceLeaf l t) :=
  works_toneAlarm (works_raiseBoth (by decide) (works_writeFree _ (works_moved nofun hl h)))

theorem works_brakeLeaf (l : Leaf) (h : Works s t) : Works s (t.setLfc (t.lfc.brakeLeaf l)) :=
  works_setLfc (by cases l <;> rfl) h

theorem leaf_brakeLeaf (l : Leaf) (x : Lfc) : (x.brakeLeaf l).leaf = x.leaf := by cases l <;> rfl

@[simp] theorem works_switchTaken (l : Leaf) (w : Switch) (m : Bool) (hl : t.lfc.leaf ≠ .fault) (h : Works s t) :
    Works s (switchTaken l w m t) := by
  have hbraked : (t.setLfc (t.lfc.brakeLeaf l)).lfc.leaf ≠ .fault := by simpa [leaf_brakeLeaf] using hl
  have hworks := works_brakeLeaf l h
  unfold switchTaken
  split
  · exact works_forceLeaf l hl h
  · split <;> simp [h, hl]
  · unfold reachTarget
    dsimp only
    split
    · exact works_enterOpen _ hbraked hworks
    · exact hworks
  · unfold reachTarget
    dsimp only
    split
    · exact works_chanStop _ hworks
    · exact hworks
  · unfold pausedClosed reachTarget
    dsimp only
    split_ifs
    · exact works_enterClosed hbraked hworks
    · exact hworks
    · exact works_enterClosed hbraked hworks
    · exact hworks
  · exact h

@[simp] theorem works_resumeClose (hl : t.lfc.leaf ≠ .fault) (h : Works s t) : Works s (resumeClose t) := by
  unfold resumeClose
  split
  · exact works_driveClosed hl h
  · exact works_setLfc Iff.rfl h

@[simp] theorem works_holdEnds (h : Works s t) : Works s (holdEnds t) := by
  unfold holdEnds
  split
  next d hl => exact works_beginClosing _ _ (by simp [hl]) h
  next hl => split <;> simp [h, hl]
  next => exact h

end

end Sys2Proof.Machine
end

section
/-! SUPPORT. The work of the lane over the tables, the credits, the passages and the transactions. -/

namespace Sys2Proof.Machine

section
variable {s t : State}

/-! ## Sightings and marks (R89 to R101) -/

/-- A change of the sightings and the marks alone. -/
@[simp] theorem works_setSightings (l : List Sighting) (o : List Nat) (h : Works s t) :
    Works s (t.setScu { t.scu with sightings := l, markOrder := o }) := works_setScu id h

@[simp] theorem works_putSighting (e : Sighting) (h : Works s t) : Works s (putSighting e t) :=
  works_setScu id h

@[simp] theorem works_touchSighting (e : Sighting) (h : Works s t) : Works s (touchSighting e t) :=
  works_setScu id h

@[simp] theorem works_insertSighting (e : Sighting) (h : Works s t) : Works s (insertSighting e t) := by
  unfold insertSighting
  dsimp only
  split_ifs
  · exact works_setScu id h
  · exact works_setScu id h
  · exact h

@[simp] theorem works_dropMark (c : Nat) (h : Works s t) : Works s (dropMark c t) := works_setScu id h

@[simp] theorem works_dropTear (c : Nat) (h : Works s t) : Works s (dropTear c t) := works_setScu id h

@[simp] theorem works_sightIssue (c : Nat) (ev : SightEvent) (f : InFlight) (h : Works s t) :
    Works s (sightIssue c ev f t) := by
  unfold sightIssue
  split <;> simp [h]

@[simp] theorem works_sightRefusal (c : Nat) (q e : Word16) (h : Works s t) : Works s (sightRefusal c q e t) := by
  unfold sightRefusal
  split
  · split <;> simp [h]
  · simp [h]

@[simp] theorem works_sightTouch (c : Nat) (h : Works s t) : Works s (sightTouch c t) := by
  unfold sightTouch
  split <;> simp [h]

@[simp] theorem works_sightNotWritten (c : Nat) (h : Works s t) : Works s (sightNotWritten c t) := by
  unfold sightNotWritten
  split <;> simp [h]

@[simp] theorem works_sightLost (c : Nat) (q e : Word16) (h : Works s t) : Works s (sightLost c q e t) := by
  unfold sightLost
  split <;> simp [h]

@[simp] theorem works_sightTear (c : Nat) (r : Tear) (h : Works s t) : Works s (sightTear c r t) := by
  unfold sightTear
  split <;> simp [h]

@[simp] theorem works_dropNinthMark (h : Works s t) : Works s (dropNinthMark t) := by
  unfold dropNinthMark
  split
  · exact h
  · split <;> simp [h]

@[simp] theorem works_placeMark (c : Nat) (m : Mark) (h : Works s t) : Works s (placeMark c m t) := by
  unfold placeMark
  split
  · exact works_setScu id (works_touchSighting _ h)
  · exact h

@[simp] theorem works_setMark (c : Nat) (d : Side) (h : Works s t) : Works s (setMark c d t) := by
  unfold setMark
  split
  · exact h
  · dsimp only
    split <;> simp [h]

@[simp] theorem works_expireMarks (h : Works s t) : Works s (expireMarks t) := by
  unfold expireMarks
  generalize (t.scu.sightings.filter (markDue t)).map Sighting.card = cards
  induction cards generalizing t with
  | nil => exact h
  | cons c cards ih => exact ih (works_dropMark c h)

@[simp] theorem works_marksTake (h : Works s t) : Works s (marksTake t) := by
  unfold marksTake
  split
  · exact works_expireMarks (works_setScu id h)
  · exact h

/-! ## Pending-tears and clone evidence (R51 to R55, R88) -/

@[simp] theorem works_unresolveTear (c : Nat) (r : Tear) (h : Works s t) : Works s (unresolveTear c r t) :=
  works_release1 (works_dropTear c (works_writeReserved _ h))

@[simp] theorem works_displaceTear (h : Works s t) : Works s (displaceTear t) := by
  unfold displaceTear
  split
  · exact h
  · split <;> simp [h]

@[simp] theorem works_expireTearsN (n : Nat) (h : Works s t) : Works s (expireTearsN n t) := by
  induction n generalizing t with
  | zero => exact h
  | succ n ih =>
    unfold expireTearsN
    split
    · exact ih (works_unresolveTear _ _ h)
    · exact h

@[simp] theorem works_tearsTake (h : Works s t) : Works s (tearsTake t) := by
  unfold tearsTake expireTears
  split
  · exact works_expireTearsN _ (works_setScu id h)
  · exact h

@[simp] theorem works_resolveTear (c : Nat) (r : Tear) (w : Bool) (h : Works s t) :
    Works s (resolveTear c r w t) := by
  unfold resolveTear
  dsimp only
  split <;> simp [h]

@[simp] theorem works_resolveRow (c : Nat) (r : Tear) (row : TearRow) (q e : Word16) (h : Works s t) :
    Works s (resolveRow c r row q e t) := by
  cases row with
  | lostToOther => exact works_release1 (works_sightLost c q e (works_resolveTear c r false h))
  | _ => simp [resolveRow, h]

@[simp] theorem works_localAdd (c : Nat) (h : Works s t) : Works s (localAdd c t).1 := by
  have hscu : ∃ x, (localAdd c t).1 = t.setScu x := by
    unfold localAdd
    split
    · exact ⟨t.scu, rfl⟩
    · split
      · exact ⟨_, rfl⟩
      · exact ⟨t.scu, rfl⟩
  obtain ⟨x, hx⟩ := hscu
  rw [hx]
  exact works_setScu (fun hs => hx ▸ localAdd_denyOk c hs) h

@[simp] theorem works_cloneEvidence (c : Nat) (x : Option Side) (q e held : Word16) (h : Works s t) :
    Works s (cloneEvidence c x q e held t) :=
  works_raiseStation (by decide) (works_writeFree _ (works_localAdd c h))

@[simp] theorem works_sightDone (c : Nat) (x : Side) (a b p q : Word16) (h : Works s t) :
    Works s (sightDone c x a b p q t) := by
  unfold sightDone
  split
  · exact h
  · dsimp only
    split_ifs <;> simp [h]

@[simp] theorem works_remoteResolve (c : Nat) (r : Tear) (w : Bool) (f : Sighting → Sighting) (h : Works s t) :
    Works s (remoteResolve c r w f t) := by
  have hreleased := works_release1 (works_resolveTear c r w h)
  unfold remoteResolve
  dsimp only
  split
  · exact works_touchSighting _ hreleased
  · exact hreleased

@[simp] theorem works_mergeSighting (b : SightBody) (ev : SightEvent) (h : Works s t) :
    Works s (mergeSighting b ev t).1 := by
  unfold mergeSighting
  split
  · simp [h]
  · split
    · unfold mergeTear
      split_ifs
      · exact works_remoteResolve _ _ _ _ h
      · exact works_remoteResolve _ _ _ _ h
      · exact works_remoteResolve _ _ _ _ h
      · exact h
      · exact works_cloneEvidence _ _ _ _ _ (works_touchSighting _ h)
      · exact h
    · unfold mergePlain
      split
      · simp [h]
      · split <;> simp [h]
      · exact h

/-! ## The free period, credits and passages (R108 to R119) -/

@[simp] theorem works_openFree (r : Reason) (h : Works s t) : Works s (openFree r t) := by
  unfold openFree
  split
  · exact h
  · exact works_setPcu rfl rfl h

@[simp] theorem works_closeFree (h : Works s t) : Works s (closeFree t) :=
  works_setPcu rfl rfl (works_writeFree _ h)

@[simp] theorem works_settleFree (h : Works s t) : Works s (settleFree t) := by
  unfold settleFree
  split <;> simp [h]

@[simp] theorem works_countFree (d : Side) (h : Works s t) : Works s (countFree d t) := by
  unfold countFree
  split
  · split <;> exact works_setPcu rfl rfl h
  · exact h

@[simp] theorem works_markCredit (d : Side) (c : Credit) (h : Works s t) : Works s (markCredit d c t) := by
  unfold markCredit
  split <;> simp [h]

@[simp] theorem works_cancelCredit (d : Side) (r : Reason) (c : Credit) (h : Works s t) :
    Works s (cancelCredit d r c t) := by
  have hmarked := works_markCredit d c (works_writeReserved (creditEntry t .creditCancelled r d c) h)
  unfold cancelCredit
  dsimp only
  split
  · exact works_auditComplete _ hmarked
  · exact hmarked

@[simp] theorem works_cancelFrom (d : Side) (r : Reason) (q : List Credit) (h : Works s t) :
    Works s (cancelFrom d r q t) := by
  induction q generalizing t with
  | nil => exact h
  | cons c q ih => exact ih (works_cancelCredit d r c (works_setQueue d q h))

@[simp] theorem works_cancelQueue (d : Side) (r : Reason) (h : Works s t) : Works s (cancelQueue d r t) := by
  simp [cancelQueue, h]

@[simp] theorem works_cancelBoth (r : Reason) (h : Works s t) : Works s (cancelBoth r t) := by
  simp [cancelBoth, h]

@[simp] theorem works_createCredit (d : Side) (c : Credit) (h : Works s t) : Works s (createCredit d c t) := by
  have hjoined := works_auditGrant (works_setQueue d (t.queue d ++ [c]) h)
  unfold createCredit
  dsimp only
  split
  · exact works_lfcQueue (works_headWindow d hjoined)
  · exact works_lfcQueue hjoined

@[simp] theorem works_expireHead (d : Side) (h : Works s t) : Works s (expireHead d t) := by
  unfold expireHead
  split
  · exact h
  next c rest _ =>
    have hentry := works_raiseLane (c := .expired) (by decide) (works_markCredit d c (works_writeReserved
      (creditEntry (setHurry d false (setQueue d rest t)) .creditExpired c.kind.reason d c)
      (works_setHurry d false (works_setQueue d rest h))))
    dsimp only
    split
    · exact works_lfcQueue (works_headWindow d (works_auditExpired hentry))
    · exact works_lfcQueue (works_headWindow d hentry)

@[simp] theorem works_consumeHead (d : Side) (h : Works s t) : Works s (consumeHead d t) := by
  unfold consumeHead
  split
  · exact h
  next c rest _ =>
    have hentry := works_writeReserved (creditEntry (stopWindow d (setQueue d rest t)) .passage c.kind.reason d c)
      (works_stopWindow d (works_setQueue d rest h))
    dsimp only
    split
    · exact works_lfcQueue (works_headWindow d (works_auditConsumed hentry))
    · exact works_lfcQueue (works_headWindow d hentry)

@[simp] theorem works_unpaidPassage (d : Side) (h : Works s t) : Works s (unpaidPassage d t) :=
  works_toneAlarm (works_raiseBoth (by decide) (works_writeFree _ h))

@[simp] theorem works_wrongWay (d : Side) (h : Works s t) : Works s (wrongWay d t) :=
  works_toneAlarm (works_raiseLane (by decide) (works_writeFree _ h))

@[simp] theorem works_passage (d : Side) (h : Works s t) : Works s (passage d t) := by
  unfold passage
  split_ifs <;> simp [h]

@[simp] theorem works_directEpisode (b : Beam) (h : Works s t) : Works s (directEpisode b t) := by
  unfold directEpisode
  split
  · exact h
  · exact works_setPcu rfl rfl h

@[simp] theorem works_beamCleared (b : Beam) (h : Works s t) : Works s (beamCleared b t) := by
  have hcounted : ∀ n, Works s (t.setPcu { t.pcu with farClears := n }) := fun n => works_setPcu rfl rfl h
  unfold beamCleared farClear
  split
  · dsimp only
    split_ifs <;> simp [h, hcounted]
  · exact h

/-! ## Presentations (R33 to R45) -/

@[simp] theorem works_refuseWith (p : Shown) (e : Entry) (r : Reason) (h : Works s t) :
    Works s (refuseWith p e r t).1 := by
  simp [refuseWith, h]

@[simp] theorem works_refuseSeen (p : Shown) (e : Entry) (r : Reason) (h : Works s t) :
    Works s (refuseSeen p e r t).1 := by
  simp [refuseSeen, h]

@[simp] theorem works_refuseBlocked (p : Shown) (h : Works s t) : Works s (refuseBlocked p t).1 := by
  unfold refuseBlocked
  dsimp only
  split <;> simp [h]

@[simp] theorem works_refuseClone (p : Shown) (e : Word16) (h : Works s t) : Works s (refuseClone p e t).1 :=
  works_refuseWith _ _ _ (works_raiseStation (by decide) (works_sightTouch _ (works_localAdd _ h)))

@[simp] theorem works_refuseTampered (p : Shown) (h : Works s t) : Works s (refuseTampered p t).1 :=
  works_refuseWith _ _ _ (works_raiseStation (by decide) h)

/-- W counted at an issued image (R13). -/
@[simp] theorem works_bumpW (h : Works s t) : Works s (bumpW t) := { h with }

@[simp] theorem works_issue (p : Shown) (i : Issue) (h : Works s t) : Works s (issue p i t) := by
  have hstate : Works s (setSlot p.side (some (i.slot p t)) (issueState t)) :=
    works_setSlot _ _ (works_bumpW (works_reserve 3 h))
  exact works_sightIssue _ _ _ (works_chanStart
    (fun ⟨_, _, _, _, _, ⟨hwrite, _⟩, _⟩ => by simp [issueState] at hwrite; omega) hstate)

@[simp] theorem works_refuseAndWrite (p : Shown) (h : Works s t) : Works s (refuseAndWrite p t).1 := by
  simp [refuseAndWrite, h]

@[simp] theorem works_accept (p : Shown) (k : Classified) (h : Works s t) : Works s (accept p k t).1 := by
  simp [accept, h]

@[simp] theorem works_acceptNoWrite (p : Shown) (k : CreditKind) (r : Reason) (q : Word32) (h : Works s t) :
    Works s (acceptNoWrite p k r q t) :=
  works_toneAccept (works_createCredit _ _ (works_auditOffer _ h))

@[simp] theorem works_sightReopen (p : Shown) (h : Works s t) : Works s (sightReopen p t) := by
  unfold sightReopen
  dsimp only
  split <;> simp [h]

@[simp] theorem works_sightCompleted (p : Shown) (h : Works s t) : Works s (sightCompleted p t) := by
  unfold sightCompleted
  split <;> simp [h]

@[simp] theorem works_reopen (p : Shown) (h : Works s t) : Works s (reopen p t).1 :=
  works_acceptNoWrite _ _ _ _ (works_reserve 1 (works_writeFree _ (works_sightReopen p h)))

@[simp] theorem works_tearCompleted (p : Shown) (r : Tear) (h : Works s t) : Works s (tearCompleted p r t).1 :=
  works_acceptNoWrite _ _ _ _ (works_writeFree _ (works_sightCompleted p (works_resolveTear _ _ _ h)))

@[simp] theorem works_screenFresh (p : Shown) (h : Works s t) : Works s (screenFresh p t).1 := by
  unfold screenFresh
  split_ifs
  · simp [h]
  · simp [h]
  · split
    · unfold entrySteps
      dsimp only
      split
      · simp [refusePassback, h]
      · split <;> simp [refuseLow, h]
    · unfold exitSteps
      dsimp only
      split <;> simp [refuseLow, h]

@[simp] theorem works_screenSighting (p : Shown) (h : Works s t) : Works s (screenSighting p t).1 := by
  unfold screenSighting
  split
  · simp [h]
  · split
    · unfold screenTear
      dsimp only
      split
      case h_3 => split <;> simp [h]
      all_goals simp [h]
    · split <;> simp [h]

@[simp] theorem works_present (x : Side) (im : List Byte) (h : Works s t) : Works s (present x im t).1 := by
  unfold present
  split
  · simp [refuseEarly, h]
  · dsimp only
    split
    · simp [refuseUnreadable, h]
    · split_ifs
      · simp [h]
      · simp [h]
      · split <;> simp [refuseConcurrent, h]

/-! ## Outcomes and staff passes (R46 to R51, R111) -/

@[simp] theorem works_doneCredit (x : Side) (sl : Slot) (q : Word32) (h : Works s t) :
    Works s (doneCredit x sl q t) := by
  unfold doneCredit
  dsimp only
  split
  · exact works_cancelCredit _ _ _ (works_auditOutcome _ _ _ h)
  · exact works_toneAccept (works_createCredit _ _ (works_auditOutcome _ _ _ h))

@[simp] theorem works_settleDone (x : Side) (sl : Slot) (h : Works s t) : Works s (settleDone x sl t) := by
  have hwritten := works_writeReserved (doneEntry t x sl) h
  unfold settleDone
  dsimp only
  split
  · exact works_setSlot _ _ (works_release1 (works_sightDone _ _ _ _ _ _ (works_doneCredit _ _ _ hwritten)))
  · exact works_setSlot _ _ (works_release1 (works_sightDone _ _ _ _ _ _ (works_release1 hwritten)))

@[simp] theorem works_settleNotWritten (x : Side) (sl : Slot) (h : Works s t) :
    Works s (settleNotWritten x sl t) := by
  have hreleased := works_release1 (works_release1 (works_writeReserved (notWrittenEntry t x sl) h))
  have hfreed := works_auditOutcome sl .notWritten (sampleTone t .refuse)
    (works_setSlot x none (works_sightNotWritten sl.card hreleased))
  unfold settleNotWritten
  dsimp only
  split
  · exact works_sguRefuse _ (works_auditComplete _ hfreed)
  · exact works_sguRefuse _ hfreed

@[simp] theorem works_settleUncertain (o : AuditOutcome) (x : Side) (sl : Slot) (h : Works s t) :
    Works s (settleUncertain o x sl t) := by
  have hwritten := works_writeReserved (tearEntry (displaceTear t) x sl) (works_displaceTear h)
  have hsettled : ∀ u, Works s u → Works s (auditOutcome sl .uncertain .absent (freeSlot x u)) := fun u hu =>
    works_auditOutcome _ _ _ (works_setSlot x none hu)
  unfold settleUncertain
  dsimp only
  split_ifs
  · exact works_auditComplete _ (hsettled _ (works_sightTear _ _ hwritten))
  · exact works_auditComplete _ (hsettled _ (works_release1 (works_release1 hwritten)))
  · exact hsettled _ (works_sightTear _ _ hwritten)
  · exact hsettled _ (works_release1 (works_release1 hwritten))

@[simp] theorem works_writeWaitEnds (x : Side) (h : Works s t) : Works s (writeWaitEnds x t) := by
  unfold writeWaitEnds
  split <;> simp [h]

@[simp] theorem works_tearSlot (x : Side) (h : Works s t) : Works s (tearSlot x t) := by
  unfold tearSlot
  split <;> simp [h]

@[simp] theorem works_takeOutcome (x : Side) (w : WriteResult) (q : Word16) (h : Works s t) :
    Works s (takeOutcome x w q t).1 := by
  unfold takeOutcome
  split
  · split
    · cases w <;> simp [settleSlot, h]
    · exact h
  · exact h

@[simp] theorem works_staffCredit (d : Side) (h : Works s t) : Works s (staffCredit d t) :=
  works_createCredit _ _ (works_reserve 1 (works_writeFree _ h))

/-! ## Mode and starts (R27, R142, R153) -/

@[simp] theorem works_cancelForMode (h : Works s t) : Works s (cancelForMode t) := by
  unfold cancelForMode
  split
  · exact works_lfcQueue (works_cancelBoth .free h)
  · have hup : Works s (if t.permits .u then t else cancelQueue .u .mode t) := by
      split
      · exact h
      · exact works_cancelQueue .u .mode h
    dsimp only
    split
    · exact works_lfcQueue hup
    · exact works_lfcQueue (works_cancelQueue .p .mode hup)

@[simp] theorem works_leavesForMode (m : Mode) (h : Works s t) : Works s (leavesForMode m t) := by
  unfold leavesForMode
  split_ifs with hfree hleft
  · simp [h]
  · exact works_beginClosing _ _ (by simp [hleft.2]) h
  · exact h

@[simp] theorem works_resetSignals (h : Works s t) : Works s (resetSignals t) := by
  simp [resetSignals, h]

@[simp] theorem works_signalEnds (h : Works s t) : Works s (signalEnds t) := by
  unfold signalEnds
  split <;> simp [h]

end

end Sys2Proof.Machine
end

section
/-! SUPPORT. What the operations outside the work of the lane keep as well: the records of O59, the notice of the
service, and the conditions of readiness, with a change of the reason set that is still to come. -/

namespace Sys2Proof.Machine

/-- Settings, channels, clock, tracker, filters and deny list stay well formed, SERVICE_CHANGED is raised in neither
set, and a change of the reason set waits for its notice (R29). -/
structure Stays (s t : State) : Prop where
  times : s.timesOk → t.timesOk
  deny : s.denyOk → t.denyOk
  lane : SameNotice .serviceChanged s.lpt.notices t.lpt.notices
  link : SameNotice .serviceChanged s.stl.notices t.stl.notices
  touched : s.svc.serviceTouched = true ∨ t.svc.reasons ≠ s.svc.reasons → t.svc.serviceTouched = true

theorem Stays.refl (s : State) : Stays s s :=
  ⟨id, id, rfl, rfl, fun h => h.resolve_right fun hne => hne rfl⟩

theorem Stays.trans {s t u : State} (h : Stays s t) (h' : Stays t u) : Stays s u where
  times := h'.times ∘ h.times
  deny := h'.deny ∘ h.deny
  lane := h.lane.trans h'.lane
  link := h.link.trans h'.link
  touched := by
    rintro (hs | hne)
    · exact h'.touched (.inl (h.touched (.inl hs)))
    · by_cases hst : t.svc.reasons = s.svc.reasons
      · exact h'.touched (.inr (hst ▸ hne))
      · exact h'.touched (.inl (h.touched (.inr hst)))

theorem Svc.Judged.clockOk {s t : State} (h : s.svc.Judged t.svc) (hs : s.clockOk) : t.clockOk := by
  unfold State.clockOk at hs ⊢
  rw [show t.svc = _ from h]
  exact hs

theorem Works.times {s t : State} (h : Works s t) : s.timesOk → t.timesOk := by
  rintro ⟨hsetup, hchans, hclock, htracker, hfilters⟩
  refine ⟨h.setup ▸ hsetup, h.chans hsetup hchans, h.svc.clockOk hclock, ?_, fun i => h.inp ▸ hfilters i⟩
  rw [State.trackerOk, h.episode, h.beams]
  exact htracker

theorem Works.stays {s t : State} (h : Works s t) : Stays s t :=
  ⟨h.times, h.deny, h.laneSet _ (by decide), h.linkSet _ (by decide), h.touched⟩

theorem Stays.works {s t u : State} (h : Stays s t) (h' : Works t u) : Stays s u := h.trans h'.stays

section
variable {s t : State}

/-! ## Blocks that these records do not rest on -/

theorem stays_setLfc (x : Lfc) (h : Stays s t) : Stays s (t.setLfc x) := { h with }

theorem stays_setFru (x : Fru) (h : Stays s t) : Stays s (t.setFru x) := { h with }

theorem stays_setRck (x : Rck) (h : Stays s t) : Stays s (t.setRck x) := { h with }

theorem stays_setSgu (x : Sgu) (h : Stays s t) : Stays s (t.setSgu x) := { h with }

theorem stays_setScu {x : Scu} (hdeny : t.denyOk → (t.setScu x).denyOk) (h : Stays s t) : Stays s (t.setScu x) :=
  { h with deny := hdeny ∘ h.deny }

theorem stays_setInp {x : Inputs} (hx : t.filtersOk → (t.setInp x).filtersOk) (h : Stays s t) :
    Stays s (t.setInp x) :=
  { h with
    times := fun hs => by
      obtain ⟨hsetup, hchans, hclock, htracker, hfilters⟩ := h.times hs
      exact ⟨hsetup, hchans, hclock, htracker, hx hfilters⟩ }

theorem stays_setPcu {x : Pcu} (hx : t.trackerOk → (t.setPcu x).trackerOk) (h : Stays s t) : Stays s (t.setPcu x) :=
  { h with
    times := fun hs => by
      obtain ⟨hsetup, hchans, hclock, htracker, hfilters⟩ := h.times hs
      exact ⟨hsetup, hchans, hclock, hx htracker, hfilters⟩ }

/-- A change of the settings, the clock, the hold or the levels that leaves the reason set alone. -/
theorem stays_setSvc {x : Svc} (hx : t.clockOk → (t.setSvc x).clockOk) (hreasons : x.reasons = t.svc.reasons)
    (htouched : x.serviceTouched = t.svc.serviceTouched) (h : Stays s t) : Stays s (t.setSvc x) :=
  { h with
    times := fun hs => by
      obtain ⟨hsetup, hchans, hclock, htracker, hfilters⟩ := h.times hs
      exact ⟨hsetup, hchans, hx hclock, htracker, hfilters⟩
    touched := by simpa only [setSvc_svc, hreasons, htouched] using h.touched }

theorem stays_raiseLane {c : Cause} (hc : c ≠ .serviceChanged) (h : Stays s t) : Stays s (raiseLane c t) :=
  { h with lane := h.lane.trans (sameNotice_raiseIn hc _) }

theorem stays_raiseStation {c : Cause} (hc : c ≠ .serviceChanged) (h : Stays s t) : Stays s (raiseStation c t) :=
  { h with link := h.link.trans (sameNotice_raiseIn hc _) }

theorem stays_raiseBoth {c : Cause} (hc : c ≠ .serviceChanged) (h : Stays s t) : Stays s (raiseBoth c t) :=
  stays_raiseStation hc (stays_raiseLane hc h)

theorem stays_setReasons (r : Reasons) (h : Stays s t) : Stays s (setReasons r t) := by
  refine h.trans ?_
  unfold setReasons
  split
  · exact .refl t
  · exact { Stays.refl t with touched := fun _ => rfl }

end

/-! ## Conditions of service (R28) -/

/-- The reasons that the conditions of R28 give. -/
def State.conditions (s : State) : Reasons :=
  { noKey := s.rck.current.isNone, noFare := !s.activeBank.valid, noTime := !s.svc.timeKnown
    noSetup := s.setup.stationCode == 0, journalStop := s.rjn.stop
    leafFault := s.lfc.leaf == .fault, laneHold := s.svc.laneHold
    modeClosed := s.effMode == .closed }

theorem reasonsTold_iff (s : State) : s.reasonsTold ↔ s.svc.reasons = s.conditions := Iff.rfl

/-- A change of the reason set that leaves JOURNAL_STOP to the journal. -/
def Reasons.Apart (r : Reasons → Reasons) : Prop :=
  ∀ x b, r { x with journalStop := b } = { r x with journalStop := b }

/-- Readiness but for one change of the reason set that is still to come. -/
def State.readyBut (r : Reasons → Reasons) (s : State) : Prop :=
  s.conditions = r s.svc.reasons ∧ s.spaceJudged ∧ s.banksOk

theorem readinessOk_iff (s : State) : s.readinessOk ↔ s.readyBut id :=
  ⟨fun ⟨htold, hrest⟩ => ⟨Eq.symm htold, hrest⟩, fun ⟨htold, hrest⟩ => ⟨Eq.symm htold, hrest⟩⟩

theorem Works.effMode {s t : State} (h : Works s t) : t.effMode = s.effMode := by
  rw [State.effMode, State.effMode, h.svc.emerg, h.svc.stationMode]

theorem Works.conditions {s t : State} (h : Works s t) :
    t.conditions = { s.conditions with journalStop := t.rjn.stop } := by
  have hsvc := h.svc
  have htime : t.svc.timeKnown = s.svc.timeKnown := by rw [show t.svc = _ from hsvc]
  have hhold : t.svc.laneHold = s.svc.laneHold := by rw [show t.svc = _ from hsvc]
  have hleaf : (t.lfc.leaf == .fault) = (s.lfc.leaf == .fault) := by
    rw [Bool.eq_iff_iff, beq_iff_eq, beq_iff_eq, h.fault]
  simp only [State.conditions, State.activeBank, h.key, h.fru, h.setup, htime, hhold, h.effMode, hleaf]

theorem Works.banksOk {s t : State} (h : Works s t) (hs : s.banksOk) : t.banksOk := by
  unfold State.banksOk State.standbyBank at hs ⊢
  rw [h.fru]
  exact hs

theorem Works.readyBut {s t : State} {r : Reasons → Reasons} (h : Works s t) (hr : Reasons.Apart r)
    (hs : s.readyBut r) : t.readyBut r := by
  obtain ⟨htold, hspace, hbanks⟩ := hs
  have hspace' := h.space hspace
  refine ⟨?_, hspace', h.banksOk hbanks⟩
  obtain ⟨-, -, hstop⟩ := hspace'
  have hreasons : t.svc.reasons = { s.svc.reasons with journalStop := t.rjn.stop } := by
    rw [show t.svc = _ from h.svc, hstop]
  rw [h.conditions, htold, hreasons]
  exact (hr _ _).symm

theorem Works.ready {s t : State} (h : Works s t) (hs : s.readinessOk) : t.readinessOk :=
  (readinessOk_iff t).mpr (h.readyBut (fun _ _ => rfl) ((readinessOk_iff s).mp hs))

theorem setReasons_eq (r : Reasons) (s : State) : setReasons r s = s.setSvc { s.svc with
    reasons := r, serviceTouched := s.svc.serviceTouched || decide (s.svc.reasons ≠ r) } := by
  unfold setReasons
  split
  next h => subst h; simp; rfl
  next h => simp [h]

/-- The change comes, and readiness stands. -/
theorem setReasons_ready {s : State} {r : Reasons → Reasons} (hs : s.readyBut r) :
    (setReasons (r s.svc.reasons) s).readinessOk := by
  obtain ⟨htold, ⟨hlow, hstop, -⟩, hbanks⟩ := hs
  rw [setReasons_eq, ← htold]
  exact ⟨rfl, ⟨hlow, hstop, rfl⟩, hbanks⟩

end Sys2Proof.Machine
end

section
/-! SUPPORT. The fares, the key, the clock, the hold, the settings and the mode: each leaves the records of O59 well
formed and the reasons equal to their conditions. -/

namespace Sys2Proof.Machine

/-! ## Fare banks (R59 to R64) -/

theorem raiseBoth_readyBut {s : State} {r : Reasons → Reasons} (c : Cause) (hs : s.readyBut r) :
    (raiseBoth c s).readyBut r := hs

theorem raiseLane_readyBut {s : State} {r : Reasons → Reasons} (c : Cause) (hs : s.readyBut r) :
    (raiseLane c s).readyBut r := hs

theorem raiseBoth_ready {s : State} (c : Cause) (hs : s.readinessOk) : (raiseBoth c s).readinessOk := hs

theorem swapBanks_stays (r : Reason) (s : State) : Stays s (swapBanks r s) := by
  have hswapped := fun e => stays_raiseBoth (c := .fareSwitched) (by decide)
    ((stays_setFru { s.fru with active := s.fru.active.other } (.refl s)).works (works_writeFree e (.refl _)))
  unfold swapBanks
  split
  · exact hswapped _
  · exact stays_setReasons _ (hswapped _)

theorem swapBanks_ready {r : Reason} {s : State} (hvalid : s.standbyBank.valid = true)
    (hpending : s.fru.pendingSwitch = none) (hs : s.readinessOk) : (swapBanks r s).readinessOk := by
  obtain ⟨htold, hspace, hbankA, hbankB, -⟩ := hs
  rw [reasonsTold_iff] at htold
  let t := s.setFru { s.fru with active := s.fru.active.other }
  have hcond : t.conditions = { s.conditions with noFare := false } :=
    congrArg (fun b => ({ s.conditions with noFare := !b } : Reasons)) hvalid
  have hbanks : t.banksOk := ⟨hbankA, hbankB, by simp [t, hpending]⟩
  unfold swapBanks
  split
  next hactive =>
    have hsame : t.conditions = s.conditions := by rw [hcond, State.conditions, hactive]; rfl
    have hready : t.readinessOk := ⟨htold.trans hsame.symm, hspace, hbanks⟩
    exact raiseBoth_ready .fareSwitched (Works.ready (works_writeFree _ (.refl t)) hready)
  next =>
    have hready : t.readyBut fun x => { x with noFare := false } :=
      ⟨hcond.trans (congrArg (fun x => ({ x with noFare := false } : Reasons)) htold.symm), hspace, hbanks⟩
    exact setReasons_ready (raiseBoth_readyBut .fareSwitched
      (Works.readyBut (works_writeFree _ (.refl t)) (fun _ _ => rfl) hready))

theorem setPendingSwitch_none_ready {s : State} (hs : s.readinessOk) : (setPendingSwitch none s).readinessOk := by
  obtain ⟨htold, hspace, hbankA, hbankB, -⟩ := hs
  exact ⟨htold, hspace, hbankA, hbankB, nofun⟩

theorem takeTimedSwitch_stays (s : State) : Stays s (takeTimedSwitch s) := by
  unfold takeTimedSwitch
  split
  · split
    · exact (stays_setFru _ (.refl s)).trans (swapBanks_stays _ _)
    · exact .refl s
  · exact .refl s

theorem takeTimedSwitch_ready {s : State} (hs : s.readinessOk) : (takeTimedSwitch s).readinessOk := by
  unfold takeTimedSwitch
  split
  next target hpending =>
    split
    · obtain ⟨-, -, -, -, hvalid⟩ := id hs
      exact swapBanks_ready (hvalid (by rw [hpending]; rfl)) rfl (setPendingSwitch_none_ready hs)
    · exact hs
  next => exact hs

theorem fruTakes_stays (s : State) : Stays s (fruTakes s) := by
  unfold fruTakes
  split
  · exact (stays_setFru _ (.refl s)).trans (takeTimedSwitch_stays _)
  · exact .refl s

theorem fruTakes_ready {s : State} (hs : s.readinessOk) : (fruTakes s).readinessOk := by
  unfold fruTakes
  split
  · exact takeTimedSwitch_ready (s := s.setFru { s.fru with secondHanded := false }) hs
  · exact hs

theorem takeHanded_stays (s : State) : Stays s (takeHanded s) :=
  (fruTakes_stays s).works (works_tearsTake (works_marksTake (.refl _)))

theorem takeHanded_ready {s : State} (hs : s.readinessOk) : (takeHanded s).readinessOk :=
  Works.ready (works_tearsTake (works_marksTake (.refl _))) (fruTakes_ready hs)

/-- A STANDBY bank as loading leaves one, while no switch is pending. -/
theorem setStandby_ready {b : Bank} {s : State} (hb : b.ok) (hpending : s.fru.pendingSwitch.isSome → b.valid = true)
    (hs : s.readinessOk) : (setStandby b s).readinessOk := by
  obtain ⟨htold, hspace, hbankA, hbankB, -⟩ := hs
  rw [reasonsTold_iff] at htold
  unfold setStandby
  split
  next h =>
    refine ⟨?_, hspace, hbankA, hb, ?_⟩
    · simpa [State.reasonsTold, State.conditions, State.activeBank, Fru.bank, h, State.effMode] using htold
    · simpa [State.standbyBank, Fru.bank, h, BankId.other] using hpending
  next h =>
    refine ⟨?_, hspace, hb, hbankB, ?_⟩
    · simpa [State.reasonsTold, State.conditions, State.activeBank, Fru.bank, h, State.effMode] using htold
    · simpa [State.standbyBank, Fru.bank, h, BankId.other] using hpending

theorem setPendingSwitch_setStandby (p : Option DayTime) (b : Bank) (s : State) :
    setPendingSwitch p (setStandby b s) = setStandby b (setPendingSwitch p s) := by
  cases h : s.fru.active <;> simp [setPendingSwitch, setStandby, h] <;> rfl

theorem setStandby_stays (b : Bank) (s : State) : Stays s (setStandby b s) := by
  unfold setStandby
  split <;> exact stays_setFru _ (.refl s)

theorem length_overwrite {buf data : List Byte} {off : Nat} (h : off + data.length ≤ buf.length) :
    (overwrite buf off data).length = buf.length := by
  simp [overwrite]
  omega

theorem standbyBank_ok {s : State} (hs : s.readinessOk) : s.standbyBank.ok := by
  obtain ⟨-, -, hbankA, hbankB, -⟩ := hs
  unfold State.standbyBank Fru.bank
  split
  · exact hbankA
  · exact hbankB

theorem fareChunkRun_stays (b : List Byte) (s : State) : Stays s (fareChunkRun b s).1 := by
  unfold fareChunkRun
  dsimp only
  split_ifs
  · exact .refl s
  · exact .refl s
  · exact (setStandby_stays _ s).trans (stays_setFru _ (.refl _))

theorem fareChunkRun_ready {b : List Byte} {s : State} (hs : s.readinessOk) : (fareChunkRun b s).1.readinessOk := by
  unfold fareChunkRun
  dsimp only
  split_ifs with hempty hfits
  · exact hs
  · exact hs
  · obtain ⟨hlength, -, -⟩ := standbyBank_ok hs
    have hbuffer := length_overwrite (buf := s.standbyBank.buffer) (data := b.drop 2) (off := field b 0 2) (by omega)
    unfold writeChunk
    rw [setPendingSwitch_setStandby]
    exact setStandby_ready ⟨hbuffer.trans hlength, nofun, fun _ => rfl⟩ nofun (setPendingSwitch_none_ready hs)

theorem fareCloseRun_stays (b : List Byte) (s : State) : Stays s (fareCloseRun b s).1 := by
  unfold fareCloseRun
  split
  · exact (setStandby_stays _ s).trans (stays_setFru _ (.refl _))
  · exact setStandby_stays _ s

theorem fieldFault_of_closeFault {b : List Byte} {total : Nat} {check : Word32}
    (h : closeFault b total check = none) : fieldFault b = none := by
  unfold closeFault at h
  split_ifs at h
  split at h
  next => cases h
  next hnone => exact hnone

theorem fareCloseRun_ready {b : List Byte} {s : State} (hs : s.readinessOk) : (fareCloseRun b s).1.readinessOk := by
  obtain ⟨hlength, -, -⟩ := standbyBank_ok hs
  unfold fareCloseRun
  split
  next =>
    unfold failClose
    rw [setPendingSwitch_setStandby]
    exact setStandby_ready ⟨hlength, nofun, fun _ => rfl⟩ nofun (setPendingSwitch_none_ready hs)
  next hclose =>
    exact setStandby_ready ⟨hlength, fun _ => ⟨fieldFault_of_closeFault hclose, rfl⟩, nofun⟩ (fun _ => rfl) hs

theorem fareSwitchRun_stays (b : List Byte) (s : State) : Stays s (fareSwitchRun b s).1 := by
  unfold fareSwitchRun
  dsimp only
  split_ifs
  · exact (stays_setFru _ (.refl s)).trans (swapBanks_stays _ _)
  · exact .refl s
  · exact .refl s
  · exact stays_setFru _ (.refl s)
  · exact .refl s
  · exact .refl s

theorem fareSwitchRun_ready {b : List Byte} {s : State} (hs : s.readinessOk) : (fareSwitchRun b s).1.readinessOk := by
  unfold fareSwitchRun
  dsimp only
  split_ifs with hnow hvalid hform hrange hvalid
  · exact swapBanks_ready hvalid rfl (setPendingSwitch_none_ready hs)
  · exact hs
  · exact hs
  · obtain ⟨htold, hspace, hbankA, hbankB, -⟩ := hs
    exact ⟨htold, hspace, hbankA, hbankB, fun _ => hvalid⟩
  · exact hs
  · exact hs

/-! ## The key, the settings and the hold (R9, R24, R187) -/

theorem loadKey_stays (k : Key) (s : State) : Stays s (loadKey k s) := by
  unfold loadKey
  split
  · exact .refl s
  · exact stays_setReasons _ ((stays_setRck _ (.refl s)).works (works_writeFree _ (.refl _)))

theorem loadKey_ready {k : Key} {s : State} (hs : s.readinessOk) : (loadKey k s).readinessOk := by
  obtain ⟨htold, hspace, hbanks⟩ := id hs
  rw [reasonsTold_iff] at htold
  unfold loadKey
  split
  · exact hs
  · let t := s.setRck { s.rck with current := some k, previous := s.rck.current }
    have hready : t.readyBut fun x => { x with noKey := false } :=
      ⟨congrArg (fun x => ({ x with noKey := false } : Reasons)) htold.symm, hspace, hbanks⟩
    exact setReasons_ready (Works.readyBut (works_writeFree _ (.refl t)) (fun _ _ => rfl) hready)

theorem clamp_le {lo hi : Nat} (h : lo ≤ hi) (v : Nat) : lo ≤ clamp lo hi v ∧ clamp lo hi v ≤ hi := by
  unfold clamp
  split_ifs <;> omega

theorem clampBeam_le (v : Nat) : 4 ≤ clampBeam v ∧ clampBeam v ≤ 120 ∧ clampBeam v % 4 = 0 := by
  have := clamp_le (show 4 ≤ 120 by decide) v
  unfold clampBeam
  omega

theorem readSetup_ok (b : List Byte) : (readSetup b).ok := by
  have hzone := clamp_le (show 0 ≤ 15 by decide) (field b 2 1)
  have hgroup := clamp_le (show 64 ≤ 254 by decide) (field b 3 1)
  have hwindow := clamp_le (show 2 ≤ 30 by decide) (field b 4 1)
  have hwarning := clamp_le (Nat.zero_le (clamp 2 30 (field b 4 1))) (field b 5 1)
  have hhold := clamp_le (show 16 ≤ 192 by decide) (field b 6 1)
  have hwrite := clamp_le (show 32 ≤ 320 by decide) (field b 7 2)
  have hoccupancy := clamp_le (show 10 ≤ 120 by decide) (field b 9 1)
  have hthreshold := clamp_le (show 0 ≤ 1023 by decide) (field b 11 2)
  have hgrace := clamp_le (show 1 ≤ 30 by decide) (field b 13 1)
  have htear := clamp_le (show 5 ≤ 120 by decide) (field b 14 1)
  exact ⟨hzone.2, hgroup, hwindow, hwarning.2, hhold, hwrite, hoccupancy, clampBeam_le _, hthreshold.2, hgrace, htear⟩

theorem laneSetupRun_stays (b : List Byte) (s : State) : Stays s (laneSetupRun b s).1 :=
  stays_setReasons _
    { Stays.refl s with
      times := fun ⟨_, hchans, hclock, htracker, hfilters⟩ => ⟨readSetup_ok b, hchans, hclock, htracker, hfilters⟩ }

theorem laneSetupRun_ready {b : List Byte} {s : State} (hs : s.readinessOk) : (laneSetupRun b s).1.readinessOk := by
  obtain ⟨htold, hspace, hbanks⟩ := hs
  rw [reasonsTold_iff] at htold
  have hready : (s.setSetup (readSetup b)).readyBut fun x => { x with noSetup := (readSetup b).stationCode == 0 } :=
    ⟨congrArg (fun x => ({ x with noSetup := (readSetup b).stationCode == 0 } : Reasons)) htold.symm, hspace, hbanks⟩
  exact setReasons_ready hready

/-- The hold and its reason, set or cleared (R24). -/
theorem hold_stays (v : Bool) (s : State) : Stays s (setHoldReason v (s.setSvc { s.svc with laneHold := v })) :=
  stays_setReasons _ (stays_setSvc id rfl rfl (.refl s))

theorem hold_ready (v : Bool) {s : State} (hs : s.readinessOk) :
    (setHoldReason v (s.setSvc { s.svc with laneHold := v })).readinessOk := by
  obtain ⟨htold, hspace, hbanks⟩ := hs
  rw [reasonsTold_iff] at htold
  have hready : (s.setSvc { s.svc with laneHold := v }).readyBut fun x => { x with laneHold := v } :=
    ⟨congrArg (fun x => ({ x with laneHold := v } : Reasons)) htold.symm, hspace, hbanks⟩
  exact setReasons_ready hready

/-! ## The clock (R17, R19, R20) -/

theorem handSecond_stays (s : State) : Stays s (handSecond s) := stays_setScu id (stays_setFru _ (.refl s))

theorem DayTime.next_inRange {t : DayTime} (hday : t.day ≤ 65534) (hsecs : t.secs ≤ 86399) :
    t.next.day ≤ 65534 ∧ t.next.secs ≤ 86399 := by
  unfold DayTime.next
  split_ifs <;> dsimp only <;> omega

theorem nextClock_ok {s : State} (hknown : s.svc.timeKnown = true) (hs : s.clockOk) :
    (setClock s.now.next s).clockOk := by
  obtain ⟨hphase, hsecs, hday, -⟩ := hs
  obtain ⟨hday', hsecs'⟩ := DayTime.next_inRange (t := s.now) hday hsecs
  exact ⟨hphase, hsecs', hday', fun h => absurd (hknown.symm.trans h) nofun⟩

theorem secondTaken_stays (s : State) : Stays s (secondTaken s) := by
  have hdue := stays_setSvc (x := { (takeHanded s).svc with secondsDue := (takeHanded s).svc.secondsDue - 1 }) id rfl rfl
    (takeHanded_stays s)
  unfold secondTaken
  dsimp only
  split
  next hknown => exact (stays_setSvc (fun h => nextClock_ok hknown h) rfl rfl hdue).trans (handSecond_stays _)
  next => exact hdue

theorem secondTaken_ready {s : State} (hs : s.readinessOk) : (secondTaken s).readinessOk := by
  have hready := takeHanded_ready hs
  unfold secondTaken
  generalize takeHanded s = t at hready ⊢
  dsimp only
  split <;> exact hready

theorem works_noteStep (new : DayTime) (s : State) : Works s (noteStep new s) := by
  unfold noteStep
  split
  · exact works_writeFree _ (.refl s)
  · exact .refl s

/-- The clock at a time that is set, before what the new time has reached is taken (R20). -/
def clockTaken (new : DayTime) (s : State) : State :=
  setNoTime false (s.setSvc { s.svc with
    phase := 0, secondsDue := 0, day := new.day, secs := new.secs, timeKnown := true })

theorem clockSet_eq (new : DayTime) (s : State) :
    clockSet new s = takeHanded (handSecond (clockTaken new (noteStep new (takeHanded s)))) := rfl

theorem clockTaken_stays {new : DayTime} (hnew : new.inRange = true) (s : State) : Stays s (clockTaken new s) := by
  simp only [DayTime.inRange, Bool.and_eq_true, decide_eq_true_eq] at hnew
  obtain ⟨⟨-, hday⟩, hsecs⟩ := hnew
  exact stays_setReasons _ (stays_setSvc (fun _ => ⟨Nat.zero_lt_succ _, hsecs, hday, nofun⟩) rfl rfl (.refl s))

theorem clockTaken_ready {new : DayTime} {s : State} (hs : s.readinessOk) : (clockTaken new s).readinessOk := by
  obtain ⟨htold, hspace, hbanks⟩ := hs
  rw [reasonsTold_iff] at htold
  have hready : (s.setSvc { s.svc with
      phase := 0, secondsDue := 0, day := new.day, secs := new.secs, timeKnown := true }).readyBut
      fun x => { x with noTime := false } :=
    ⟨congrArg (fun x => ({ x with noTime := false } : Reasons)) htold.symm, hspace, hbanks⟩
  exact setReasons_ready hready

theorem clockSet_stays {new : DayTime} (hnew : new.inRange = true) (s : State) : Stays s (clockSet new s) := by
  rw [clockSet_eq]
  exact ((((takeHanded_stays s).works (works_noteStep new _)).trans (clockTaken_stays hnew _)).trans
    (handSecond_stays _)).trans (takeHanded_stays _)

theorem clockSet_ready {new : DayTime} {s : State} (hs : s.readinessOk) : (clockSet new s).readinessOk := by
  rw [clockSet_eq]
  exact takeHanded_ready (s := handSecond _) (clockTaken_ready ((works_noteStep new _).ready (takeHanded_ready hs)))

/-! ## The mode (R25 to R27) -/

/-- A change of the effective mode up to its reason: the entry, the lane's notice and MODE_CLOSED (R27). -/
def modeMarked (old : Mode) (cause : Reason) (s : State) : State :=
  setModeClosed (s.effMode == .closed) (raiseLane .modeChanged (writeFree { s.entry .modeChanged cause none with
    extra := modeExtra old s.effMode s.svc.stationMode } s))

/-- What a change of the effective mode does to the credits, the free period and the leaves (R27, R116, R142, R143). -/
def modeFollowed (old new : Mode) (cause : Reason) (t : State) : State :=
  leavesForMode old (if new = .free then openFree (freeReason cause) (cancelForMode t) else cancelForMode t)

theorem works_modeFollowed (old new : Mode) (cause : Reason) (s : State) :
    Works s (modeFollowed old new cause s) := by
  have hcancelled := works_cancelForMode (.refl s)
  unfold modeFollowed
  split
  · exact works_leavesForMode _ (works_openFree _ hcancelled)
  · exact works_leavesForMode _ hcancelled

theorem modeEffects_of_ne {old : Mode} (cause : Reason) {s : State} (h : s.effMode ≠ old) :
    modeEffects old cause s = modeFollowed old s.effMode cause (modeMarked old cause s) := if_neg h

theorem modeMarked_stays (old : Mode) (cause : Reason) (s : State) : Stays s (modeMarked old cause s) :=
  stays_setReasons _ (stays_raiseLane (by decide) (works_writeFree _ (.refl s)).stays)

theorem modeEffects_stays (old : Mode) (cause : Reason) (s : State) : Stays s (modeEffects old cause s) := by
  by_cases h : s.effMode = old
  · rw [modeEffects, if_pos h]
    exact .refl s
  · rw [modeEffects_of_ne cause h]
    exact (modeMarked_stays old cause s).works (works_modeFollowed ..)

theorem modeMarked_ready {s : State} (old : Mode) (cause : Reason)
    (hs : s.readyBut fun x => { x with modeClosed := s.effMode == .closed }) :
    (modeMarked old cause s).readinessOk := by
  have hwritten := Works.readyBut (works_writeFree { s.entry .modeChanged cause none with
    extra := modeExtra old s.effMode s.svc.stationMode } (.refl s)) (fun _ _ => rfl) hs
  exact setReasons_ready (raiseLane_readyBut .modeChanged hwritten)

/-- MODE_CLOSED is formed of the new mode, and readiness stands. -/
theorem modeEffects_ready {s : State} {old : Mode} (cause : Reason) (hspace : s.spaceJudged) (hbanks : s.banksOk)
    (hold : { s.conditions with modeClosed := old == .closed } = s.svc.reasons) :
    (modeEffects old cause s).readinessOk := by
  by_cases h : s.effMode = old
  · rw [modeEffects, if_pos h]
    exact ⟨by rw [reasonsTold_iff, ← hold, ← h]; rfl, hspace, hbanks⟩
  · rw [modeEffects_of_ne cause h]
    have hready : s.readyBut fun x => { x with modeClosed := s.effMode == .closed } :=
      ⟨congrArg (fun x => ({ x with modeClosed := s.effMode == .closed } : Reasons)) hold, hspace, hbanks⟩
    exact (works_modeFollowed ..).ready (modeMarked_ready old cause hready)

theorem takeEmerg_stays (v : Bool) (s : State) : Stays s (takeEmerg v s) := by
  unfold takeEmerg
  split
  · exact .refl s
  · have hlevel : Stays s (raiseBoth .emergency (s.setSvc { s.svc with emerg := v })) :=
      stays_raiseBoth (by decide) (stays_setSvc id rfl rfl (.refl s))
    exact (hlevel.trans (modeEffects_stays _ _ _)).works (works_settleFree (.refl _))

theorem takeEmerg_ready {v : Bool} {s : State} (hs : s.readinessOk) : (takeEmerg v s).readinessOk := by
  obtain ⟨htold, hspace, hbanks⟩ := id hs
  unfold takeEmerg
  split
  · exact hs
  · exact (works_settleFree (.refl _)).ready
      (modeEffects_ready _ (s := raiseBoth .emergency (s.setSvc { s.svc with emerg := v })) hspace hbanks htold.symm)

end Sys2Proof.Machine
end

section
/-! SUPPORT. The leaves in and out of FAULT, the tracker, the requests and the restart: what each keeps of the records of
O59 and of readiness. -/

namespace Sys2Proof.Machine

/-- Readiness stands as well. -/
structure Meets (s t : State) : Prop extends Stays s t where
  ready : s.readinessOk → t.readinessOk

theorem Meets.refl (s : State) : Meets s s := ⟨.refl s, id⟩

theorem Meets.trans {s t u : State} (h : Meets s t) (h' : Meets t u) : Meets s u :=
  ⟨h.toStays.trans h'.toStays, h'.ready ∘ h.ready⟩

theorem Works.meets {s t : State} (h : Works s t) : Meets s t := ⟨h.stays, h.ready⟩

theorem Meets.works {s t u : State} (h : Meets s t) (h' : Works t u) : Meets s u := h.trans h'.meets

theorem Meets.ite {p : Prop} [Decidable p] {s t u : State} (ht : p → Meets s t) (hu : ¬ p → Meets s u) :
    Meets s (if p then t else u) := by
  split
  next h => exact ht h
  next h => exact hu h

/-! ## FAULT (R140 to R142) -/

/-- The leaves under command again, and the reason LEAF_FAULT gone. -/
theorem commandLeaves_meets (s : State) : Meets s (commandLeaves 0 (setLeafFault false s)) := by
  have hstays : Stays s ((setLeafFault false s).setLfc ((setLeafFault false s).lfc.commanded 0)) :=
    stays_setLfc _ (stays_setReasons _ (.refl s))
  have hready : s.readinessOk →
      ((setLeafFault false s).setLfc ((setLeafFault false s).lfc.commanded 0)).readinessOk := by
    rintro ⟨htold, ⟨hlow, hstop, hjournal⟩, hbanks⟩
    rw [reasonsTold_iff] at htold
    have htold' : ({ s.svc.reasons with leafFault := false } : Reasons) = { s.conditions with leafFault := false } :=
      congrArg (fun x : Reasons => { x with leafFault := false }) htold
    rw [setLeafFault, setReasons_eq]
    exact ⟨htold', ⟨hlow, hstop, hjournal⟩, hbanks⟩
  exact Meets.works ⟨hstays, hready⟩ (works_commandLeaves_of 0 (.refl _))

theorem leaveFault_meets (s : State) : Meets s (leaveFault s) :=
  .ite (fun _ => commandLeaves_meets s) fun _ => .refl s

theorem restartLeaves_meets (s : State) : Meets s (restartLeaves s) :=
  .ite (fun _ => .refl s) fun _ =>
    (works_chanStop .leafMove (works_chanStop .leafHold (.refl s))).meets.trans (commandLeaves_meets _)

theorem faulted_readyBut {s : State} {l : Lfc} (hl : l.leaf = .fault) (hs : s.readinessOk) :
    (s.setLfc l).readyBut fun x => { x with leafFault := true } := by
  obtain ⟨htold, hspace, hbanks⟩ := hs
  rw [reasonsTold_iff] at htold
  refine ⟨?_, hspace, hbanks⟩
  calc (s.setLfc l).conditions = { s.conditions with leafFault := l.leaf == .fault } := rfl
    _ = { s.conditions with leafFault := true } := by rw [hl]; rfl
    _ = _ := congrArg (fun x => ({ x with leafFault := true } : Reasons)) htold.symm

theorem enterFault_meets (cause : Reason) (leaf : Nat) (s : State) : Meets s (enterFault cause leaf s) := by
  have hstopped : Works s (chanStop .leafHold (chanStop .leafMove (leaveOpen s))) :=
    works_chanStop _ (works_chanStop _ (works_leaveOpen (.refl s)))
  unfold enterFault
  generalize chanStop .leafHold (chanStop .leafMove (leaveOpen s)) = t at hstopped ⊢
  dsimp only
  refine Meets.works ⟨stays_setReasons _ ((stays_setLfc _ hstopped.stays).works (works_writeFree _ (.refl _))),
    fun hs => setReasons_ready (r := fun x => { x with leafFault := true })
      ((works_writeFree _ (.refl _)).readyBut (fun _ _ => rfl) ?_)⟩
    (works_toneAlarm (works_raiseBoth (by decide) (works_openFree _ (works_cancelBoth _ (.refl _)))))
  exact faulted_readyBut rfl (hstopped.ready hs)

theorem obstruction_meets (l : Leaf) {s : State} (h : s.lfc.leaf = .closing) : Meets s (obstruction l s) := by
  have hcounted : Works s (s.setLfc { s.lfc with reversalCount := s.lfc.reversalCount + 1, runL := 0, runR := 0 }) :=
    works_setLfc Iff.rfl (.refl s)
  refine .ite (fun _ => hcounted.meets.trans (enterFault_meets ..)) fun _ => ?_
  split
  · exact (works_beginOpening _ _ (by simp [h]) hcounted).meets
  · have hpaused : Works s (pauseClose _) := works_startHold (works_chanStop _ (works_setLfc Iff.rfl hcounted))
    exact hpaused.meets

theorem leaf_setRun (l : Lfc) (n : Nat) (leaf : Leaf) : (l.setRun n leaf).leaf = l.leaf := by cases leaf <;> rfl

theorem leaf_setSw (l : Lfc) (leaf : Leaf) (w : Switch) (v : Option Bool) : (l.setSw leaf w v).leaf = l.leaf := by
  cases leaf <;> cases w <;> rfl

theorem sampleTaken_meets (n : Nat) {s : State} (h : converting s = true) : Meets s (sampleTaken n s) := by
  have hleaf : s.lfc.leaf = .closing := by
    rw [converting, Bool.and_eq_true, beq_iff_eq] at h
    exact h.1
  have hnext : Works s (s.setLfc { s.lfc with nextLeaf := otherLeaf s.lfc.nextLeaf }) :=
    works_setLfc Iff.rfl (.refl s)
  exact .ite (fun _ => hnext.meets) fun _ => .ite (fun _ => hnext.meets.trans (obstruction_meets _ hleaf))
    fun _ => (works_setLfc (by rw [leaf_setRun]) hnext).meets

theorem switchChanged_meets (l : Leaf) (w : Switch) (v : Bool) (s : State) : Meets s (switchChanged l w v s) := by
  have htaken : Works s (s.setLfc (s.lfc.setSw l w (some v))) := works_setLfc (by rw [leaf_setSw]) (.refl s)
  refine .ite (fun _ => .refl s) fun _ => .ite (fun _ => htaken.meets) fun hleaf => ?_
  refine .ite (fun _ => htaken.meets.trans (enterFault_meets ..)) fun _ => ?_
  exact .ite (fun _ => (works_switchTaken _ _ _ hleaf htaken).meets)
    fun _ => .ite (fun _ => (works_lastSwitchTaken hleaf htaken).meets) fun _ => htaken.meets

theorem moveTimeout_meets (s : State) : Meets s (moveTimeout s) := by
  unfold moveTimeout
  split
  case h_4 => exact .refl s
  all_goals exact enterFault_meets ..

/-! ## The tracker (R123 to R125) -/

/-- The tracker changed, then the work of the lane, then the tracker again to where an episode is open while a beam is
blocked. -/
theorem Works.meets_setPcu {s t : State} {x y : Pcu} (h : Works (s.setPcu x) t) (hy : (t.setPcu y).trackerOk) :
    Meets s (t.setPcu y) where
  times := fun ⟨hsetup, hchans, hclock, _, hfilters⟩ =>
    ⟨h.setup ▸ hsetup, h.chans hsetup hchans, h.svc.clockOk hclock, hy, fun i => h.inp ▸ hfilters i⟩
  deny := h.deny
  lane := h.stays.lane
  link := h.stays.link
  touched := h.touched
  ready := h.ready

theorem Works.meets_of_pcu {s t : State} {x : Pcu} (h : Works (s.setPcu x) t) (hx : (s.setPcu x).trackerOk) :
    Meets s t :=
  h.meets_setPcu (y := t.pcu) (h.episode.trans (Eq.trans hx h.beams.symm))

theorem works_episodeStart (s : State) :
    Works (s.setPcu { s.pcu with episode := true, episodeDir := none, farClears := 0 }) (episodeStart s) := by
  have hheld := works_chanHold .windowPu (works_chanHold .windowUp
    (.refl (s.setPcu { s.pcu with episode := true, episodeDir := none, farClears := 0 })))
  have hpositive : s.setup.ok → 0 < s.setup.occupancy * 64 := by
    rintro ⟨-, -, -, -, -, -, ⟨hoccupancy, -⟩, -⟩
    omega
  have hstarted := works_chanStart (i := .occupancy) (r := s.setup.occupancy * 64) (c := 0) (by simpa using hpositive) hheld
  unfold episodeStart
  dsimp only
  split
  · exact works_chanStop _ hstarted
  · exact hstarted

theorem beam_setBeam (p : Pcu) (v : Bool) (b : Beam) : (p.setBeam v b).beam b = v := by cases b <;> rfl

theorem anyBeam_of_beam {s : State} {b : Beam} (h : s.pcu.beam b = true) : s.anyBeam = true := by
  cases b <;> simp_all [State.anyBeam, Pcu.beam]

theorem beamChanged_meets (b : Beam) (v : Bool) (s : State) : Meets s (beamChanged b v s) := by
  unfold beamChanged
  refine .ite (fun _ => .refl s) fun hne => .ite (fun hv => ?_) fun hv => .ite (fun hep => ?_) fun hep => ?_
  · subst hv
    have hany : (s.setPcu (s.pcu.setBeam true b)).anyBeam = true := anyBeam_of_beam (b := b) (beam_setBeam ..)
    split
    next hep => exact (works_directEpisode b (.refl _)).meets_of_pcu (hep.trans hany.symm)
    next hep =>
      have hworks := works_directEpisode b (works_episodeStart (s.setPcu (s.pcu.setBeam true b)))
      exact Works.meets_of_pcu (s := s) hworks (Eq.symm hany)
  · have hcleared := works_beamCleared b (.refl (s.setPcu (s.pcu.setBeam v b)))
    refine .ite (fun hany => ?_) fun hany => ?_
    · exact hcleared.meets_of_pcu (hep.trans (hcleared.beams.symm.trans hany).symm)
    · have hended := works_lfcEmpty (works_auditEpisodeEnd (beamCleared b (s.setPcu (s.pcu.setBeam v b))).pcu.farClears
        (works_chanStop .occupancy (works_chanResume .windowPu (works_chanResume .windowUp hcleared))))
      refine Works.meets_setPcu hended (Eq.symm ?_)
      exact (hended.beams.trans (hcleared.beams.symm.trans (Bool.eq_false_iff.mpr hany)) :)
  · have htrue : s.pcu.beam b = true := by simpa [Bool.eq_false_iff.mpr hv] using hne
    have hfalse : s.pcu.episode = false := by
      rw [← Bool.eq_false_iff.mpr hep]
      cases b <;> rfl
    refine { (Meets.refl s) with times := fun ⟨_, _, _, htracker, _⟩ => ?_ }
    exact absurd (hfalse.symm.trans (Eq.trans htracker (anyBeam_of_beam htrue))) nofun

/-! ## The restart and the requests -/

theorem clearBeamFilters_meets (s : State) : Meets s (clearBeamFilters s) := by
  refine ⟨stays_setInp (fun h i => ?_) (.refl s), id⟩
  have hcleared := clearBeamFilters_of i s
  cases i with
  | beam b => exact (congrArg InFilter.count hcleared).trans_lt (Nat.zero_lt_succ _)
  | switch l w => exact (congrArg InFilter.count hcleared).trans_lt (h _)
  | emerg => exact (congrArg InFilter.count hcleared).trans_lt (h _)

theorem clearTracker_meets (s : State) : Meets s (clearTracker s) := ⟨stays_setPcu (fun _ => rfl) (.refl s), id⟩

theorem hold_meets (v : Bool) (s : State) : Meets s (setHoldReason v (s.setSvc { s.svc with laneHold := v })) :=
  ⟨hold_stays v s, hold_ready v⟩

theorem raiseBoth_meets {c : Cause} (hc : c ≠ .serviceChanged) (s : State) : Meets s (raiseBoth c s) :=
  ⟨stays_raiseBoth hc (.refl s), id⟩

theorem laneRestarted_meets (r : Reason) (s : State) : Meets s (laneRestarted r s) := by
  have hcleared := (clearBeamFilters_meets s).works (works_chanStop .occupancy (works_cancelBoth .restart
    (works_tearSlot .p (works_tearSlot .u (works_writeFree { (clearBeamFilters s).entry .start r none with
      extra := (clearBeamFilters s).rck.w.toNat } (.refl _))))))
  have hsettled := (hcleared.trans (clearTracker_meets _)).works (works_auditStart (.refl _))
  have hleaves := (hsettled.trans (restartLeaves_meets _)).works (works_settleFree (.refl _))
  have hhold := (hleaves.trans (hold_meets false _)).works (works_resetSignals (.refl _))
  exact hhold.trans (raiseBoth_meets (by decide) _)

theorem laneMode_meets (m : Mode) (s : State) : Meets s (takeLaneMode m s) := by
  have hmode : Stays s (s.setSvc { s.svc with stationMode := m }) := stays_setSvc id rfl rfl (.refl s)
  have heffects : Meets s (modeEffects s.effMode .station (s.setSvc { s.svc with stationMode := m })) :=
    ⟨hmode.trans (modeEffects_stays ..), fun ⟨htold, hspace, hbanks⟩ =>
      modeEffects_ready .station hspace hbanks (Eq.symm htold)⟩
  exact (heffects.trans (leaveFault_meets _)).works (works_settleFree (.refl _))

theorem clockSet_meets {new : DayTime} (h : new.inRange = true) (s : State) : Meets s (clockSet new s) :=
  ⟨clockSet_stays h s, clockSet_ready⟩

/-- The reason set and what its notices rest on stand, but the records of the notices may be fetched or masked. -/
theorem setNotices_kept (p : Port) (ns : List Notice) (s : State) :
    (setNotices p ns s).svc = s.svc ∧ (s.readinessOk → (setNotices p ns s).readinessOk)
      ∧ (s.timesOk → (setNotices p ns s).timesOk) ∧ (s.denyOk → (setNotices p ns s).denyOk) := by
  cases p <;> exact ⟨rfl, id, id, id⟩

/-- Readiness and the records are kept. -/
structure Kept (s t : State) : Prop where
  ready : s.readinessOk → t.readinessOk
  times : s.timesOk → t.timesOk
  deny : s.denyOk → t.denyOk

theorem Kept.trans {s t u : State} (h : Kept s t) (h' : Kept t u) : Kept s u :=
  ⟨h'.ready ∘ h.ready, h'.times ∘ h.times, h'.deny ∘ h.deny⟩

theorem Meets.kept {s t : State} (h : Meets s t) : Kept s t := ⟨h.ready, h.times, h.deny⟩

/-- What the run of a request keeps; and it marks a change of the reason set for its notice, or makes none. -/
structure Serves (s t : State) : Prop extends Kept s t where
  tells : Stays s t ∨ t.svc = s.svc

theorem Meets.serves {s t : State} (h : Meets s t) : Serves s t := ⟨h.kept, .inl h.toStays⟩

theorem Works.serves {s t : State} (h : Works s t) : Serves s t := h.meets.serves

section
variable (b : List Byte) (s : State)

theorem works_cardPresentRun : Works s (cardPresentRun b s).1 := by
  unfold cardPresentRun
  split
  · exact works_present _ _ (.refl s)
  · exact .refl s

theorem works_writeOutcomeRun : Works s (writeOutcomeRun b s).1 := by
  unfold writeOutcomeRun
  split
  · exact works_takeOutcome _ _ _ (.refl s)
  · exact .refl s

theorem works_staffPassRun : Works s (staffPassRun b s).1 := by
  unfold staffPassRun
  split
  · split
    · exact .refl s
    · exact works_staffCredit _ (.refl s)
  · exact .refl s

theorem works_cueToneRun : Works s (cueToneRun b s).1 := by
  unfold cueToneRun
  dsimp only
  split
  · exact .refl s
  · exact works_requestTone _ _ (.refl s)

theorem works_journalFetchRun : Works s (journalFetchRun b s).1 := by
  unfold journalFetchRun
  dsimp only
  split <;> exact .refl s

theorem works_journalReleaseRun : Works s (journalReleaseRun b s).1 := by
  unfold journalReleaseRun
  dsimp only
  split
  · exact .refl s
  · exact works_overrunEntry _ (works_judged rfl (.refl s))

theorem works_denyProbeRun : Works s (denyProbeRun b s).1 := by
  unfold denyProbeRun
  dsimp only
  split <;> exact .refl s

theorem works_sightingRun : Works s (sightingRun b s).1 := by
  unfold sightingRun
  dsimp only
  split
  · split_ifs
    · exact .refl s
    · exact .refl s
    · exact works_mergeSighting _ _ (.refl s)
  · exact .refl s

theorem works_auditSetupRun : Works s (auditSetupRun b s).1 := by
  unfold auditSetupRun
  split
  · exact works_setAds _ (.refl s)
  · exact .refl s

theorem works_auditReadRun : Works s (auditReadRun s).1 := by
  unfold auditReadRun
  split <;> exact .refl s

theorem works_auditReleaseRun : Works s (auditReleaseRun s).1 := by
  unfold auditReleaseRun
  split
  · exact works_setAds _ (.refl s)
  · exact .refl s

theorem works_auditTagRun : Works s (auditTagRun s).1 := by
  unfold auditTagRun
  split
  · exact works_setAds _ (.refl s)
  · exact .refl s

theorem denyDeltaRun_meets (p : Port) : Meets s (denyDeltaRun p b s).1 := by
  have hdeny : s.denyOk → (denyDeltaRun p b s).1.denyOk := denyDeltaRun_denyOk p b
  unfold denyDeltaRun at hdeny ⊢
  split at hdeny
  next h =>
    exact ⟨stays_setScu (t := s) (x := (deltaApplied _ _ s).scu) hdeny (.refl s), id⟩
  next h =>
    unfold deltaRefused
    exact .ite (fun _ => (works_raiseStation (by decide) (.refl s)).meets) fun _ => .refl s

theorem denyWiped_meets : Meets s (denyWiped s) := ⟨stays_setScu denyWiped_denyOk (.refl s), id⟩

theorem clockSetRun_meets : Meets s (clockSetRun b s).1 := by
  unfold clockSetRun
  dsimp only
  split
  next h => exact clockSet_meets h s
  next => exact .refl s

theorem laneModeRun_meets : Meets s (laneModeRun b s).1 := by
  unfold laneModeRun
  split
  · exact laneMode_meets _ s
  · exact .refl s

theorem setNotices_serves (p : Port) (ns : List Notice) : Serves s (setNotices p ns s) := by
  obtain ⟨hsvc, hready, htimes, hdeny⟩ := setNotices_kept p ns s
  exact ⟨⟨hready, htimes, hdeny⟩, .inr hsvc⟩

theorem noticeFetchRun_serves (p : Port) : Serves s (noticeFetchRun p b s).1 := by
  unfold noticeFetchRun
  split
  · exact setNotices_serves s p _
  · exact (Works.refl s).serves

theorem noticeMaskRun_serves (p : Port) : Serves s (noticeMaskRun p b s).1 := by
  unfold noticeMaskRun
  dsimp only
  split
  · exact setNotices_serves s p _
  · exact (Works.refl s).serves

end

theorem run_serves {rq : Request} (hrq : rq ∈ allRequests) (p : Port) (b : List Byte) (s : State) :
    Serves s (rq.run p b s).1 := by
  simp only [allRequests, List.mem_cons, List.not_mem_nil, or_false] at hrq
  have hsame : Serves s s := (Works.refl s).serves
  rcases hrq with rfl | rfl | rfl | rfl | rfl | rfl | rfl | rfl | rfl | rfl | rfl | rfl | rfl | rfl | rfl | rfl | rfl
    | rfl | rfl | rfl | rfl | rfl | rfl | rfl | rfl | rfl | rfl | rfl
  · exact (works_cardPresentRun b s).serves
  · exact (works_writeOutcomeRun b s).serves
  · exact (hold_meets true s).serves
  · exact (hold_meets false s).serves
  · exact (works_staffPassRun b s).serves
  · exact (works_cueToneRun b s).serves
  · exact hsame
  · exact noticeFetchRun_serves b s p
  · exact noticeMaskRun_serves b s p
  · exact (laneRestarted_meets _ s).serves
  · exact hsame
  · exact (works_journalFetchRun b s).serves
  · exact (works_journalReleaseRun b s).serves
  · exact (denyDeltaRun_meets b s p).serves
  · exact (denyWiped_meets s).serves
  · exact (works_denyProbeRun b s).serves
  · exact (works_sightingRun b s).serves
  · exact Meets.serves ⟨fareChunkRun_stays b s, fareChunkRun_ready⟩
  · exact Meets.serves ⟨fareCloseRun_stays b s, fareCloseRun_ready⟩
  · exact Meets.serves ⟨fareSwitchRun_stays b s, fareSwitchRun_ready⟩
  · exact (clockSetRun_meets b s).serves
  · exact Meets.serves ⟨loadKey_stays _ s, loadKey_ready⟩
  · exact (laneModeRun_meets b s).serves
  · exact Meets.serves ⟨laneSetupRun_stays b s, laneSetupRun_ready⟩
  · exact (works_auditSetupRun b s).serves
  · exact (works_auditReadRun s).serves
  · exact (works_auditReleaseRun s).serves
  · exact (works_auditTagRun s).serves

end Sys2Proof.Machine
end

section
/-! SUPPORT. Every row over readiness and the records, and the statements that every step keeps them and that a change of
the reason set is told once. -/

namespace Sys2Proof.Machine

/-! ## The rows of the clock, the lines and the channels -/

theorem pinLevel_meets (i : Input) (v : Bool) (s : State) : Meets s (pinLevel i v s) := by
  refine ⟨stays_setInp (fun h j => ?_) (.refl s), id⟩
  show ((pinLevel i v s).inp.of j).count < 30
  rw [pinLevel_of]
  split
  · exact Nat.zero_lt_succ _
  · exact h j

theorem Act.meets {f : State → State} {s : State} (h : Act s f) : Meets s (f s) := by
  have hfru : Meets s (fruTakes s) := ⟨fruTakes_stays s, fruTakes_ready⟩
  cases h with
  | second => exact ⟨secondTaken_stays s, secondTaken_ready⟩
  | fares => exact hfru
  | marks => exact hfru.works (works_marksTake (.refl _))
  | tears => exact hfru.works (works_tearsTake (.refl _))
  | emergency v => exact (pinLevel_meets .emerg v s).trans ⟨takeEmerg_stays v _, takeEmerg_ready⟩
  | beam b v => exact (pinLevel_meets (.beam b) v s).trans (beamChanged_meets b v _)
  | switch l w v => exact (pinLevel_meets (.switch l w) v s).trans (switchChanged_meets l w v _)
  | sample n h => exact sampleTaken_meets n h
  | warning d => exact (works_setHurry d true (works_takeCompare _ (.refl s))).meets
  | expiry d => exact (works_expireHead d (works_takeUnderflow _ (.refl s))).meets
  | wait x => exact (works_writeWaitEnds x (works_takeUnderflow _ (.refl s))).meets
  | hold => exact (works_holdEnds (works_takeUnderflow _ (.refl s))).meets
  | move => exact (works_takeUnderflow .leafMove (.refl s)).meets.trans (moveTimeout_meets _)
  | occupied => exact (works_raiseLane (by decide) (works_takeUnderflow .occupancy (.refl s))).meets
  | silence => exact (works_setSgu _ (works_takeCompare .signal (.refl s))).meets
  | segment => exact (works_signalEnds (works_takeUnderflow .signal (.refl s))).meets
  | lapse x => cases x <;> exact (works_setSgu _ (.refl s)).meets
  | read n => exact ⟨⟨id, id, rfl, rfl, (Stays.refl s).touched⟩, id⟩

theorem finish_kept (s : State) : Kept s (finish s) := by
  unfold finish raiseService
  split <;> exact ⟨id, id, id⟩

theorem PortsOnly.kept {s t : State} (h : PortsOnly s t) : Kept s t := by
  obtain ⟨p, x, rfl⟩ := h
  exact ⟨id, id, id⟩

theorem Handled.kept {s t : State} (h : Handled s t) : Kept s t := by
  cases h with
  | ports h => exact h.kept
  | run hrq p b hu hv => exact (hu.kept.trans (run_serves hrq p b _).toKept).trans hv.kept

theorem dividerTick_kept (s : State) : Kept s (dividerTick s) where
  ready := id
  deny := id
  times := by
    rintro ⟨hsetup, hchans, ⟨hphase, hclock⟩, hrest⟩
    refine ⟨hsetup, hchans, ⟨?_, hclock⟩, hrest⟩
    show (if s.svc.phase = 63 then 0 else s.svc.phase + 1) < 64
    split <;> omega

theorem ticked_ok {c : Channel} (periodic : Bool) (h : c.ok) : (c.ticked periodic).ok := by
  obtain ⟨hcount, hcompare, hstopped, hpositive⟩ := id h
  unfold Channel.ticked
  split
  next hrun =>
    have hpos := hpositive (by simp [hrun])
    dsimp only
    split_ifs
    · refine ⟨le_rfl, hcompare, fun h => ?_, fun _ => ?_⟩
      · exact absurd (hrun.symm.trans h) nofun
      · show 0 < c.reload
        omega
    · exact ⟨Nat.zero_le _, hcompare, fun _ => rfl, fun h => absurd rfl h⟩
    · refine ⟨?_, hcompare, fun h => absurd (hrun.symm.trans h) nofun, fun _ => ?_⟩ <;> dsimp only <;> omega
    · refine ⟨?_, hcompare, fun h => absurd (hrun.symm.trans h) nofun, fun _ => ?_⟩ <;> dsimp only <;> omega
  next => exact h

theorem chan_ticked (i : ChanId) (s : State) :
    (s.setLtu s.ltu.ticked).chan i = (s.chan i).ticked (decide (i = .signal)) := by cases i <;> rfl

theorem ticked_kept (s : State) : Kept s (s.setLtu s.ltu.ticked) where
  ready := id
  deny := id
  times := fun ⟨hsetup, hchans, hrest⟩ => ⟨hsetup, fun i => by rw [chan_ticked]; exact ticked_ok _ (hchans i), hrest⟩

theorem secondRetained_kept (s : State) : Kept s (secondRetained s) := by
  unfold secondRetained
  dsimp only
  split
  next hknown =>
    refine ⟨id, ?_, id⟩
    rintro ⟨hsetup, hchans, hclock, hrest⟩
    exact ⟨hsetup, hchans, nextClock_ok (s := s.setSvc { s.svc with secondsDue := s.svc.secondsDue - 1 }) hknown hclock,
      hrest⟩
  next => exact ⟨id, id, id⟩

theorem Effect.kept {s t : State} (h : Effect s t) : Kept s t := by
  cases h with
  | quiet hports _ _ => exact hports.kept
  | handled h => exact h.kept.trans (finish_kept _)
  | acted h => exact h.meets.kept.trans (finish_kept _)
  | retainedTick => exact dividerTick_kept s
  | tick => exact (dividerTick_kept s).trans (ticked_kept (dividerTick s))
  | retainedSecond => exact secondRetained_kept s
  | unpowered => exact ⟨id, id, id⟩

/-! ## A change of the reason set (R29) -/

theorem finish_lpt_same (s : State) : SameNotice .serviceChanged (s.told s.lpt.notices) (finish s).lpt.notices := by
  simp only [finish, formAttn, formLamps, raiseService, State.told]
  split <;> rfl

/-- A change that waits for its notice is told once in both sets. -/
theorem Stays.told_once {s t : State} (h : Stays s t) (hne : (finish t).svc.reasons ≠ s.svc.reasons) :
    raisedOnce .serviceChanged s.lpt.notices (finish t).lpt.notices
      ∧ raisedOnce .serviceChanged s.stl.notices (finish t).stl.notices := by
  rw [finish_svc] at hne
  have htold : ∀ ns, t.told ns = raiseIn .serviceChanged ns := fun ns => if_pos (h.touched (.inr hne))
  have hlane := finish_lpt_same t
  rw [htold] at hlane
  exact ⟨raisedOnce_of_same h.lane hlane, raisedOnce_of_same h.link (by rw [finish_stl, htold]; rfl)⟩

theorem tells_of_ports {s u t v : State} (hu : PortsOnly s u) (h : Stays u t ∨ t.svc = u.svc) (hv : PortsOnly t v) :
    Stays s v ∨ v.svc = s.svc := by
  obtain ⟨p, x, rfl⟩ := hu
  obtain ⟨p', x', rfl⟩ := hv
  refine h.imp (fun h => ?_) id
  exact ⟨h.times, h.deny, h.lane, h.link, h.touched⟩

theorem Handled.tells {s t : State} (h : Handled s t) : Stays s t ∨ t.svc = s.svc := by
  cases h with
  | ports h =>
    obtain ⟨p, x, rfl⟩ := h
    exact .inr rfl
  | run hrq p b hu hv => exact tells_of_ports hu (run_serves hrq p b _).tells hv

/-- Settles O60: a row either marks a change of the reason set, and the end of its event raises the notice once in each
set, or it leaves the set alone. -/
theorem serviceChangeIsToldOnce : Obligations.ServiceChangeIsToldOnce := by
  intro c s t hcold hwarm hformed hexec hne
  obtain ⟨u, hexec', heffect⟩ := exec_effect c s hcold hwarm
  obtain rfl : u = t := by simpa using hexec'.symm.trans hexec
  cases heffect with
  | quiet hports _ _ =>
    obtain ⟨p, x, rfl⟩ := hports
    exact absurd rfl hne
  | handled h =>
    rcases h.tells with hstays | hsvc
    · exact hstays.told_once hne
    · exact absurd (by rw [finish_svc, hsvc]) hne
  | acted h => exact h.meets.toStays.told_once hne
  | retainedTick => exact absurd rfl hne
  | tick => exact absurd rfl hne
  | retainedSecond =>
    refine absurd ?_ hne
    unfold secondRetained
    dsimp only
    split <;> rfl
  | unpowered => exact absurd rfl hne

/-! ## Starts and sense ticks -/

theorem coldStarted_ok (a : BitVec 6) (r : BitVec 2) (s : State) :
    (coldStarted a r s).readinessOk ∧ (coldStarted a r s).timesOk ∧ (coldStarted a r s).denyOk := by
  obtain ⟨hsetup, hchans, hclock, htracker, -⟩ := reset_timesOk
  refine ⟨reset_readinessOk, ⟨hsetup, hchans, hclock, htracker, fun i => ?_⟩, reset_denyOk⟩
  rw [coldStarted_of]
  exact Nat.zero_lt_succ _

theorem warmOpened_stays (a : BitVec 6) (r : BitVec 2) (s : State) :
    (s.timesOk → (warmOpened a r s).timesOk) ∧ (s.denyOk → (warmOpened a r s).denyOk) := by
  refine ⟨fun ⟨hsetup, hchans, hclock, htracker, _⟩ => ⟨hsetup, hchans, hclock, htracker, fun i => ?_⟩, id⟩
  simp [warmOpened, clearFilters, InFilter.cleared]

theorem settleLane_stays (r : Reason) (s : State) : Meets s (settleLane r s) :=
  ((works_chanStop .occupancy (works_cancelBoth r (works_tearSlot .p (works_tearSlot .u (.refl s))))).meets.trans
    (clearTracker_meets _)).works (works_auditStart (.refl _))

theorem works_warmFree (s : State) : Works s (warmFree s) := by
  unfold warmFree
  dsimp only
  split_ifs
  · exact works_openFree _ (works_closeFree (.refl s))
  · exact works_closeFree (.refl s)
  · exact works_openFree _ (.refl s)
  · exact .refl s

theorem warmSettled_stays (a : BitVec 6) (r : BitVec 2) (s : State) :
    Stays (warmOpened a r s) (warmSettled a r s) :=
  (((works_writeFree _ (.refl _)).meets.trans (settleLane_stays .warmStart _)).works (works_warmFree _)).toStays

theorem warmDriven_chan_ok (s : State) (i : ChanId) : ((warmDriven s).chan i).ok := by
  have hreset : Channel.reset.ok := ⟨le_rfl, .inl rfl, fun _ => rfl, fun h => absurd rfl h⟩
  rw [warmDriven_eq]
  cases i with
  | signal => exact stop_ok hreset
  | _ => exact hreset

theorem warmFormed_spaceJudged (s : State) : (warmFormed (warmDriven s)).spaceJudged := by
  have hrjn : (warmFormed (warmDriven s)).rjn = (judgeSpace (warmDriven s)).rjn := by
    simp [warmFormed_eq, warmService, warmJudged, forgetSpace]
  have hfree : (warmFormed (warmDriven s)).free = (judgeSpace (warmDriven s)).free := by
    simp only [State.free, hrjn]
  refine ⟨?_, ?_, ?_⟩
  · rw [hfree, hrjn, judgeSpace_free, judgeSpace_rjn]
  · rw [hfree, hrjn, judgeSpace_free, judgeSpace_rjn]
  · rw [show (warmFormed (warmDriven s)).svc.reasons = _ from warmFormed_reasonsTold s]

theorem warmStarted_ok (a : BitVec 6) (r : BitVec 2) (s : State) : Kept s (warmStarted a r s) := by
  rw [warmStarted_eq]
  obtain ⟨htimes, hdeny⟩ := warmOpened_stays a r s
  have hsettled := warmSettled_stays a r s
  obtain ⟨-, -, -, -, hfru, -, -, -⟩ := warmSettled_keeps a r s
  generalize warmSettled a r s = w at hsettled hfru ⊢
  obtain ⟨-, -, hsetup, -, -, hfru', hscu, hpcu, -, -, hinp, -, -, -⟩ := warmFormed_keeps w
  have hsvc := warmFormed_svc w
  refine ⟨fun ⟨_, _, hbanks⟩ => ⟨warmFormed_reasonsTold w, warmFormed_spaceJudged w, ?_⟩, fun hs => ?_, fun hs => ?_⟩
  · unfold State.banksOk State.standbyBank at hbanks ⊢
    rw [hfru', hfru]
    exact hbanks
  · obtain ⟨hsetup', -, hclock, htracker, hfilters⟩ := hsettled.times (htimes hs)
    refine ⟨hsetup ▸ hsetup', fun i => ?_, ?_, ?_, fun i => hinp ▸ hfilters i⟩
    · have hchan : (warmFormed (warmDriven w)).chan i = (warmDriven w).chan i := by
        simp [State.chan, warmFormed_eq, warmService, warmJudged, forgetSpace]
      exact hchan ▸ warmDriven_chan_ok w i
    · unfold State.clockOk at hclock ⊢
      rw [hsvc]
      exact hclock
    · unfold State.trackerOk State.anyBeam at htracker ⊢
      rw [hpcu]
      exact htracker
  · have hdeny' := hsettled.deny (hdeny hs)
    unfold State.denyOk State.denyListed State.localsListed at hdeny' ⊢
    rw [hscu]
    exact hdeny'

/-! ## The statements -/

theorem filterLength_le {s : State} (h : s.setup.ok) (i : Input) : filterLength s i ≤ 30 := by
  obtain ⟨-, -, -, -, -, -, -, ⟨-, hwidth, -⟩, -⟩ := h
  cases i <;> dsimp only [filterLength] <;> omega

theorem senseTick_kept (s : State) : Kept s (senseTick s) where
  ready := id
  deny := id
  times := by
    rintro ⟨hsetup, hchans, hclock, htracker, -⟩
    refine ⟨hsetup, hchans, hclock, htracker, fun i => ?_⟩
    have hlength := filterLength_le hsetup i
    have hcount : ((senseTick s).inp.of i).count
        = if differs s i && !changesNow s i then (s.inp.of i).count + 1 else 0 :=
      congrArg InFilter.count (Inputs.of_each (filterTicked s) i)
    rw [hcount]
    split
    next h =>
      simp only [changesNow, Bool.and_eq_true, Bool.not_eq_true', Bool.and_eq_false_iff, decide_eq_false_iff_not] at h
      obtain ⟨hdiffers, hnot⟩ := h
      have hshort := hnot.resolve_left (by simp [hdiffers])
      omega
    next => exact Nat.zero_lt_succ _

theorem Stepped.ready {s t : State} (h : Stepped s t) (hs : s.readinessOk) : t.readinessOk := by
  cases h with
  | idle _ => exact hs
  | sensed _ => exact (senseTick_kept s).ready hs
  | cold q a r => exact (coldStarted_ok a r _).1
  | warm q a r => exact (warmStarted_ok a r _).ready (s := s.setPending q) hs
  | row q h => exact h.kept.ready (s := s.setPending q) hs

theorem Stepped.records {s t : State} (h : Stepped s t) : (s.timesOk → t.timesOk) ∧ (s.denyOk → t.denyOk) := by
  cases h with
  | idle _ => exact ⟨id, id⟩
  | sensed _ => exact ⟨(senseTick_kept s).times, (senseTick_kept s).deny⟩
  | cold q a r =>
    obtain ⟨-, htimes, hdeny⟩ := coldStarted_ok a r (s.setPending q)
    exact ⟨fun _ => htimes, fun _ => hdeny⟩
  | warm q a r => exact ⟨(warmStarted_ok a r (s.setPending q)).times, (warmStarted_ok a r (s.setPending q)).deny⟩
  | row q h => exact ⟨h.kept.times, h.kept.deny⟩

/-- Settles O58: each row keeps the reasons equal to their conditions, and each start forms them. -/
theorem stepKeepsReadiness : Obligations.StepKeepsReadiness := fun _ _ hs hstep => (step_stepped hstep).ready hs

/-- Settles O59: each row keeps the records, a sense tick counts below the filter's length, and each start sets them. -/
theorem stepKeepsRecords : Obligations.StepKeepsRecords := fun _ _ hstep => (step_stepped hstep).records

end Sys2Proof.Machine
end

section
/-! SUPPORT. The sense tick (R121). -/

namespace Sys2Proof.Machine

theorem eitherOrder_perm (now : Nat) (l : List Instr) : (eitherOrder now l).Perm l := by
  match l with
  | [] => exact .refl _
  | [c] => exact .refl _
  | c :: d :: rest =>
    show (if Config.senseReversed now then (c :: d :: rest).reverse else c :: d :: rest).Perm (c :: d :: rest)
    split
    · exact List.reverse_perm _
    · exact .refl _

theorem mem_allInputs (i : Input) : i ∈ allInputs := by
  cases i with
  | beam b => cases b <;> decide
  | switch l w => cases l <;> cases w <;> decide
  | emerg => decide

theorem allInputs_nodup : allInputs.Nodup := by decide

/-- A change event names its input, and its level. -/
theorem changeEvent_inj {v w : Bool} {i j : Input} (h : changeEvent v i = changeEvent w j) : i = j := by
  cases i <;> cases j <;> simp_all [changeEvent]

theorem changeEvent_mem_senseEvents (s : State) (i : Input) :
    changeEvent (s.inp.of i).raw i ∈ senseEvents s ↔ changesNow s i = true := by
  rw [senseEvents, List.mem_map]
  constructor
  · rintro ⟨j, hj, heq⟩
    exact changeEvent_inj heq ▸ (List.mem_filter.mp hj).2
  · exact fun h => ⟨i, List.mem_filter.mpr ⟨mem_allInputs i, h⟩, rfl⟩

theorem senseEvents_nodup (s : State) : (senseEvents s).Nodup :=
  (allInputs_nodup.filter _).map_on fun _ _ _ _ h => changeEvent_inj h

/-- What a sense tick hands on: the change event of each input that changes now, once, and no others. -/
theorem senseTick_pending {s : State} (h : s.pending = []) : (senseTick s).pending.Perm (senseEvents s) := by
  obtain ⟨-, hpending⟩ := senseTick_eq s
  rw [hpending, h]
  exact eitherOrder_perm _ _

theorem filter_senseTick (s : State) (i : Input) : (senseTick s).inp.of i = filterTicked s i :=
  Inputs.of_each (filterTicked s) i

/-- Settles O2: the step of an empty queue is a sense tick, which counts every filter and hands on the events of the
inputs that reach their length. -/
theorem senseTickFilters : Obligations.SenseTickFilters := by
  intro s hpending hpowered
  have hperm := senseTick_pending hpending
  refine ⟨senseTick s, by simp [step, hpending, hpowered], ?_, fun c hc => ?_, fun i => ?_⟩
  · simp [keepsBut, Part.forall_iff, Part.same, senseTick]
  · obtain ⟨i, -, rfl⟩ := List.mem_map.mp (hperm.mem_iff.mp hc)
    exact ⟨i, rfl⟩
  · have hmem := hperm.mem_iff.trans (changeEvent_mem_senseEvents s i)
    have hfilter : (senseTick s).inp.of i
        = { s.inp.of i with count := if differs s i && !changesNow s i then (s.inp.of i).count + 1 else 0 } :=
      filter_senseTick s i
    intro f length
    have hnow : changesNow s i = (differs s i && decide (length ≤ f.count + 1)) := rfl
    have hdiffers : s.level i ≠ some f.raw → differs s i = true := fun h => bne_iff_ne.mpr h
    refine ⟨fun hsame => ?_, fun hne hshort => ?_, fun hne hlong => ?_⟩
    · have hequal : differs s i = false := by rw [differs, hsame]; exact bne_self_eq_false _
      rw [hequal, Bool.false_and] at hnow
      rw [hfilter, hmem, hequal, hnow]
      exact ⟨rfl, nofun⟩
    · rw [hdiffers hne, decide_eq_false (by omega), Bool.and_false] at hnow
      rw [hfilter, hmem, hdiffers hne, hnow]
      exact ⟨rfl, nofun⟩
    · rw [hdiffers hne, decide_eq_true hlong, Bool.and_self] at hnow
      rw [hfilter, hdiffers hne, hnow]
      exact ⟨rfl, List.count_eq_one_of_mem (hperm.nodup_iff.mpr (senseEvents_nodup s)) (hmem.mpr hnow)⟩

end Sys2Proof.Machine
end

section
/-! SUPPORT. Ticks and seconds (R17 to R19, R104), and what a second that is handed on takes. -/

namespace Sys2Proof.Machine

/-! ## Ticks -/

/-- A running channel with more than 1 to go counts down, and hands its compare event at a compare value above 0. -/
theorem ticked_running {c : Channel} (p : Bool) (hrun : c.state = .running) (hcount : 1 < c.count) :
    c.ticked p = { c with
      count := c.count - 1, compareDue := c.compareDue || (0 < c.compare && c.count - 1 = c.compare) } := by
  have hne : c.count - 1 ≠ 0 := by omega
  unfold Channel.ticked
  rw [hrun]
  dsimp only
  rw [if_neg hne]
  split
  next hcompare => simp [hcompare, show 0 < c.compare by omega]
  next hcompare => simp [hcompare]

theorem ticked_last {c : Channel} (p : Bool) (hrun : c.state = .running) (hcount : c.count = 1) :
    c.ticked p = if p = true then { c with count := c.reload, underflowDue := true }
      else { c with count := 0, state := .stopped, underflowDue := true } := by
  unfold Channel.ticked
  rw [hrun, hcount]
  rfl

theorem ticked_still {c : Channel} (p : Bool) (hstate : c.state ≠ .running) : c.ticked p = c := by
  unfold Channel.ticked
  split
  next hrun => exact absurd hrun hstate
  next => rfl

/-! ## What a handed second takes -/

/-- The service stands but for the reason set and its mark. -/
def Svc.Regarded (v v' : Svc) : Prop :=
  v' = { v with reasons := v'.reasons, serviceTouched := v'.serviceTouched }

theorem Svc.Regarded.refl (v : Svc) : v.Regarded v := rfl

theorem Svc.Regarded.trans {v v' v'' : Svc} (h : v.Regarded v') (h' : v'.Regarded v'') : v.Regarded v'' := by
  unfold Svc.Regarded at h h' ⊢
  rw [h', h]

theorem Svc.Judged.regarded {v v' : Svc} (h : v.Judged v') : v.Regarded v' := by
  unfold Svc.Judged at h
  unfold Svc.Regarded
  rw [h]

theorem Svc.Regarded.now {s t : State} (h : s.svc.Regarded t.svc) : t.now = s.now := by
  rw [State.now, show t.svc = _ from h]
  rfl

theorem Svc.Regarded.reached {s t : State} (h : s.svc.Regarded t.svc) (d : DayTime) : t.reached d = s.reached d := by
  rw [State.reached, h.now, State.reached]

theorem setReasons_regarded (r : Reasons) (s : State) : s.svc.Regarded (setReasons r s).svc := by
  rw [setReasons_eq]
  rfl

theorem swapBanks_regarded (r : Reason) (s : State) : s.svc.Regarded (swapBanks r s).svc := by
  have hwritten := fun e => (writeFree_judged e (s.setFru { s.fru with active := s.fru.active.other })).regarded
  unfold swapBanks
  split
  · exact hwritten _
  · exact (hwritten _).trans (setReasons_regarded _ _)

theorem fruTakes_regarded (s : State) : s.svc.Regarded (fruTakes s).svc := by
  unfold fruTakes takeTimedSwitch
  split
  · split
    · split
      · exact swapBanks_regarded .timed (setPendingSwitch none (s.setFru { s.fru with secondHanded := false }))
      · rfl
    · rfl
  · rfl

theorem takeHanded_regarded (s : State) : s.svc.Regarded (takeHanded s).svc :=
  (fruTakes_regarded s).trans (works_tearsTake (works_marksTake (.refl (fruTakes s)))).svc.regarded

theorem fru_swapBanks (r : Reason) (s : State) : (swapBanks r s).fru = { s.fru with active := s.fru.active.other } := by
  unfold swapBanks
  dsimp only
  split <;> simp

theorem takeTimedSwitch_reached {s : State} {d : DayTime} (hpending : s.fru.pendingSwitch = some d)
    (hreached : s.reached d = true) : takeTimedSwitch s = swapBanks .timed (setPendingSwitch none s) := by
  rw [takeTimedSwitch, hpending]
  exact if_pos hreached

/-- A second handed to FRU takes the timed switch that the time has reached (R64). -/
theorem fruTakes_reached {s : State} {d : DayTime} (hhanded : s.fru.secondHanded = true)
    (hpending : s.fru.pendingSwitch = some d) (hreached : s.reached d = true) :
    fruTakes s = swapBanks .timed (s.setFru { s.fru with secondHanded := false, pendingSwitch := none }) := by
  rw [fruTakes, if_pos hhanded]
  exact takeTimedSwitch_reached (s := s.setFru { s.fru with secondHanded := false }) hpending hreached

/-- Nothing of a timed switch that is not reached, or not asked for, is taken. -/
theorem fruTakes_still {s : State} (h : s.fru.secondHanded = true → ∀ d, s.fru.pendingSwitch = some d → s.reached d = false) :
    fruTakes s = s.setFru { s.fru with secondHanded := false } := by
  unfold fruTakes
  split
  next hhanded =>
    unfold takeTimedSwitch
    split
    next d hpending =>
      have hlate : (s.setFru { s.fru with secondHanded := false }).reached d = false := h hhanded d hpending
      rw [hlate]
      rfl
    next => rfl
  next hhanded =>
    have hfalse : s.fru.secondHanded = false := by simpa using hhanded
    rw [← hfalse]
    rfl

theorem secondHanded_fruTakes (s : State) : (fruTakes s).fru.secondHanded = false := by
  by_cases h : s.fru.secondHanded = true ∧ ∃ d, s.fru.pendingSwitch = some d ∧ s.reached d = true
  · obtain ⟨hhanded, d, hpending, hreached⟩ := h
    rw [fruTakes_reached hhanded hpending hreached, fru_swapBanks]
    rfl
  · rw [fruTakes_still fun hhanded d hpending => Bool.eq_false_iff.mpr fun hr => h ⟨hhanded, d, hpending, hr⟩]
    rfl

theorem fru_takeHanded (s : State) : (takeHanded s).fru = (fruTakes s).fru := by
  simp [takeHanded]

/-! ## The sighting table (R94, R95) -/

/-- The tracker stands but for the sightings and the order of their marks. -/
def Scu.Sighted (x x' : Scu) : Prop := x' = { x with sightings := x'.sightings, markOrder := x'.markOrder }

theorem Scu.Sighted.refl (x : Scu) : x.Sighted x := rfl

theorem Scu.Sighted.trans {x x' x'' : Scu} (h : x.Sighted x') (h' : x'.Sighted x'') : x.Sighted x'' := by
  unfold Scu.Sighted at h h' ⊢
  rw [h', h]

theorem expireMarks_sighted (s : State) : s.scu.Sighted (expireMarks s).scu := by
  unfold expireMarks
  generalize List.map Sighting.card (List.filter (markDue s) s.scu.sightings) = l
  induction l generalizing s with
  | nil => rfl
  | cons c l ih => exact Scu.Sighted.trans (x' := (dropMark c s).scu) rfl (ih (dropMark c s))

theorem unresolveTear_sighted (c : Nat) (r : Tear) (s : State) : s.scu.Sighted (unresolveTear c r s).scu := by
  simp only [Scu.Sighted, unresolveTear, dropTear, release1_frame, setScu_scu, writeReserved_frame]

theorem expireTearsN_sighted (n : Nat) (s : State) : s.scu.Sighted (expireTearsN n s).scu := by
  induction n generalizing s with
  | zero => rfl
  | succ n ih =>
    unfold expireTearsN
    split
    · exact (unresolveTear_sighted _ _ s).trans (ih _)
    · rfl

theorem marksTake_sighted (s : State) : { s.scu with marksHanded := false }.Sighted (marksTake s).scu := by
  unfold marksTake
  split
  · exact expireMarks_sighted (s.setScu { s.scu with marksHanded := false })
  next h =>
    have hfalse : s.scu.marksHanded = false := by simpa using h
    rw [← hfalse]
    rfl

theorem tearsTake_sighted (s : State) : { s.scu with tearsHanded := false }.Sighted (tearsTake s).scu := by
  unfold tearsTake
  split
  · exact expireTearsN_sighted _ (s.setScu { s.scu with tearsHanded := false })
  next h =>
    have hfalse : s.scu.tearsHanded = false := by simpa using h
    rw [← hfalse]
    rfl

/-- What the deadlines of the marks and the pending-tears take: neither is handed any more, and only the sightings
differ. -/
theorem takeHanded_scu (s : State) : { s.scu with marksHanded := false, tearsHanded := false }.Sighted (takeHanded s).scu := by
  have hmarks : { s.scu with marksHanded := false }.Sighted (marksTake (fruTakes s)).scu := by
    have hscu : (fruTakes s).scu = s.scu := by simp
    exact hscu ▸ marksTake_sighted (fruTakes s)
  have htears := tearsTake_sighted (marksTake (fruTakes s))
  unfold Scu.Sighted at hmarks htears ⊢
  rw [show takeHanded s = tearsTake (marksTake (fruTakes s)) from rfl, htears, hmarks]

/-- With nothing handed nothing is taken. -/
theorem takeHanded_still {s : State} (hfru : s.fru.secondHanded = false) (hmarks : s.scu.marksHanded = false)
    (htears : s.scu.tearsHanded = false) : takeHanded s = s := by
  have hfares : fruTakes s = s := by simp [fruTakes, hfru]
  have hmarked : marksTake s = s := by simp [marksTake, hmarks]
  rw [takeHanded, hfares, hmarked]
  simp [tearsTake, htears]

/-! ## Seconds -/

/-- The state that a second leaves: what was handed is taken, and a known clock goes on and is handed on. -/
theorem secondTaken_eq (s : State) : secondTaken s =
    if s.svc.timeKnown then
      handSecond (setClock s.now.next ((takeHanded s).setSvc
        { (takeHanded s).svc with secondsDue := s.svc.secondsDue - 1 }))
    else (takeHanded s).setSvc { (takeHanded s).svc with secondsDue := s.svc.secondsDue - 1 } := by
  have hregarded := takeHanded_regarded s
  have hknown : (takeHanded s).svc.timeKnown = s.svc.timeKnown := by rw [show (takeHanded s).svc = _ from hregarded]
  have hdue : (takeHanded s).svc.secondsDue = s.svc.secondsDue := by rw [show (takeHanded s).svc = _ from hregarded]
  rw [← hknown, ← hregarded.now, ← hdue]
  rfl

theorem secondTaken_keeps (s : State) : keepsBut [.svc, .fru, .scu, .rjn, .lpt, .stl, .sgu] s (finish (secondTaken s)) := by
  rw [secondTaken_eq]
  split <;> simp [keepsBut, Part.forall_iff, Part.same, handSecond, setClock, takeHanded]

theorem DayTime.next_eq (t : DayTime) :
    t.next.secs = (if t.secs + 1 < 86400 then t.secs + 1 else 0)
      ∧ t.next.day = if t.secs + 1 < 86400 then t.day else if t.day < 65534 then t.day + 1 else t.day := by
  unfold DayTime.next
  split <;> exact ⟨rfl, rfl⟩

/-- The service record after a second at a known or an unknown time (R19). -/
def Svc.afterSecond (v : Svc) : Svc :=
  { v with
    secondsDue := v.secondsDue - 1
    secs := if v.timeKnown = false then v.secs else if v.secs + 1 < 86400 then v.secs + 1 else 0
    day := if v.timeKnown = false ∨ v.secs + 1 < 86400 then v.day
      else if v.day < 65534 then v.day + 1 else v.day }

/-- A second of a known clock, and one of an unknown clock, as one change of the service record. -/
theorem afterSecond_eq (v : Svc) : v.afterSecond =
    if v.timeKnown then
      { v with
        secondsDue := v.secondsDue - 1, day := (DayTime.next ⟨v.day, v.secs⟩).day
        secs := (DayTime.next ⟨v.day, v.secs⟩).secs }
    else { v with secondsDue := v.secondsDue - 1 } := by
  obtain ⟨hsecs, hday⟩ := DayTime.next_eq ⟨v.day, v.secs⟩
  cases hknown : v.timeKnown with
  | true => simp [Svc.afterSecond, hknown, hsecs, hday]
  | false => simp [Svc.afterSecond, hknown]

theorem secondRetained_eq (s : State) : secondRetained s = s.setSvc s.svc.afterSecond := by
  rw [afterSecond_eq]
  by_cases hknown : s.svc.timeKnown = true
  · rw [if_pos hknown]
    exact if_pos hknown
  · rw [if_neg hknown]
    exact if_neg hknown

theorem secondTaken_svc (s : State) : s.svc.afterSecond.Regarded (secondTaken s).svc := by
  have hregarded := takeHanded_regarded s
  rw [secondTaken_eq, afterSecond_eq]
  split
  · show Svc.Regarded _ { (takeHanded s).svc with
      secondsDue := s.svc.secondsDue - 1, day := s.now.next.day, secs := s.now.next.secs }
    rw [show (takeHanded s).svc = _ from hregarded]
    rfl
  · show Svc.Regarded _ { (takeHanded s).svc with secondsDue := s.svc.secondsDue - 1 }
    rw [show (takeHanded s).svc = _ from hregarded]
    rfl

theorem secondTaken_handed (s : State) : let t := secondTaken s
    t.fru.secondHanded = s.svc.timeKnown ∧ t.scu.marksHanded = s.svc.timeKnown ∧ t.scu.tearsHanded = s.svc.timeKnown
      ∧ t.fru.pendingSwitch = (fruTakes s).fru.pendingSwitch ∧ t.fru.active = (fruTakes s).fru.active := by
  intro t
  have ht : t = secondTaken s := rfl
  have hfru := fru_takeHanded s
  have hscu : (takeHanded s).scu = _ := takeHanded_scu s
  rw [secondTaken_eq] at ht
  cases hknown : s.svc.timeKnown with
  | true =>
    rw [hknown, if_pos rfl] at ht
    have hfru' : t.fru = { (takeHanded s).fru with secondHanded := true } := by rw [ht]; rfl
    have hscu' : t.scu = { (takeHanded s).scu with marksHanded := true, tearsHanded := true } := by rw [ht]; rfl
    rw [hfru', hscu', hfru]
    exact ⟨rfl, rfl, rfl, rfl, rfl⟩
  | false =>
    rw [hknown, if_neg nofun] at ht
    have hfru' : t.fru = (takeHanded s).fru := by rw [ht]; rfl
    have hscu' : t.scu = (takeHanded s).scu := by rw [ht]; rfl
    rw [hfru', hscu', hfru, hscu]
    exact ⟨secondHanded_fruTakes s, rfl, rfl, rfl, rfl⟩

theorem exec_second {s : State} (hdue : 0 < s.svc.secondsDue) :
    exec .second s = .next (if s.powered then finish (secondTaken s) else secondRetained s) :=
  congrArg Host.Outcome.next (if_neg (Nat.pos_iff_ne_zero.mp hdue))

/-- The second of a powered lane, an earlier one taken first (R19). -/
theorem second_goes_on {s : State} (hpowered : s.powered = true) (hdue : 0 < s.svc.secondsDue) :
    ∃ t, exec .second s = .next t
    ∧ keepsBut [.svc, .fru, .scu, .rjn, .lpt, .stl, .sgu] s t ∧ t.svc.secondsDue + 1 = s.svc.secondsDue
    ∧ t.svc.timeKnown = s.svc.timeKnown
    ∧ t.svc.secs = (if s.svc.timeKnown = false then s.svc.secs
        else if s.svc.secs + 1 < 86400 then s.svc.secs + 1 else 0)
    ∧ t.svc.day = (if s.svc.timeKnown = false ∨ s.svc.secs + 1 < 86400 then s.svc.day
        else if s.svc.day < 65534 then s.svc.day + 1 else s.svc.day)
    ∧ t.fru.secondHanded = s.svc.timeKnown ∧ t.scu.marksHanded = s.svc.timeKnown
    ∧ t.scu.tearsHanded = s.svc.timeKnown
    ∧ (s.fru.secondHanded = true → ∀ d, s.fru.pendingSwitch = some d → s.reached d = true →
        t.fru.pendingSwitch = none ∧ t.fru.active = s.fru.active.other) := by
  have hsvc : (finish (secondTaken s)).svc = _ := finish_svc _
  rw [show (secondTaken s).svc = _ from secondTaken_svc s] at hsvc
  obtain ⟨hfares, hmarks, htears, hpending, hactive⟩ := secondTaken_handed s
  have hfru : (finish (secondTaken s)).fru = (secondTaken s).fru := by simp
  have hscu : (finish (secondTaken s)).scu = (secondTaken s).scu := by simp
  refine ⟨finish (secondTaken s), by rw [exec_second hdue, if_pos hpowered], secondTaken_keeps s, ?_, ?_, ?_, ?_, ?_,
    ?_, ?_, fun hhanded d hd hreached => ?_⟩
  · rw [hsvc]
    exact Nat.sub_add_cancel hdue
  · rw [hsvc]
    rfl
  · rw [hsvc]
    rfl
  · rw [hsvc]
    rfl
  · rw [hfru, hfares]
  · rw [hscu, hmarks]
  · rw [hscu, htears]
  · rw [hfru, hpending, hactive, fruTakes_reached hhanded hd hreached, fru_swapBanks]
    exact ⟨rfl, rfl⟩

/-- The second of a lane with nothing handed, with or without VDD (R17; log 36). -/
theorem second_hands_on {s : State} (hformed : s.formed) (hdue : 0 < s.svc.secondsDue)
    (hfru : s.fru.secondHanded = false) (hmarks : s.scu.marksHanded = false) (htears : s.scu.tearsHanded = false) :
    ∃ t, exec .second s = .next t ∧ keepsBut [.svc, .fru, .scu] s t ∧ t.svc = s.svc.afterSecond
    ∧ t.fru = { s.fru with secondHanded := s.powered && s.svc.timeKnown }
    ∧ t.scu = { s.scu with
        marksHanded := s.powered && s.svc.timeKnown, tearsHanded := s.powered && s.svc.timeKnown } := by
  have hstill : { s.fru with secondHanded := false } = s.fru := by rw [← hfru]
  have hstill' : { s.scu with marksHanded := false, tearsHanded := false } = s.scu := by
    cases hscu : s.scu
    rw [hscu] at hmarks htears
    dsimp only at hmarks htears ⊢
    rw [hmarks, htears]
  have htaken := secondTaken_eq s
  rw [takeHanded_still hfru hmarks htears] at htaken
  rw [exec_second hdue]
  cases hpowered : s.powered <;> cases hknown : s.svc.timeKnown
  case true.true =>
    have hsvc := afterSecond_eq s.svc
    rw [hknown, if_pos rfl] at htaken
    rw [if_pos hknown] at hsvc
    have hformed' : (secondTaken s).formed := htaken ▸ hformed.of_same rfl rfl rfl rfl rfl rfl rfl rfl
    refine ⟨finish (secondTaken s), rfl, ?_⟩
    rw [finish_of_formed hformed', htaken, hsvc]
    exact ⟨by simp [keepsBut, Part.forall_iff, Part.same, handSecond, setClock], rfl, rfl, rfl⟩
  case true.false =>
    have hsvc := afterSecond_eq s.svc
    rw [hknown, if_neg nofun] at htaken
    rw [if_neg (by rw [hknown]; nofun)] at hsvc
    have hformed' : (secondTaken s).formed := htaken ▸ hformed.of_same rfl rfl rfl rfl rfl rfl rfl rfl
    refine ⟨finish (secondTaken s), rfl, ?_⟩
    rw [finish_of_formed hformed', htaken, hsvc]
    exact ⟨by simp [keepsBut, Part.forall_iff, Part.same], rfl, hstill.symm, hstill'.symm⟩
  all_goals
    refine ⟨secondRetained s, rfl, ?_⟩
    rw [secondRetained_eq]
    exact ⟨by simp [keepsBut, Part.forall_iff, Part.same], rfl, hstill.symm, hstill'.symm⟩

/-- Settles O16: a tick counts the channels and the divider, and a second advances a known clock and is handed on. -/
theorem timeGoesOn : Obligations.TimeGoesOn := by
  refine ⟨fun s hpowered => ⟨(dividerTick s).setLtu s.ltu.ticked, ?_, ?_, rfl, fun i => ?_⟩, fun s hpowered => ?_,
    fun s hpowered hdue => second_goes_on hpowered hdue,
    fun s hformed hdue hfru hmarks htears => second_hands_on hformed hdue hfru hmarks htears⟩
  · exact congrArg Host.Outcome.next (if_pos hpowered)
  · simp [keepsBut, Part.forall_iff, Part.same, dividerTick]
  · intro c
    have hchan : ((dividerTick s).setLtu s.ltu.ticked).chan i = c.ticked (decide (i = .signal)) := chan_ticked i s
    rw [hchan]
    refine ⟨ticked_still _, ticked_running _, fun hrun hcount => ?_⟩
    rw [ticked_last _ hrun hcount]
    simp only [decide_eq_true_eq]
  · exact ⟨dividerTick s, congrArg Host.Outcome.next (if_neg (by simp [hpowered])),
      by simp [keepsBut, Part.forall_iff, Part.same, dividerTick], rfl⟩

end Sys2Proof.Machine
end

section
/-! SUPPORT. A lane request answered, the hold and the CUE tone (R24, R145, R149, R179). -/

namespace Sys2Proof.Machine

/-! ## The answer of a lane request -/

theorem length_laneFrame (code : Byte) (body : List Byte) : (laneFrame code body).length = body.length + 4 := by
  simp [laneFrame]

/-- The lane port after a request that its owner answers, whatever notices the owner raised. -/
theorem respond_lpt {s t : State} {code : Byte} {body : List Byte} (a : Answer) {ns : List Notice}
    (hfit : body.length ≤ 250) (ht : t.lpt = { (s.taking code body).lpt with notices := ns }) :
    (respond (code + 0x80) a t).lpt = s.laneTaken code body a { s.lpt with notices := ns } := by
  have hlength := length_laneFrame code body
  have htake : (laneFrame code body).take 254 = laneFrame code body := List.take_of_length_le (by omega)
  simp only [respond, setLpt_lpt, ht, State.taking, recordTransfer, htake, hlength, State.laneTaken]
  rfl

/-- The end of an event tells the notices of the service and forms ATTN (R29, R181). -/
theorem finish_lpt (s : State) : (finish s).lpt = (finish s).attnOn { s.lpt with notices := s.told s.lpt.notices } := by
  unfold finish raiseService State.told
  split <;> rfl

theorem finish_lampsOn (s : State) : (finish s).sgu = (finish s).lampsOn s.sgu := finish_sgu s

/-- A formed state has told all changes, so that a new one is told exactly when the set differs. -/
theorem told_eq_toldOf {s t : State} (hs : s.svc.serviceTouched = false)
    (ht : t.svc.serviceTouched = (s.svc.serviceTouched || decide (s.svc.reasons ≠ t.svc.reasons))) (ns : List Notice) :
    t.told ns = toldOf s (finish t) ns := by
  rw [State.told, toldOf, finish_svc, ht, hs]
  by_cases h : t.svc.reasons = s.svc.reasons
  · simp [h]
  · simp [h, Ne.symm h]

/-! ## The hold (R24, R29) -/

theorem hold_answered (held : Bool) (k : Byte) {s : State} (hformed : s.formed) {u : State}
    (hu : u = setHoldReason held ((s.taking k []).setSvc { s.svc with laneHold := held })) :
    let t := finish (respond (k + 0x80) okay u)
    keepsBut [.lpt, .stl, .svc, .sgu] s t
    ∧ t.svc = { s.svc with laneHold := held, reasons := { s.svc.reasons with laneHold := held } }
    ∧ t.lpt = t.attnOn (s.laneTaken k [] okay { s.lpt with notices := toldOf s t s.lpt.notices })
    ∧ t.stl = { s.stl with notices := toldOf s t s.stl.notices }
    ∧ t.sgu = t.lampsOn s.sgu := by
  intro t
  obtain ⟨-, -, htouched⟩ := hformed
  have htold : ∀ ns, (respond (k + 0x80) okay u).told ns = toldOf s t ns :=
    told_eq_toldOf htouched (by rw [hu, setHoldReason, setReasons_eq]; rfl)
  refine ⟨?_, ?_, ?_, ?_, ?_⟩
  · subst hu
    simp [t, keepsBut, Part.forall_iff, Part.same, setHoldReason, State.taking, recordTransfer, respond]
  · show (finish _).svc = _
    rw [finish_svc, hu, setHoldReason, setReasons_eq, ← htouched]
    rfl
  · show (finish _).lpt = _
    have hlpt : u.lpt = { (s.taking k []).lpt with notices := s.lpt.notices } := by
      rw [hu, setHoldReason, setReasons_eq]
      rfl
    rw [finish_lpt, htold, respond_lpt okay (Nat.zero_le _) hlpt]
    rfl
  · show (finish _).stl = _
    rw [finish_stl, htold, hu, setHoldReason, setReasons_eq]
    rfl
  · show (finish _).sgu = _
    rw [finish_lampsOn]
    congr 1
    rw [hu, setHoldReason, setReasons_eq]
    rfl

/-! ## Tones (R145, R147, R149) -/

/-- A request that the arbiter is idle for, or that outranks the pattern playing, starts its own (R147). -/
theorem requestTone_of_starts {p : Tone} {s : State} (n : Nat) (h : toneStarts s p = true) :
    requestTone p n s = startTone p n s := if_pos h

theorem requestTone_of_dropped {p : Tone} {s : State} (n : Nat) (h : toneStarts s p = false) :
    requestTone p n s = s := if_neg (by simp [h])

theorem startTone_plays (p : Tone) (n : Nat) (s : State) :
    (startTone p n s).sgu = { s.sgu with tone := some p, pulses := n, toneOn := true }
      ∧ (startTone p n s).toneOut = .square p.frequency
      ∧ ∀ i, (startTone p n s).chan i = if i = .signal then .start p.segment p.silence else s.chan i := by
  refine ⟨rfl, rfl, fun i => ?_⟩
  cases i <;> rfl

/-- CUE has the lowest priority: it starts on an idle arbiter alone. -/
theorem toneStarts_cue (s : State) : toneStarts s .cue = s.sgu.tone.isNone := by
  unfold toneStarts
  split
  next h => rw [h]; rfl
  next p h => rw [h]; cases p <;> rfl

theorem toneStarts_over_cue {s : State} {p : Tone} (h : s.sgu.tone = some .cue) (hp : p ≠ .cue) :
    toneStarts s p = true := by
  unfold toneStarts
  rw [h]
  cases p with
  | cue => exact absurd rfl hp
  | _ => rfl

/-- A lane request whose owner leaves all but the blocks of the lane port, the signals and the channels. -/
theorem exec_cueTone {b : Byte} {s : State} (h : s.laneOpen) : exec (.cueTone [b]) s
    = .next (finish (respond 0x86 (cueToneRun [b] (s.taking 0x06 [b])).2 (cueToneRun [b] (s.taking 0x06 [b])).1)) := by
  show Host.Outcome.next (laneRequest reqCueTone [b] s) = _
  rw [laneRequest_open h rfl (by simp)]
  rfl

/-- Where the lamps stand formed and no change waits for its notice, the end of an event forms ATTN alone. -/
theorem finish_of_lamps {s : State} (hlamps : s.lampsFormed) (htouched : s.svc.serviceTouched = false) :
    finish s = formAttn s := by
  obtain ⟨hug, hpg, hur, hpr⟩ := hlamps
  have hformed : formLamps s = s := by simp only [formLamps, ← hug, ← hpg, ← hur, ← hpr, State.setSgu]
  rw [finish, raiseService, htouched, if_neg nofun, hformed]

/-- The answer of a CUE TONE on a state that differs in the arbiter alone. -/
theorem cue_answered (a : Answer) (b : Byte) {s u : State} (hlamps : u.lampsFormed)
    (htouched : u.svc.serviceTouched = false) (hlpt : u.lpt = (s.taking 0x06 [b]).lpt) :
    let t := finish (respond 0x86 a u)
    keepsBut [.lpt] u t ∧ t.lpt = t.attnOn (s.laneTaken 0x06 [b] a s.lpt) := by
  intro t
  have ht : t = formAttn (respond 0x86 a u) := finish_of_lamps hlamps htouched
  refine ⟨ht ▸ keepsBut_setLpt _ u, ?_⟩
  have hresponse := respond_lpt (s := s) (t := u) (code := 0x06) (body := [b]) (ns := s.lpt.notices) a (by simp) hlpt
  rw [ht]
  show State.attnOn _ (respond 0x86 a u).lpt = _
  rw [show (0x86 : Byte) = 0x06 + 0x80 from rfl, hresponse]
  rfl

theorem cueToneRun_bad {b : Byte} (h : b = 0 ∨ 8 < b.toNat) (s : State) :
    cueToneRun [b] s = (s, refusal .badField) := by
  have hb : b.toNat = 0 ∨ 8 < b.toNat := h.imp (fun hz => by rw [hz]; rfl) id
  exact if_pos hb

theorem cueToneRun_good {b : Byte} (hpos : 0 < b.toNat) (hle : b.toNat ≤ 8) (s : State) : cueToneRun [b] s
    = (requestTone .cue b.toNat s, { result := .ok, data := [if toneStarts s .cue then 1 else 2] }) :=
  if_neg (by show ¬ (b.toNat = 0 ∨ 8 < b.toNat); omega)

theorem cueTone_acts (b : Byte) (s : State) (hopen : s.laneOpen) (hformed : s.formed) :
    ((b = 0 ∨ 8 < b.toNat) → ∃ t, exec (.cueTone [b]) s = .next t ∧ keepsBut [.lpt] s t
      ∧ t.lpt = t.attnOn (s.laneTaken 0x06 [b] (refusal .badField) s.lpt))
    ∧ (0 < b.toNat → b.toNat ≤ 8 → s.sgu.tone = none → ∃ t, exec (.cueTone [b]) s = .next t
      ∧ keepsBut [.lpt, .sgu, .ltu] s t ∧ (∀ i, i ≠ .signal → t.chan i = s.chan i)
      ∧ t.lpt = t.attnOn (s.laneTaken 0x06 [b] { result := .ok, data := [1] } s.lpt)
      ∧ t.sgu = { s.sgu with tone := some .cue, pulses := b.toNat, toneOn := true }
      ∧ t.chan .signal = .start 12 6 ∧ t.toneOut = .square 512)
    ∧ (0 < b.toNat → b.toNat ≤ 8 → s.sgu.tone ≠ none → ∃ t, exec (.cueTone [b]) s = .next t
      ∧ keepsBut [.lpt] s t
      ∧ t.lpt = t.attnOn (s.laneTaken 0x06 [b] { result := .ok, data := [2] } s.lpt)) := by
  obtain ⟨hlamps, -, htouched⟩ := hformed
  have hexec := exec_cueTone (b := b) hopen
  have hstarts : toneStarts (s.taking 0x06 [b]) .cue = s.sgu.tone.isNone := toneStarts_cue _
  have htaken : keepsBut [.lpt] s (s.taking 0x06 [b]) := keepsBut_setLpt _ s
  refine ⟨fun hbad => ?_, fun hpos hle htone => ?_, fun hpos hle htone => ?_⟩
  · rw [cueToneRun_bad hbad] at hexec
    obtain ⟨hkeeps, hlpt⟩ := cue_answered (refusal .badField) b (u := s.taking 0x06 [b]) hlamps htouched rfl
    exact ⟨_, hexec, htaken.trans hkeeps, hlpt⟩
  · rw [htone] at hstarts
    rw [cueToneRun_good hpos hle, hstarts, requestTone_of_starts _ hstarts] at hexec
    let u := startTone .cue b.toNat (s.taking 0x06 [b])
    obtain ⟨hkeeps, hlpt⟩ := cue_answered { result := .ok, data := [1] } b (u := u) hlamps htouched rfl
    obtain ⟨-, hout, hchan⟩ := startTone_plays .cue b.toNat (s.taking 0x06 [b])
    have hplays : keepsBut [.lpt, .sgu, .ltu] s u := by
      simp [u, keepsBut, Part.forall_iff, Part.same, startTone, State.taking, recordTransfer]
    have hsgu : (finish (respond 0x86 { result := .ok, data := [1] } u)).sgu = u.sgu := hkeeps .sgu (by decide)
    have hltu : (finish (respond 0x86 { result := .ok, data := [1] } u)).ltu = u.ltu := hkeeps .ltu (by decide)
    have hsame : ∀ i, (finish (respond 0x86 { result := .ok, data := [1] } u)).chan i = u.chan i := fun i => by
      simp only [State.chan, hltu]
    refine ⟨_, hexec, hplays.trans (hkeeps.mono (by simp)), fun i hi => ?_, hlpt, hsgu, ?_, ?_⟩
    · exact (hsame i).trans ((hchan i).trans (if_neg hi))
    · exact (hsame .signal).trans (hchan .signal)
    · refine Eq.trans (b := u.toneOut) ?_ hout
      show State.toneOut (finish (respond 0x86 { result := .ok, data := [1] } u)) = u.toneOut
      rw [State.toneOut, hsgu, State.toneOut]
  · rw [Option.isNone_eq_false_iff.mpr (Option.isSome_iff_ne_none.mpr htone)] at hstarts
    rw [cueToneRun_good hpos hle, hstarts, requestTone_of_dropped _ hstarts] at hexec
    obtain ⟨hkeeps, hlpt⟩ := cue_answered { result := .ok, data := [2] } b (u := s.taking 0x06 [b]) hlamps htouched rfl
    exact ⟨_, hexec, htaken.trans hkeeps, hlpt⟩

/-- Settles O37: the hold changes its reason alone; a CUE starts on an idle arbiter, and any other pattern starts over
it. -/
theorem holdAndCueAct : Obligations.HoldAndCueAct := by
  refine ⟨fun held s hopen hformed => ?_, fun b s hopen hformed => ?_, fun p n s htone hp => ?_⟩
  · refine ⟨finish (respond ((if held = true then 0x03 else 0x04) + 0x80) okay
      (setHoldReason held ((s.taking (if held = true then 0x03 else 0x04) []).setSvc { s.svc with laneHold := held }))),
      ?_, hold_answered held _ hformed rfl⟩
    cases held with
    | true =>
      show Host.Outcome.next (laneRequest reqLaneHold [] s) = _
      rw [laneRequest_open hopen rfl (Nat.zero_le _)]
      rfl
    | false =>
      show Host.Outcome.next (laneRequest reqLaneRelease [] s) = _
      rw [laneRequest_open hopen rfl (Nat.zero_le _)]
      rfl
  · exact cueTone_acts b s hopen hformed
  · obtain ⟨hsgu, hout, -⟩ := startTone_plays p n s
    rw [requestTone_of_starts n (toneStarts_over_cue htone hp), hsgu, hout]
    exact ⟨rfl, rfl, rfl⟩

end Sys2Proof.Machine
end

section
/-! SUPPORT. Queues cancelled, and the leaves into and out of FREE_OPEN (R116, R142, R143). -/

namespace Sys2Proof.Machine

/-! ## Queues cancelled (R116) -/

/-- The record of the tracker with one queue replaced. -/
def Pcu.withQueue (p : Pcu) (d : Side) (q : List Credit) : Pcu :=
  match d with
  | .u => { p with queueUp := q }
  | .p => { p with queuePu := q }

theorem pcu_setQueue (d : Side) (q : List Credit) (s : State) : (setQueue d q s).pcu = s.pcu.withQueue d q := by
  cases d <;> rfl

theorem withQueue_withQueue (p : Pcu) (d : Side) (q q' : List Credit) :
    (p.withQueue d q).withQueue d q' = p.withQueue d q' := by cases d <;> rfl

theorem withQueue_self (s : State) (d : Side) : s.pcu.withQueue d (s.queue d) = s.pcu := by cases d <;> rfl

theorem queue_of_withQueue {s t : State} {d : Side} {q : List Credit} (h : t.pcu = s.pcu.withQueue d q) (e : Side) :
    t.queue e = if d = e then q else s.queue e := by
  cases d <;> cases e <;> simp [State.queue, h, Pcu.withQueue]

theorem pcu_cancelFrom (d : Side) (r : Reason) {l : List Credit} {s : State} (h : s.queue d = l) :
    (cancelFrom d r l s).pcu = s.pcu.withQueue d [] := by
  induction l generalizing s with
  | nil =>
    have hself := withQueue_self s d
    rw [h] at hself
    exact hself.symm
  | cons c rest ih =>
    have hnext : (cancelCredit d r c (setQueue d rest s)).pcu = s.pcu.withQueue d rest := by
      rw [← pcu_setQueue]
      simp
    have hqueue : (cancelCredit d r c (setQueue d rest s)).queue d = rest := by
      rw [queue_of_withQueue hnext, if_pos rfl]
    rw [cancelFrom, ih hqueue, hnext, withQueue_withQueue]

theorem pcu_cancelQueue (d : Side) (r : Reason) (s : State) : (cancelQueue d r s).pcu = s.pcu.withQueue d [] := by
  rw [← pcu_cancelFrom d r rfl]
  simp [cancelQueue, stopWindow]

theorem pcu_cancelBoth (r : Reason) (s : State) : (cancelBoth r s).pcu = { s.pcu with queueUp := [], queuePu := [] } := by
  rw [cancelBoth, pcu_cancelQueue, pcu_cancelQueue]
  rfl

theorem reserved_writeReserved (e : Entry) (s : State) : (writeReserved e s).rjn.reserved = s.rjn.reserved - 1 := by
  by_cases h : s.rjn.reserved = 0
  · rw [writeReserved, if_pos h, writeFree_reserved, h]
  · rw [writeReserved_held e s h]

theorem rjn_cancelCredit (d : Side) (r : Reason) (c : Credit) (s : State) :
    (cancelCredit d r c s).rjn = (writeReserved (creditEntry s .creditCancelled r d c) s).rjn := by
  unfold cancelCredit
  dsimp only
  split <;> simp [auditComplete, onSample]

theorem reserved_cancelFrom (d : Side) (r : Reason) (l : List Credit) (s : State) :
    (cancelFrom d r l s).rjn.reserved = s.rjn.reserved - l.length := by
  induction l generalizing s with
  | nil => rfl
  | cons c rest ih =>
    rw [cancelFrom, ih, rjn_cancelCredit, reserved_writeReserved, List.length_cons, Nat.sub_sub, Nat.add_comm]
    simp

theorem reserved_cancelQueue (d : Side) (r : Reason) (s : State) :
    (cancelQueue d r s).rjn.reserved = s.rjn.reserved - (s.queue d).length := by
  rw [← reserved_cancelFrom d r]
  simp [cancelQueue, stopWindow]

/-- The entry of a credit that is cancelled (R116). -/
def cancelledEntry (d : Side) (r : Reason) (c : Credit) (e : Entry) : Prop :=
  e.kind = .creditCancelled ∧ e.side = some d ∧ e.card = c.card.getD 0 ∧ e.extra = c.creator.toNat ∧ e.reason = r

theorem mem_of_grows {r r' : Rjn} (h : r.Grows r') {e : Entry} (he : e ∈ r.journal) : e ∈ r'.journal := by
  obtain ⟨es, hjournal, -⟩ := h
  rw [hjournal]
  exact List.mem_append_left _ he

/-- Where each credit holds its reservation, each one cancelled has its entry. -/
theorem entries_cancelFrom (d : Side) (r : Reason) {l : List Credit} {s : State} (h : l.length ≤ s.rjn.reserved) :
    ∀ c ∈ l, ∃ e ∈ (cancelFrom d r l s).rjn.journal, cancelledEntry d r c e := by
  induction l generalizing s with
  | nil => nofun
  | cons c rest ih =>
    have hheld : (setQueue d rest s).rjn.reserved ≠ 0 := by simp at h ⊢; omega
    have hwritten := (rjn_cancelCredit d r c (setQueue d rest s)).trans
      (writeReserved_held (creditEntry (setQueue d rest s) .creditCancelled r d c) _ hheld)
    have hrest : rest.length ≤ (cancelCredit d r c (setQueue d rest s)).rjn.reserved := by
      rw [hwritten]
      simp at h ⊢
      omega
    intro c' hc'
    rw [cancelFrom]
    rcases List.mem_cons.mp hc' with rfl | hmem
    · refine ⟨{ creditEntry (setQueue d rest s) .creditCancelled r d c' with seq := (setQueue d rest s).rjn.nextSeq },
        mem_of_grows (grows_cancelFrom d r rest (.refl _)) ?_, rfl, rfl, rfl, rfl, rfl⟩
      rw [hwritten]
      simp
    · exact ih hrest c' hmem

theorem entries_cancelQueue (d : Side) (r : Reason) {s : State} (h : (s.queue d).length ≤ s.rjn.reserved) :
    ∀ c ∈ s.queue d, ∃ e ∈ (cancelQueue d r s).rjn.journal, cancelledEntry d r c e := by
  have hrjn : (cancelQueue d r s).rjn = (cancelFrom d r (s.queue d) s).rjn := by simp [cancelQueue, stopWindow]
  rw [hrjn]
  exact entries_cancelFrom d r h

/-! ## The queues after a change of the mode (R116, R142) -/

theorem rjn_lfcQueue (s : State) : (lfcQueue s).rjn = s.rjn := by simp

theorem permits_free {s : State} (h : s.effMode = .free) (d : Side) : s.permits d = false := by
  rw [State.permits, h]
  rfl

/-- Credits stay where their direction is permitted. -/
theorem cancelForMode_queue (s : State) (d : Side) :
    (cancelForMode s).queue d = if s.permits d = true then s.queue d else [] := by
  have hqueue : ∀ t, (lfcQueue t).queue d = t.queue d := fun t => by simp [State.queue]
  have hcancelled : ∀ (e : Side) (t : State), (cancelQueue e .mode t).queue d = if e = d then [] else t.queue d :=
    fun e t => queue_of_withQueue (pcu_cancelQueue e .mode t) d
  unfold cancelForMode
  split
  next hfree =>
    rw [hqueue, permits_free hfree, if_neg nofun]
    cases d <;> simp [State.queue, pcu_cancelBoth]
  next hmode =>
    dsimp only
    rw [hqueue]
    cases d <;> split_ifs <;> simp_all

/-- The period and the tracker stand through the cancelling. -/
theorem cancelForMode_pcu (s : State) :
    (cancelForMode s).pcu.freePeriod = s.pcu.freePeriod := by
  have hkeeps : ∀ (d : Side) (r : Reason) (t : State), (cancelQueue d r t).pcu.freePeriod = t.pcu.freePeriod := by
    intro d r t
    rw [pcu_cancelQueue]
    cases d <;> rfl
  unfold cancelForMode
  dsimp only
  split_ifs <;> simp [cancelBoth, hkeeps]

/-- Each credit of a direction that is not permitted has its entry. -/
theorem cancelForMode_entries {s : State} (h : (s.queue .u).length + (s.queue .p).length ≤ s.rjn.reserved) {d : Side}
    (hd : s.permits d = false) : ∀ c ∈ s.queue d, ∃ e ∈ (cancelForMode s).rjn.journal,
      cancelledEntry d (if s.effMode = .free then .free else .mode) c e := by
  have hother : ∀ r, (cancelQueue .u r s).queue .p = s.queue .p := fun r =>
    queue_of_withQueue (pcu_cancelQueue .u r s) .p
  have hroom : ∀ r, ((cancelQueue .u r s).queue .p).length ≤ (cancelQueue .u r s).rjn.reserved := fun r => by
    rw [hother, reserved_cancelQueue]
    omega
  have hfirst : ∀ r, ∀ c ∈ s.queue .u, ∃ e ∈ (cancelQueue .u r s).rjn.journal, cancelledEntry .u r c e := fun r =>
    entries_cancelQueue .u r (by omega)
  have hlater : ∀ (r r' : Reason) (c : Credit), (∃ e ∈ (cancelQueue .u r s).rjn.journal, cancelledEntry .u r c e) →
      ∃ e ∈ (cancelQueue .p r' (cancelQueue .u r s)).rjn.journal, cancelledEntry .u r c e :=
    fun r r' c ⟨e, he, hentry⟩ => ⟨e, mem_of_grows (grows_cancelQueue .p r' (.refl _)) he, hentry⟩
  unfold cancelForMode
  split
  next hfree =>
    intro c hc
    rw [rjn_lfcQueue, cancelBoth]
    cases d with
    | u => exact hlater .free .free c (hfirst .free c hc)
    | p => exact entries_cancelQueue .p .free (hroom .free) c (hother .free ▸ hc)
  next hmode =>
    dsimp only
    intro c hc
    rw [rjn_lfcQueue]
    cases d with
    | u =>
      rw [if_neg (show ¬ s.permits .u = true by simp [hd])]
      split
      · exact hfirst .mode c hc
      · exact hlater .mode .mode c (hfirst .mode c hc)
    | p =>
      rw [if_neg (show ¬ s.permits .p = true by simp [hd])]
      split
      · exact entries_cancelQueue .p .mode (by omega) c hc
      · exact entries_cancelQueue .p .mode (hroom .mode) c (hother .mode ▸ hc)

/-! ## The leaves (R130, R138, R142, R143) -/

section
variable {s t : State}

/-- Outside FREE_OPEN, with the switches as taken before. -/
def Unfree (s t : State) : Prop := t.lfc.leaf ≠ .freeOpen ∧ t.lfc.allTaken = s.lfc.allTaken

theorem unfree_of_lfc {u : State} (h : Unfree s t) (hu : u.lfc = t.lfc) : Unfree s u := by
  rw [Unfree, hu]
  exact h

theorem unfree_openCheck (d : Side) (h : Unfree s t) : Unfree s (openCheck d t) := by
  refine unfree_of_lfc h ?_
  unfold openCheck
  split_ifs <;> simp [startHold]

theorem unfree_enterOpen (d : Side) (h : Unfree s t) : Unfree s (enterOpen d t) := by
  refine unfree_openCheck d (unfree_of_lfc (t := t.setLfc { t.lfc with leaf := .opened d }) ⟨nofun, h.2⟩ ?_)
  unfold headWindow startWindow
  split_ifs <;> simp

theorem unfree_beginOpening (d : Side) (rev : Bool) (h : Unfree s t) : Unfree s (beginOpening d rev t) := by
  have hdriven : Unfree s (startMove (t.setLfc
      { (t.lfc.drives .openSw (openSwing d)) with
        leaf := .opening d, reversal := rev, paused := false, openSide := some (openSideOf d) })) := ⟨nofun, h.2⟩
  unfold beginOpening
  dsimp only
  split
  · exact unfree_enterOpen d hdriven
  · exact hdriven

theorem lfc_auditGrant (u : State) : (auditGrant u).lfc = u.lfc := by simp

theorem unfree_grantLeaves (d : Side) (h : Unfree s t) : Unfree s (grantLeaves d t) :=
  unfree_beginOpening d false (unfree_of_lfc (t := t.setLfc { t.lfc with grant := some d, reversalCount := 0 }) h
    (lfc_auditGrant _))

theorem unfree_enterClosed (h : Unfree s t) : Unfree s (enterClosed t) := by
  have hclosed : ∀ v : State, v.lfc.leaf = .closed → v.lfc.allTaken = t.lfc.allTaken → Unfree s v :=
    fun v hleaf htaken => ⟨by rw [hleaf]; nofun, htaken.trans h.2⟩
  unfold enterClosed
  dsimp only
  split
  · exact unfree_grantLeaves _ (hclosed _ rfl rfl)
  · exact hclosed _ rfl rfl

theorem unfree_driveClosed (h : Unfree s t) : Unfree s (driveClosed t) := by
  have hdriven : Unfree s (startMove (t.setLfc
    { (t.lfc.drives .closedSw (closeSwing t.lfc.openSide)) with
      paused := false, runL := 0, runR := 0, nextLeaf := .left })) := h
  unfold driveClosed
  dsimp only
  split
  · exact unfree_enterClosed hdriven
  · exact hdriven

theorem lfc_leaveOpen (u : State) : (leaveOpen u).lfc = u.lfc := by
  unfold leaveOpen
  split <;> simp [stopWindow]

theorem unfree_beginClosing (g : Option Side) (n : Nat) (h : t.lfc.allTaken = s.lfc.allTaken) :
    Unfree s (beginClosing g n t) := by
  refine unfree_driveClosed ⟨nofun, ?_⟩
  rw [← h, ← lfc_leaveOpen t]
  rfl

theorem lfcQueue_unfree (hleaf : s.lfc.leaf ≠ .freeOpen) : Unfree s (lfcQueue s) := by
  have hself : Unfree s s := ⟨hleaf, rfl⟩
  unfold lfcQueue
  split
  · split
    · exact unfree_grantLeaves _ hself
    · exact hself
  · split
    · exact unfree_beginClosing _ _ rfl
    · exact hself
  · exact unfree_openCheck _ hself
  all_goals exact hself

theorem allTaken_lfcQueue (s : State) : (lfcQueue s).lfc.allTaken = s.lfc.allTaken := by
  by_cases hleaf : s.lfc.leaf = .freeOpen
  · rw [lfcQueue, hleaf]
  · exact (lfcQueue_unfree hleaf).2

theorem lfcQueue_freeOpen (hleaf : s.lfc.leaf = .freeOpen) : lfcQueue s = s := by rw [lfcQueue, hleaf]

/-- The leaves at or on the way to FREE_OPEN, with nothing granted. -/
theorem freeOpen_taken (hleaf : s.lfc.leaf ≠ .fault) (htaken : s.lfc.allTaken = true) :
    (freeOpen s).lfc.leaf = .freeOpen ∧ (freeOpen s).lfc.grant = none ∧ (freeOpen s).lfc.reversalCount = 0 := by
  have hlfc : ∀ i, (chanStop i (freeDriven s)).lfc = (freeDriven s).lfc := fun i => by simp
  rw [freeOpen_eq, if_neg (by simp [hleaf, htaken])]
  split
  · rw [hlfc]
    exact ⟨rfl, rfl, rfl⟩
  · exact ⟨rfl, rfl, rfl⟩

end

end Sys2Proof.Machine
end

section
/-! SUPPORT. What a change of the effective mode does (R26, R27, R116, R119, R142, R143). -/

namespace Sys2Proof.Machine

theorem Svc.Regarded.effMode {s t : State} (h : s.svc.Regarded t.svc) : t.effMode = s.effMode := by
  rw [State.effMode, show t.svc = _ from h]
  rfl

theorem Svc.Regarded.permits {s t : State} (h : s.svc.Regarded t.svc) (d : Side) : t.permits d = s.permits d := by
  rw [State.permits, h.effMode, State.permits]

/-- The entry of a change of the effective mode (R27). -/
def modeEntry (old : Mode) (cause : Reason) (u : State) : Entry :=
  { u.entry .modeChanged cause none with extra := modeExtra old u.effMode u.svc.stationMode }

/-- A change of the effective mode from `old` to that of `u`, taken. -/
structure ModeTaken (old : Mode) (cause : Reason) (u v : State) : Prop where
  svc : u.svc.Regarded v.svc
  closed : v.svc.reasons.modeClosed = (u.effMode == .closed)
  lane : v.lpt = { u.lpt with notices := v.lpt.notices }
  told : raisedOnce .modeChanged u.lpt.notices v.lpt.notices
  laneSame : SameNotice .emergency u.lpt.notices v.lpt.notices
  link : v.stl = { u.stl with notices := v.stl.notices }
  linkSame : SameNotice .emergency u.stl.notices v.stl.notices
  entry : 0 < u.free → firstEntry (modeEntry old cause u) u v
  queue : ∀ d, v.queue d = if u.permits d = true then u.queue d else []
  entries : (u.queue .u).length + (u.queue .p).length ≤ u.rjn.reserved → ∀ d, u.permits d = false →
    ∀ c ∈ u.queue d, ∃ e ∈ v.rjn.journal, cancelledEntry d (if u.effMode = .free then .free else .mode) c e
  opened : u.effMode = .free → v.pcu.freePeriod.isOpen = true
  freed : u.effMode = .free → u.lfc.leaf ≠ .fault → u.lfc.allTaken = true →
    v.lfc.leaf = .freeOpen ∧ v.lfc.grant = none ∧ v.lfc.reversalCount = 0
  left : u.effMode ≠ .free → old = .free → u.lfc.leaf = .freeOpen → v.lfc.leaf ≠ .freeOpen
  fault : v.lfc.leaf = .fault ↔ u.lfc.leaf = .fault
  faulted : u.lfc.leaf = .fault → v.lfc = u.lfc

/-! ## Up to the reason (R27) -/

theorem modeMarked_eq (old : Mode) (cause : Reason) (u : State) : modeMarked old cause u =
    setModeClosed (u.effMode == .closed) (raiseLane .modeChanged (writeFree (modeEntry old cause u) u)) := rfl

theorem modeMarked_regarded (old : Mode) (cause : Reason) (u : State) : u.svc.Regarded (modeMarked old cause u).svc :=
  (writeFree_judged (modeEntry old cause u) u).regarded.trans (setReasons_regarded _ (raiseLane .modeChanged _))

theorem modeMarked_closed (old : Mode) (cause : Reason) (u : State) :
    (modeMarked old cause u).svc.reasons.modeClosed = (u.effMode == .closed) := by
  rw [modeMarked_eq, setModeClosed, setReasons_reasons]

theorem modeMarked_lpt (old : Mode) (cause : Reason) (u : State) :
    (modeMarked old cause u).lpt = { u.lpt with notices := raiseIn .modeChanged u.lpt.notices } := by
  rw [modeMarked_eq, setModeClosed, setReasons_eq]
  show { (writeFree (modeEntry old cause u) u).lpt with
    notices := raiseIn .modeChanged (writeFree (modeEntry old cause u) u).lpt.notices } = _
  rw [show (writeFree (modeEntry old cause u) u).lpt = u.lpt by simp]

theorem modeMarked_stl (old : Mode) (cause : Reason) (u : State) :
    (modeMarked old cause u).stl = (writeFree (modeEntry old cause u) u).stl := by
  rw [modeMarked_eq, setModeClosed, setReasons_eq]
  rfl

theorem modeMarked_rjn (old : Mode) (cause : Reason) (u : State) :
    (modeMarked old cause u).rjn = (writeFree (modeEntry old cause u) u).rjn := by
  rw [modeMarked_eq, setModeClosed, setReasons_eq]
  rfl

theorem modeMarked_keeps (old : Mode) (cause : Reason) (u : State) :
    (modeMarked old cause u).pcu = u.pcu ∧ (modeMarked old cause u).lfc = u.lfc := by
  simp [modeMarked_eq, setModeClosed]

theorem firstEntry_writeFree {e : Entry} {s t : State} (hroom : 0 < s.free) (h : (writeFree e s).rjn.Grows t.rjn) :
    firstEntry e s t := by
  obtain ⟨es, hjournal, -⟩ := h
  refine ⟨es, ?_⟩
  rw [hjournal, writeFree_room e s (Nat.pos_iff_ne_zero.mp hroom)]
  simp

/-! ## What follows (R116, R142, R143) -/

theorem grows_modeFollowed (old new : Mode) (cause : Reason) (m : State) :
    m.rjn.Grows (modeFollowed old new cause m).rjn := by
  unfold modeFollowed
  split <;> simp

theorem modeFollowed_rjn (old new : Mode) (cause : Reason) (m : State) :
    (modeFollowed old new cause m).rjn = (cancelForMode m).rjn := by
  unfold modeFollowed
  split <;> simp

theorem queue_openFree (r : Reason) (s : State) (d : Side) : (openFree r s).queue d = s.queue d := by
  unfold openFree
  split
  · rfl
  · cases d <;> rfl

theorem isOpen_openFree (r : Reason) (s : State) : (openFree r s).pcu.freePeriod.isOpen = true := by
  unfold openFree
  split
  next h => exact h
  next => rfl

theorem modeFollowed_queue (old new : Mode) (cause : Reason) (m : State) (d : Side) :
    (modeFollowed old new cause m).queue d = (cancelForMode m).queue d := by
  have hleaves : ∀ t, (leavesForMode old t).queue d = t.queue d := fun t => by simp [State.queue]
  unfold modeFollowed
  rw [hleaves]
  split
  · exact queue_openFree _ _ d
  · rfl

theorem modeFollowed_opened (old : Mode) (cause : Reason) (m : State) :
    (modeFollowed old .free cause m).pcu.freePeriod.isOpen = true := by
  unfold modeFollowed
  rw [if_pos rfl]
  simp [isOpen_openFree]

theorem cancelForMode_lfc (m : State) : ∃ w, w.lfc = m.lfc ∧ cancelForMode m = lfcQueue w := by
  unfold cancelForMode
  dsimp only
  split_ifs
  all_goals exact ⟨_, by simp, rfl⟩

theorem effMode_cancelForMode (m : State) : (cancelForMode m).effMode = m.effMode :=
  (works_cancelForMode (.refl m)).effMode

theorem effMode_openFree (r : Reason) (s : State) : (openFree r s).effMode = s.effMode := (works_openFree r (.refl s)).effMode

theorem modeFollowed_freed (old : Mode) (cause : Reason) {m : State} (hfree : m.effMode = .free)
    (hleaf : m.lfc.leaf ≠ .fault) (htaken : m.lfc.allTaken = true) :
    (modeFollowed old .free cause m).lfc.leaf = .freeOpen ∧ (modeFollowed old .free cause m).lfc.grant = none
      ∧ (modeFollowed old .free cause m).lfc.reversalCount = 0 := by
  obtain ⟨w, hlfc, hcancel⟩ := cancelForMode_lfc m
  have htaken' : (cancelForMode m).lfc.allTaken = true := by rw [hcancel, allTaken_lfcQueue, hlfc, htaken]
  have hleaf' : (cancelForMode m).lfc.leaf ≠ .fault := (works_cancelForMode (.refl m)).not_fault hleaf
  have hmode : (openFree (freeReason cause) (cancelForMode m)).effMode = .free := by
    rw [effMode_openFree, effMode_cancelForMode, hfree]
  unfold modeFollowed leavesForMode
  rw [if_pos rfl, if_pos hmode]
  exact freeOpen_taken (by simpa using hleaf') (by simpa using htaken')

theorem modeFollowed_left {new : Mode} (cause : Reason) {m : State} (hmode : m.effMode ≠ .free) (hnew : new ≠ .free) : (modeFollowed .free new cause m).lfc.leaf ≠ .freeOpen := by
  unfold modeFollowed leavesForMode
  rw [if_neg hnew, effMode_cancelForMode, if_neg hmode]
  split
  · exact (unfree_beginClosing none 0 (s := cancelForMode m) rfl).1
  next h => exact fun hfree => h ⟨rfl, hfree⟩

theorem modeFollowed_faulted (old new : Mode) (cause : Reason) {m : State} (hleaf : m.lfc.leaf = .fault) :
    (modeFollowed old new cause m).lfc = m.lfc := by
  obtain ⟨w, hlfc, hcancel⟩ := cancelForMode_lfc m
  have hqueue : cancelForMode m = w := by rw [hcancel, lfcQueue, hlfc, hleaf]
  have hstill : ∀ t : State, t.lfc = m.lfc → (leavesForMode old t).lfc = m.lfc := by
    intro t ht
    unfold leavesForMode
    split_ifs with hfree hold
    · rw [freeOpen_eq, if_pos (.inl (by rw [ht, hleaf])), ht]
    · obtain ⟨-, hopen⟩ := hold
      rw [ht, hleaf] at hopen
      cases hopen
    · exact ht
  unfold modeFollowed
  rw [hqueue]
  split
  · exact hstill _ (by simp [hlfc])
  · exact hstill _ hlfc

/-! ## The change taken -/

theorem modeEffects_taken {old : Mode} (cause : Reason) {u : State} (h : u.effMode ≠ old) :
    ModeTaken old cause u (modeEffects old cause u) := by
  rw [modeEffects_of_ne cause h]
  have hworks := works_modeFollowed old u.effMode cause (modeMarked old cause u)
  have hregarded := modeMarked_regarded old cause u
  obtain ⟨hpcu, hlfc⟩ := modeMarked_keeps old cause u
  have hlpt := modeMarked_lpt old cause u
  have hqueue : ∀ d, (modeMarked old cause u).queue d = u.queue d := fun d => by
    cases d <;> simp [State.queue, hpcu]
  have hwritten := works_writeFree (modeEntry old cause u) (.refl u)
  have hlane := hworks.laneSet .modeChanged (by decide)
  have hlink := hworks.link
  rw [hlpt] at hlane
  rw [modeMarked_stl, hwritten.link] at hlink
  exact {
    svc := hregarded.trans hworks.svc.regarded
    closed := by
      rw [show (modeFollowed old u.effMode cause (modeMarked old cause u)).svc = _ from hworks.svc]
      exact modeMarked_closed old cause u
    lane := by rw [hworks.lane, hlpt]
    told := raisedOnce_of_same rfl hlane
    laneSame := by
      refine SameNotice.trans ?_ (hworks.laneSet .emergency (by decide))
      rw [hlpt]
      exact sameNotice_raiseIn (by decide) _
    link := hlink
    linkSame := by
      refine SameNotice.trans ?_ (hworks.linkSet .emergency (by decide))
      rw [modeMarked_stl]
      exact hwritten.linkSet .emergency (by decide)
    entry := fun hroom => firstEntry_writeFree hroom (modeMarked_rjn old cause u ▸ grows_modeFollowed _ _ _ _)
    queue := fun d => by rw [modeFollowed_queue, cancelForMode_queue, hregarded.permits, hqueue]
    entries := fun hroom d hd => by
      have hreserved : (modeMarked old cause u).rjn.reserved = u.rjn.reserved := by
        rw [modeMarked_rjn, writeFree_reserved]
      have hcancelled := cancelForMode_entries (s := modeMarked old cause u)
        (by rw [hqueue, hqueue, hreserved]; exact hroom) (d := d) (by rw [hregarded.permits, hd])
      rw [hqueue, hregarded.effMode, ← modeFollowed_rjn old u.effMode cause] at hcancelled
      exact hcancelled
    opened := fun hfree => by rw [hfree]; exact modeFollowed_opened old cause _
    freed := fun hfree hleaf htaken => by
      rw [hfree]
      exact modeFollowed_freed old cause (hregarded.effMode.trans hfree) (hlfc ▸ hleaf) (hlfc ▸ htaken)
    left := fun hfree hold _ => by
      subst hold
      exact modeFollowed_left cause (fun hm => hfree (hregarded.effMode.symm.trans hm)) hfree
    fault := by rw [hworks.fault, hlfc]
    faulted := fun hleaf => by rw [modeFollowed_faulted _ _ _ (hlfc ▸ hleaf), hlfc] }

/-! ## EMERG (R25, R26) -/

/-- EMERG at a level, notified, before the mode follows (R26). -/
def emergNoted (level : Bool) (s : State) : State :=
  raiseBoth .emergency ((pinLevel .emerg level s).setSvc { s.svc with emerg := level })

theorem takeEmerg_ne {level : Bool} {s : State} (h : s.svc.emerg ≠ level) :
    takeEmerg level (pinLevel .emerg level s) = settleFree (modeEffects s.effMode
      (if level then .emergencyOn else .emergencyOff) (emergNoted level s)) := if_neg h

theorem effMode_emergNoted (level : Bool) (s : State) :
    (emergNoted level s).effMode = if level = true then .free else s.svc.stationMode := rfl

/-- Where the mode is FREE with EMERG asserted, it is the station's FREE that keeps a change of EMERG from telling. -/
theorem effMode_free_of_same {level : Bool} {s : State} (hne : s.svc.emerg ≠ level)
    (h : (emergNoted level s).effMode = s.effMode) : (emergNoted level s).effMode = .free := by
  have hemerg : s.svc.emerg = !level := by cases level <;> simpa using hne
  rw [effMode_emergNoted] at h ⊢
  rw [State.effMode, hemerg] at h
  cases level with
  | true => rfl
  | false => exact h

theorem settleFree_of_free {s : State} (h : s.effMode = .free) : settleFree s = s :=
  if_neg fun hend => hend.2.1 h

theorem settleFree_grows (s : State) : s.rjn.Grows (settleFree s).rjn := grows_settleFree (.refl _)

theorem queue_settleFree (s : State) (d : Side) : (settleFree s).queue d = s.queue d := by
  unfold settleFree closeFree
  split
  · cases d <;> simp [State.queue]
  · rfl

/-- The pin of an input taken at the level that its block has already (R121). -/
theorem emergency_same {level : Bool} {s : State} (hpowered : s.powered = true) (hformed : s.formed)
    (h : s.svc.emerg = level) : ∃ t, exec (.emergChange level) s = .next t ∧ keepsBut [.inp] s t
      ∧ t.inp = s.pinned .emerg level := by
  have htaken : takeEmerg level (pinLevel .emerg level s) = pinLevel .emerg level s := if_pos h
  have hpinned : (pinLevel .emerg level s).formed := hformed.of_same rfl rfl rfl rfl rfl rfl rfl rfl
  refine ⟨pinLevel .emerg level s, ?_, by simp [keepsBut, Part.forall_iff, Part.same], rfl⟩
  show Host.Outcome.next (event _ s) = _
  rw [event, if_pos hpowered, htaken, finish_of_formed hpinned]

/-- What the change leaves of the service and the two sets, whether or not the mode follows. -/
theorem emergency_told (level : Bool) (s : State) {cause : Reason} {w : State}
    (hw : w = settleFree (modeEffects s.effMode cause (emergNoted level s))) :
    (emergNoted level s).svc.Regarded w.svc ∧ w.lpt = { s.lpt with notices := w.lpt.notices }
      ∧ SameNotice .emergency (raiseIn .emergency s.lpt.notices) w.lpt.notices
      ∧ SameNotice .emergency (raiseIn .emergency s.stl.notices) w.stl.notices := by
  have hsettled := works_settleFree (.refl (modeEffects s.effMode cause (emergNoted level s)))
  rw [← hw] at hsettled
  by_cases hsame : (emergNoted level s).effMode = s.effMode
  · rw [modeEffects, if_pos hsame] at hsettled
    exact ⟨hsettled.svc.regarded, hsettled.lane, hsettled.laneSet _ (by decide), hsettled.linkSet _ (by decide)⟩
  · have htaken := modeEffects_taken cause hsame
    refine ⟨htaken.svc.trans hsettled.svc.regarded, ?_, htaken.laneSame.trans (hsettled.laneSet _ (by decide)),
      htaken.linkSame.trans (hsettled.linkSet _ (by decide))⟩
    rw [hsettled.lane, htaken.lane]
    rfl

theorem raisedOnce_congr {c : Cause} {ns ns' ms ms' : List Notice} (h : SameNotice c ns ns')
    (hraised : raisedOnce c ns' ms) (h' : SameNotice c ms ms') : raisedOnce c ns ms' := by
  unfold raisedOnce at *
  rw [h', hraised, h]

theorem emergency_changes {level : Bool} {s : State} (hpowered : s.powered = true) (hne : s.svc.emerg ≠ level) :
    ∃ t, exec (.emergChange level) s = .next t
      ∧ keepsBut [.svc, .lpt, .stl, .rjn, .scu, .pcu, .lfc, .ltu, .sgu, .ads, .inp] s t ∧ t.formed
      ∧ t.inp = s.pinned .emerg level
      ∧ t.svc.emerg = level ∧ t.svc.stationMode = s.svc.stationMode ∧ t.svc.laneHold = s.svc.laneHold
      ∧ t.svc.day = s.svc.day ∧ t.svc.secs = s.svc.secs ∧ t.svc.tickCount = s.svc.tickCount
      ∧ t.effMode = (if level = true then .free else s.svc.stationMode)
      ∧ (∃ ns, t.lpt = t.attnOn { s.lpt with notices := ns })
      ∧ raisedOnce .emergency s.lpt.notices t.lpt.notices
      ∧ raisedOnce .emergency s.stl.notices t.stl.notices
      ∧ (t.effMode = s.effMode → t.pcu = s.pcu ∧ t.lfc = s.lfc ∧ t.rjn = s.rjn ∧ t.scu = s.scu)
      ∧ (t.effMode ≠ s.effMode → 0 < s.free → firstEntry
          { s.entry .modeChanged (if level = true then .emergencyOn else .emergencyOff) none with
            extra := s.effMode.code.toNat * 16777216 + t.effMode.code.toNat * 65536
              + s.svc.stationMode.code.toNat * 256 } s t)
      ∧ (t.effMode ≠ s.effMode → t.svc.reasons.modeClosed = decide (t.effMode = .closed)
          ∧ raisedOnce .modeChanged s.lpt.notices t.lpt.notices)
      ∧ (t.effMode = .free → s.effMode ≠ .free → t.queue .u = [] ∧ t.queue .p = []
          ∧ t.pcu.freePeriod.isOpen = true)
      ∧ (t.effMode = .free → s.effMode ≠ .free → s.lfc.leaf ≠ .fault → s.lfc.allTaken = true →
          t.lfc.leaf = .freeOpen ∧ t.lfc.grant = none ∧ t.lfc.reversalCount = 0)
      ∧ (t.effMode ≠ .free → s.effMode = .free → s.lfc.leaf = .freeOpen → t.lfc.leaf ≠ .freeOpen) := by
  let cause : Reason := if level then .emergencyOn else .emergencyOff
  let u := emergNoted level s
  obtain ⟨w, hw⟩ : ∃ w, w = settleFree (modeEffects s.effMode cause u) := ⟨_, rfl⟩
  have hexec : exec (.emergChange level) s = .next (finish w) := by
    show Host.Outcome.next (event _ s) = _
    rw [event, if_pos hpowered, takeEmerg_ne hne, hw]
  obtain ⟨hregarded, hlane, hlaneSame, hlinkSame⟩ := emergency_told level s hw
  have hsvc : (finish w).svc = _ := finish_svc w
  rw [show w.svc = _ from hregarded] at hsvc
  have hmode : (finish w).effMode = u.effMode := by
    rw [← hregarded.effMode, State.effMode, finish_svc, State.effMode]
  have hlpt := finish_lpt w
  have hstl := finish_stl w
  refine ⟨finish w, hexec, ?_, finish_formed w, ?_, by rw [hsvc]; rfl, by rw [hsvc]; rfl, by rw [hsvc]; rfl,
    by rw [hsvc]; rfl, by rw [hsvc]; rfl, by rw [hsvc]; rfl, hmode, ⟨w.told w.lpt.notices, ?_⟩, ?_, ?_, ?_⟩
  · rw [hw]
    simp [keepsBut, Part.forall_iff, Part.same, u, emergNoted]
  · rw [hw]
    simp [u, emergNoted, pinLevel, State.pinned]
  · rw [hlpt, hlane]
  · refine raisedOnce_of_same rfl (hlaneSame.trans ?_)
    rw [hlpt]
    exact sameNotice_told (by decide) w _
  · refine raisedOnce_of_same rfl (hlinkSame.trans ?_)
    rw [hstl]
    exact sameNotice_told (by decide) w _
  by_cases hsame : u.effMode = s.effMode
  · have hfree := effMode_free_of_same hne hsame
    have hstill : w = u := by
      rw [hw, modeEffects, if_pos hsame, settleFree_of_free hfree]
    have hagain : (finish w).effMode = s.effMode := hmode.trans hsame
    refine ⟨fun _ => ?_, fun h => absurd hagain h, fun h => absurd hagain h, fun h h' => absurd (hagain ▸ h) h',
      fun h h' => absurd (hagain ▸ h) h', fun h h' => absurd (hagain.trans h') h⟩
    rw [hstill]
    simp [u, emergNoted]
  · have hnot : (finish w).effMode ≠ s.effMode := fun h => hsame (hmode.symm.trans h)
    obtain ⟨v, hv⟩ : ∃ v, v = modeEffects s.effMode cause u := ⟨_, rfl⟩
    have htaken := modeEffects_taken cause hsame
    rw [← hv] at htaken hw
    have hsettled : Works v w := hw ▸ works_settleFree (.refl v)
    have hlfc : (finish w).lfc = v.lfc := by rw [hw]; simp
    have hpcu : (finish w).pcu = w.pcu := by simp
    have hqueue : ∀ d, (finish w).queue d = v.queue d := fun d => by
      rw [← queue_settleFree v, ← hw]
      cases d <;> simp [State.queue]
    rw [hlfc, hmode]
    refine ⟨fun h => absurd h hsame, fun _ hroom => ?_, fun _ => ⟨?_, ?_⟩, fun hfree _ => ?_,
      fun hfree _ => htaken.freed hfree, fun hfree => htaken.left hfree⟩
    · obtain ⟨es, hjournal⟩ := htaken.entry hroom
      obtain ⟨es', hjournal', -⟩ := settleFree_grows v
      refine ⟨es ++ es', ?_⟩
      rw [rjn_finish, hw, hjournal', hjournal, List.append_assoc]
      rfl
    · have hclosed : w.svc.reasons.modeClosed = (u.effMode == .closed) := by
        rw [show w.svc = _ from hsettled.svc, ← htaken.closed]
      rw [finish_svc]
      exact hclosed
    · refine raisedOnce_congr (sameNotice_raiseIn (by decide) _) htaken.told ?_
      rw [hlpt]
      exact (hsettled.laneSet _ (by decide)).trans (sameNotice_told (by decide) w _)
    · have hstill : w = v := hw.trans (settleFree_of_free (htaken.svc.effMode.trans hfree))
      rw [hqueue, hqueue, htaken.queue, htaken.queue, permits_free hfree, permits_free hfree, hpcu, hstill]
      exact ⟨rfl, rfl, htaken.opened hfree⟩

/-- Settles O18: a level already taken pins the filter alone; a change is notified and the mode follows. -/
theorem emergencyChangesMode : Obligations.EmergencyChangesMode := fun _ _ hpowered hformed =>
  ⟨emergency_same hpowered hformed, emergency_changes hpowered⟩

end Sys2Proof.Machine
end

section
/-! SUPPORT. LANE MODE (R23, R116, R119, R142, R143). -/

namespace Sys2Proof.Machine

/-! ## FAULT left (R142) -/

theorem leaveFault_eq {s : State} (h : s.lfc.leaf = .fault) :
    leaveFault s = commandLeaves 0 (setLeafFault false s) := if_pos h

theorem leaveFault_still {s : State} (h : s.lfc.leaf ≠ .fault) : leaveFault s = s := if_neg h

theorem leaf_commandLeaves (n : Nat) (s : State) : (commandLeaves n s).lfc.leaf ≠ .fault :=
  (works_commandLeaves_of n (.refl _)).not_fault (by simp)

theorem leaf_leaveFault (s : State) : (leaveFault s).lfc.leaf ≠ .fault := by
  by_cases h : s.lfc.leaf = .fault
  · rw [leaveFault_eq h]
    exact leaf_commandLeaves 0 _
  · rw [leaveFault_still h]
    exact h

/-- The reason LEAF_FAULT goes with FAULT. -/
theorem leafFault_leaveFault {s : State} (h : s.lfc.leaf = .fault) :
    (leaveFault s).svc.reasons.leafFault = false := by
  have hsvc : (commandLeaves 0 (setLeafFault false s)).svc = (setLeafFault false s).svc := by simp
  rw [leaveFault_eq h, hsvc, setLeafFault, setReasons_reasons]

theorem leaveFault_regarded (s : State) : s.svc.Regarded (leaveFault s).svc := by
  have hsvc : (commandLeaves 0 (setLeafFault false s)).svc = (setLeafFault false s).svc := by simp
  unfold leaveFault
  split
  · rw [hsvc]
    exact setReasons_regarded _ s
  · rfl

theorem leaveFault_keeps (s : State) : (leaveFault s).lpt = s.lpt ∧ (leaveFault s).stl = s.stl
    ∧ (leaveFault s).pcu = s.pcu ∧ (leaveFault s).rjn = s.rjn := by
  unfold leaveFault
  split <;> simp [setLeafFault]

/-- The leaves commanded with the switches taken and the mode FREE are on their way to FREE_OPEN. -/
theorem commandLeaves_free {n : Nat} {s : State} (htaken : s.lfc.allTaken = true) (hfree : s.effMode = .free) :
    (commandLeaves n s).lfc.leaf = .freeOpen ∧ (commandLeaves n s).lfc.grant = none := by
  have htaken' : (s.setLfc (s.lfc.commanded n)).lfc.allTaken = true := htaken
  have hopen := freeOpen_taken (s := s.setLfc (s.lfc.commanded n)) nofun htaken'
  have hcommand : commandLeaves n s = freeOpen (s.setLfc (s.lfc.commanded n)) := by
    rw [commandLeaves_eq]
    dsimp only
    rw [htaken', if_neg nofun]
    exact if_pos hfree
  rw [hcommand]
  exact ⟨hopen.1, hopen.2.1⟩

theorem leaveFault_free {s : State} (hleaf : s.lfc.leaf = .fault) (htaken : s.lfc.allTaken = true)
    (hfree : s.effMode = .free) : (leaveFault s).lfc.leaf = .freeOpen ∧ (leaveFault s).lfc.grant = none := by
  rw [leaveFault_eq hleaf]
  exact commandLeaves_free (by simpa [setLeafFault] using htaken)
    ((setReasons_regarded _ s).effMode.trans hfree)

/-! ## The mode taken -/

/-- The station mode stored, before its effects. -/
def stationModeSet (m : Mode) (s : State) : State := s.setSvc { s.svc with stationMode := m }

theorem takeLaneMode_eq (m : Mode) (s : State) :
    takeLaneMode m s = settleFree (leaveFault (modeEffects s.effMode .station (stationModeSet m s))) := rfl

theorem period_settleFree {s : State} (hmode : s.effMode ≠ .free) (hleaf : s.lfc.leaf ≠ .fault) :
    (settleFree s).pcu.freePeriod.isOpen = false := by
  unfold settleFree
  split
  · simp [closeFree]
  next h => exact Bool.eq_false_iff.mpr fun hopen => h ⟨hopen, hmode, hleaf⟩

/-- What a LANE MODE does whether or not the effective mode changes (R23, R142). -/
structure StationModeTaken (m : Mode) (s w : State) : Prop where
  svc : (stationModeSet m s).svc.Regarded w.svc
  lane : w.lpt = { s.lpt with notices := w.lpt.notices }
  link : w.stl = { s.stl with notices := w.stl.notices }
  unfaulted : w.lfc.leaf ≠ .fault
  reason : s.lfc.leaf = .fault → w.svc.reasons.leafFault = false
  period : w.effMode ≠ .free → w.pcu.freePeriod.isOpen = false

theorem takeLaneMode_taken (m : Mode) (s : State) : StationModeTaken m s (takeLaneMode m s) := by
  rw [takeLaneMode_eq]
  obtain ⟨v, hv⟩ : ∃ v, v = modeEffects s.effMode .station (stationModeSet m s) := ⟨_, rfl⟩
  have heffects : (stationModeSet m s).svc.Regarded v.svc ∧ v.lpt = { s.lpt with notices := v.lpt.notices }
      ∧ v.stl = { s.stl with notices := v.stl.notices } ∧ (v.lfc.leaf = .fault ↔ s.lfc.leaf = .fault) := by
    by_cases hsame : (stationModeSet m s).effMode = s.effMode
    · rw [hv, modeEffects, if_pos hsame]
      exact ⟨.refl _, rfl, rfl, Iff.rfl⟩
    · have htaken := modeEffects_taken .station hsame
      rw [← hv] at htaken
      exact ⟨htaken.svc, htaken.lane, htaken.link, htaken.fault⟩
  obtain ⟨hregarded, hlane, hlink, hfault⟩ := heffects
  obtain ⟨hlpt, hstl, -, -⟩ := leaveFault_keeps v
  have hsettled := works_settleFree (.refl (leaveFault v))
  rw [← hv]
  exact {
    svc := (hregarded.trans (leaveFault_regarded v)).trans hsettled.svc.regarded
    lane := by rw [hsettled.lane, hlpt, hlane]
    link := by rw [hsettled.link, hstl, hlink]
    unfaulted := hsettled.not_fault (leaf_leaveFault v)
    reason := fun hleaf => by
      rw [show (settleFree (leaveFault v)).svc = _ from hsettled.svc]
      exact leafFault_leaveFault (hfault.mpr hleaf)
    period := fun hmode => period_settleFree (hsettled.effMode ▸ hmode) (leaf_leaveFault v) }

/-- A mode that stays the same, outside FAULT and with no free period to end, changes the station mode alone. -/
theorem takeLaneMode_same {m : Mode} {s : State} (hsame : (stationModeSet m s).effMode = s.effMode)
    (hleaf : s.lfc.leaf ≠ .fault) (hperiod : s.pcu.freePeriod.isOpen = false ∨ s.effMode = .free) :
    takeLaneMode m s = stationModeSet m s := by
  have hstill : leaveFault (stationModeSet m s) = stationModeSet m s := leaveFault_still hleaf
  rw [takeLaneMode_eq, modeEffects, if_pos hsame, hstill]
  refine if_neg fun ⟨hopen, hmode, _⟩ => ?_
  rcases hperiod with hclosed | hfree
  · exact absurd (hclosed.symm.trans hopen) nofun
  · exact hmode (hsame.trans hfree)

/-- What a LANE MODE that changes the effective mode does besides (R27, R116, R142). -/
structure StationModeChanged (m : Mode) (s w : State) : Prop where
  entry : 0 < s.free → firstEntry (modeEntry s.effMode .station (stationModeSet m s)) s w
  told : raisedOnce .modeChanged s.lpt.notices w.lpt.notices
  closed : w.svc.reasons.modeClosed = (w.effMode == .closed)
  queue : ∀ d, w.queue d = if w.permits d = true then s.queue d else []
  entries : (s.queue .u).length + (s.queue .p).length ≤ s.rjn.reserved → ∀ d, w.permits d = false →
    ∀ c ∈ s.queue d, ∃ e ∈ w.rjn.journal, cancelledEntry d (if w.effMode = .free then .free else .mode) c e
  opened : w.effMode = .free → w.pcu.freePeriod.isOpen = true
  freed : w.effMode = .free → s.lfc.allTaken = true → w.lfc.leaf = .freeOpen ∧ w.lfc.grant = none

theorem modeClosed_leaveFault (s : State) : (leaveFault s).svc.reasons.modeClosed = s.svc.reasons.modeClosed := by
  have hsvc : (commandLeaves 0 (setLeafFault false s)).svc = (setLeafFault false s).svc := by simp
  unfold leaveFault
  split
  · rw [hsvc, setLeafFault, setReasons_reasons]
  · rfl

theorem takeLaneMode_changed {m : Mode} {s : State} (hne : (stationModeSet m s).effMode ≠ s.effMode) :
    StationModeChanged m s (takeLaneMode m s) := by
  rw [takeLaneMode_eq]
  obtain ⟨v, hv⟩ : ∃ v, v = modeEffects s.effMode .station (stationModeSet m s) := ⟨_, rfl⟩
  have htaken := modeEffects_taken .station hne
  rw [← hv] at htaken ⊢
  obtain ⟨hlpt, -, hpcu, hrjn⟩ := leaveFault_keeps v
  have hsettled := works_settleFree (.refl (leaveFault v))
  have hregarded := (htaken.svc.trans (leaveFault_regarded v)).trans hsettled.svc.regarded
  have hmode := hregarded.effMode
  have hlfc : (settleFree (leaveFault v)).lfc = (leaveFault v).lfc := by simp
  obtain ⟨es', hjournal', -⟩ := settleFree_grows (leaveFault v)
  rw [hrjn] at hjournal'
  have hfree : (stationModeSet m s).effMode = .free → settleFree (leaveFault v) = leaveFault v := fun hfree =>
    settleFree_of_free ((htaken.svc.trans (leaveFault_regarded v)).effMode.trans hfree)
  exact {
    entry := fun hroom => by
      obtain ⟨es, hjournal⟩ := htaken.entry hroom
      refine ⟨es ++ es', ?_⟩
      rw [hjournal', hjournal, List.append_assoc]
      rfl
    told := raisedOnce_congr rfl htaken.told (hlpt ▸ hsettled.laneSet .modeChanged (by decide))
    closed := by
      rw [hmode, ← htaken.closed, ← modeClosed_leaveFault v,
        show (settleFree (leaveFault v)).svc = _ from hsettled.svc]
    queue := fun d => by
      have hqueue : (settleFree (leaveFault v)).queue d = v.queue d := by
        rw [queue_settleFree]
        cases d <;> simp [State.queue]
      rw [hqueue, htaken.queue, hregarded.permits]
      rfl
    entries := fun hroom d hd c hc => by
      obtain ⟨e, he, hentry⟩ := htaken.entries hroom d (hregarded.permits d ▸ hd) c hc
      exact ⟨e, hjournal' ▸ List.mem_append_left _ he, hmode ▸ hentry⟩
    opened := fun h => by
      rw [hfree (hmode ▸ h), hpcu]
      exact htaken.opened (hmode ▸ h)
    freed := fun h hswitches => by
      rw [hlfc]
      by_cases hleaf : s.lfc.leaf = .fault
      · have hfault : v.lfc.leaf = .fault := htaken.fault.mpr hleaf
        have hsame : v.lfc = s.lfc := htaken.faulted hleaf
        exact leaveFault_free hfault (hsame ▸ hswitches) (htaken.svc.effMode.trans (hmode ▸ h))
      · have hnot : v.lfc.leaf ≠ .fault := fun hv => hleaf (htaken.fault.mp hv)
        obtain ⟨hopen, hgrant, -⟩ := htaken.freed (hmode ▸ h) hleaf hswitches
        rw [leaveFault_still hnot]
        exact ⟨hopen, hgrant⟩ }

/-! ## The request -/

theorem modeOf_code (m : Mode) : modeOf m.code = some m := by cases m <;> rfl

theorem modeOf_none {b : Byte} (h : b = 0 ∨ 5 < b.toNat) : modeOf b = none := by
  unfold modeOf
  split
  case h_6 => rfl
  all_goals
    next hcode =>
      rcases h with rfl | hlarge
      · cases hcode
      · omega

theorem room_of_books {s : State} (h : s.books) : (s.queue .u).length + (s.queue .p).length ≤ s.rjn.reserved := by
  obtain ⟨-, -, hheld, -⟩ := h
  rw [show s.rjn.reserved = _ from hheld]
  simp only [State.held, creditReservations, State.queue]
  omega

/-- A mode outside the five is refused with nothing changed. -/
theorem laneMode_bad {addr src b : Byte} {s : State} (hformed : s.formed) (hears : s.hears reqLaneMode addr)
    (hbad : b = 0 ∨ 5 < b.toNat) : ∃ t, exec (.laneMode addr src [b]) s = .next t ∧ keepsBut [.stl] s t
      ∧ t.stl = s.linkTaken reqLaneMode addr src (refusal .badField) s.stl := by
  have hrun : ∀ p, p ≠ Port.lane → reqLaneMode.run p [b] s.listening = (s.listening, refusal .badField) := by
    intro p _
    show laneModeRun [b] s.listening = _
    unfold laneModeRun
    rw [show modeOf (byteAt [b] 0) = none from modeOf_none hbad]
  exact ⟨_, congrArg Host.Outcome.next (stationRequest_quiet hears hformed rfl (by simp) hrun),
    keepsBut_setStl _ s, rfl⟩

theorem laneMode_heard {addr src : Byte} {s : State} (hears : s.hears reqLaneMode addr) (m : Mode) :
    exec (.laneMode addr src [m.code]) s = .next (finish ((takeLaneMode m s.listening).setStl
      (s.linkTaken reqLaneMode addr src okay { s.stl with notices := (takeLaneMode m s.listening).stl.notices }))) := by
  have hrun : ∀ p, p ≠ Port.lane → reqLaneMode.run p [m.code] s.listening = (takeLaneMode m s.listening, okay) := by
    intro p _
    show laneModeRun [m.code] s.listening = _
    unfold laneModeRun
    rw [show modeOf (byteAt [m.code] 0) = some m from modeOf_code m]
  have hheard := stationRequest_heard (src := src) hears rfl (by simp) hrun (takeLaneMode_taken m s.listening).link
  show Host.Outcome.next (stationRequest reqLaneMode addr src [m.code] s) = _
  rw [hheard]

/-- Settles O50: a mode outside the five is refused; one of the five is stored, and a change of the effective mode
follows it. -/
theorem laneModeTakesEffect : Obligations.LaneModeTakesEffect := by
  intro addr src b s hformed hbooks hears
  refine ⟨fun hbad => laneMode_bad hformed hears hbad, ?_⟩
  rintro m rfl
  have hexec := laneMode_heard (src := src) hears m
  have htaken := takeLaneMode_taken m s.listening
  have hsame := takeLaneMode_same (m := m) (s := s.listening)
  have hchanged := takeLaneMode_changed (m := m) (s := s.listening)
  have hkeeps : keepsBut [.svc, .lpt, .stl, .rjn, .scu, .pcu, .lfc, .ltu, .sgu, .ads] s (takeLaneMode m s.listening) := by
    simp [keepsBut, Part.forall_iff, Part.same, State.listening]
  obtain ⟨w, hw⟩ : ∃ w, w = takeLaneMode m s.listening := ⟨_, rfl⟩
  rw [← hw] at hexec htaken hsame hchanged hkeeps
  obtain ⟨t, ht⟩ : ∃ t, t = finish (w.setStl (s.linkTaken reqLaneMode addr src okay { s.stl with notices := w.stl.notices })) :=
    ⟨_, rfl⟩
  rw [← ht] at hexec
  have hsvc : t.svc = { w.svc with serviceTouched := false } := by rw [ht, finish_svc]; rfl
  have hmode : t.effMode = w.effMode := by rw [State.effMode, hsvc, State.effMode]
  have hmode' : t.effMode = (stationModeSet m s.listening).effMode := hmode.trans htaken.svc.effMode
  have hlfc : t.lfc = w.lfc := by rw [ht]; simp
  have hpcu : t.pcu = w.pcu := by rw [ht]; simp
  have hrjn : t.rjn = w.rjn := by rw [ht]; simp
  have hpermits : ∀ d, t.permits d = w.permits d := fun d => by rw [State.permits, hmode, State.permits]
  have hqueue : ∀ d, t.queue d = w.queue d := fun d => by cases d <;> simp only [State.queue, hpcu]
  refine ⟨t, hexec, ?_, ?_, ?_, hmode', ⟨_, by rw [ht, finish_stl]; rfl⟩, hlfc ▸ htaken.unfaulted, fun hleaf => ?_,
    fun h => ?_, fun heff hleaf hperiod => ?_, fun hne => ?_⟩
  · rw [ht]
    refine hkeeps.trans ?_
    simp [keepsBut, Part.forall_iff, Part.same]
  · rw [ht]
    exact finish_formed _
  · obtain ⟨-, -, htouched⟩ := hformed
    rw [hsvc, show w.svc = _ from htaken.svc, ← htouched]
    rfl
  · rw [hsvc]
    exact htaken.reason hleaf
  · rw [hpcu]
    exact htaken.period (hmode ▸ h)
  · have hstill : w = stationModeSet m s.listening := hsame (hmode'.symm.trans heff) hleaf hperiod
    have hagain : t = w.setStl (s.linkTaken reqLaneMode addr src okay { s.stl with notices := w.stl.notices }) := by
      rw [ht]
      refine finish_of_formed (hformed.of_same ?_ ?_ ?_ ?_ ?_ (hmode.symm.trans heff) ?_ ?_)
      all_goals rw [hstill]; rfl
    rw [hagain, hstill]
    refine ⟨?_, rfl, rfl⟩
    simp [keepsBut, Part.forall_iff, Part.same, stationModeSet, State.listening]
  · have h := hchanged fun hstill => hne (hmode'.trans hstill)
    refine ⟨fun hroom => ?_, ?_, ?_, fun d hd => ?_, fun d hd => ⟨?_, fun c hc => ?_⟩, fun hfree => ⟨?_, ?_⟩⟩
    · rw [hmode', firstEntry, hrjn]
      exact h.entry hroom
    · refine raisedOnce_congr rfl h.told ?_
      rw [ht, finish_lpt]
      exact sameNotice_told (by decide) _ _
    · rw [hsvc, hmode]
      exact h.closed
    · rw [hqueue, h.queue, ← hpermits, if_pos hd]
      cases d <;> rfl
    · rw [hqueue, h.queue, ← hpermits, hd, if_neg nofun]
    · have hc' : c ∈ s.listening.queue d := by cases d <;> exact hc
      obtain ⟨e, he, hkind, hside, hcard, hextra, hreason⟩ :=
        h.entries (room_of_books hbooks) d ((hpermits d).symm.trans hd) c hc'
      exact ⟨e, hrjn ▸ he, hkind, hside, hcard, hextra, hmode ▸ hreason⟩
    · rw [hpcu]
      exact h.opened (hmode ▸ hfree)
    · rw [hlfc]
      exact h.freed (hmode ▸ hfree)

end Sys2Proof.Machine
end

section
/-! SUPPORT. What the clock reaches: the timed switch, the marks and the pending-tears, and the entries they leave
(R19, R64, R94, R95). -/

namespace Sys2Proof.Machine

/-! ## Sightings thinned -/

/-- An entry with no mark and no pending-tear that the other does not hold. -/
structure Sighting.Within (e' e : Sighting) : Prop where
  card : e'.card = e.card
  mark : ∀ m, e'.mark = some m → e.mark = some m
  tear : ∀ r, e'.tear = some r → e.tear = some r

/-- Every entry left is one that stood, less marks and pending-tears. -/
def Thinned (s t : State) : Prop := ∀ e' ∈ t.scu.sightings, ∃ e ∈ s.scu.sightings, e'.Within e

theorem Thinned.refl (s : State) : Thinned s s := fun e he => ⟨e, he, rfl, fun _ => id, fun _ => id⟩

theorem Thinned.trans {s t u : State} (h : Thinned s t) (h' : Thinned t u) : Thinned s u := by
  intro e'' he''
  obtain ⟨e', he', hwithin'⟩ := h' e'' he''
  obtain ⟨e, he, hwithin⟩ := h e' he'
  exact ⟨e, he, hwithin'.card.trans hwithin.card, fun m hm => hwithin.mark m (hwithin'.mark m hm),
    fun r hr => hwithin.tear r (hwithin'.tear r hr)⟩

/-- Marks dropped of the cards of a list: none of theirs is left. -/
theorem dropMarks_thinned (l : List Nat) (s : State) :
    ∀ e' ∈ (l.foldl (fun t c => dropMark c t) s).scu.sightings,
      ∃ e ∈ s.scu.sightings, e'.Within e ∧ (e'.mark.isSome → e'.card ∉ l) := by
  induction l generalizing s with
  | nil => exact fun e he => ⟨e, he, ⟨rfl, fun _ => id, fun _ => id⟩, fun _ => List.not_mem_nil⟩
  | cons c l ih =>
    intro e'' he''
    obtain ⟨e', he', hwithin', hcard'⟩ := ih (dropMark c s) e'' he''
    obtain ⟨e, he, rfl⟩ := List.mem_map.mp he'
    have hwithin : (if e.card = c then { e with mark := none } else e).Within e := by
      split
      · exact ⟨rfl, nofun, fun _ => id⟩
      · exact ⟨rfl, fun _ => id, fun _ => id⟩
    refine ⟨e, he, ⟨hwithin'.card.trans hwithin.card, fun m hm => hwithin.mark m (hwithin'.mark m hm),
      fun r hr => hwithin.tear r (hwithin'.tear r hr)⟩, fun hsome hmem => ?_⟩
    rcases List.mem_cons.mp hmem with hc | hmem
    · obtain ⟨m, hm⟩ := Option.isSome_iff_exists.mp hsome
      have hkept := hwithin'.mark m hm
      rw [if_pos (by rw [← hc, hwithin'.card, hwithin.card])] at hkept
      cases hkept
    · exact hcard' hsome hmem

/-- The marks the time has reached are gone (R94). -/
theorem expireMarks_thinned (s : State) : Thinned s (expireMarks s)
    ∧ ∀ e ∈ (expireMarks s).scu.sightings, ∀ m, e.mark = some m → s.reached m.deadline = false := by
  have hdropped := dropMarks_thinned ((s.scu.sightings.filter (markDue s)).map Sighting.card) s
  refine ⟨fun e' he' => ?_, fun e' he' m hm => ?_⟩
  · obtain ⟨e, he, hwithin, -⟩ := hdropped e' he'
    exact ⟨e, he, hwithin⟩
  · obtain ⟨e, he, hwithin, hcard⟩ := hdropped e' he'
    refine Bool.eq_false_iff.mpr fun hreached => hcard (by rw [hm]; rfl) ?_
    have hdue : markDue s e = true := by rw [markDue, hwithin.mark m hm]; exact hreached
    rw [hwithin.card]
    exact List.mem_map_of_mem (List.mem_filter.mpr ⟨he, hdue⟩)

theorem untorn_within (c : Nat) (e : Sighting) : (untorn c e).Within e := by
  unfold untorn
  split
  · exact ⟨rfl, fun _ => id, nofun⟩
  · exact ⟨rfl, fun _ => id, fun _ => id⟩

theorem unresolveTear_thinned (c : Nat) (r : Tear) (s : State) : Thinned s (unresolveTear c r s) := by
  intro e' he'
  rw [sightings_unresolveTear] at he'
  obtain ⟨e, he, rfl⟩ := List.mem_map.mp he'
  exact ⟨e, he, untorn_within c e⟩

theorem unresolveTear_regarded (c : Nat) (r : Tear) (s : State) : s.svc.Regarded (unresolveTear c r s).svc :=
  (works_unresolveTear c r (.refl s)).svc.regarded

/-- The pending-tears of one card go with it. -/
theorem tears_unresolveTear (c : Nat) (r : Tear) (s : State) :
    (unresolveTear c r s).tears = s.tears.filter fun p => p.1 ≠ c := by
  rw [State.tears, sightings_unresolveTear, State.tears]
  induction s.scu.sightings with
  | nil => rfl
  | cons e l ih =>
    rw [List.map_cons, List.filterMap_cons, ih, List.filterMap_cons]
    unfold untorn
    by_cases hcard : e.card = c
    · rw [if_pos hcard]
      cases htear : e.tear <;> simp [hcard]
    · rw [if_neg hcard]
      cases htear : e.tear <;> simp [hcard]

theorem tears_shorter {c : Nat} {r : Tear} {s : State} (h : (c, r) ∈ s.tears) :
    (unresolveTear c r s).tears.length < s.tears.length := by
  rw [tears_unresolveTear]
  exact List.length_filter_lt_length_iff_exists.mpr ⟨(c, r), h, by simp⟩

theorem earliestTear_none {l : List (Nat × Tear)} (h : earliestTear l = none) : l = [] := by
  cases l with
  | nil => rfl
  | cons p l => cases h

/-- As many rounds as pending-tears stand leave none that the time has reached (R95). -/
theorem expireTearsN_late {n : Nat} {s : State} (h : s.tears.length ≤ n) :
    ∀ p ∈ (expireTearsN n s).tears, s.reached p.2.deadline = false := by
  induction n generalizing s with
  | zero =>
    have hnone : s.tears = [] := List.length_eq_zero_iff.mp (Nat.le_zero.mp h)
    intro p hp
    rw [expireTearsN, hnone] at hp
    cases hp
  | succ n ih =>
    unfold expireTearsN
    split
    next c r hearliest =>
      have hmem := List.mem_of_mem_filter (mem_earliestTear hearliest)
      have hshorter := tears_shorter hmem
      intro p hp
      rw [← (unresolveTear_regarded c r s).reached]
      exact ih (by omega) p hp
    next hearliest =>
      intro p hp
      have hfilter := List.filter_eq_nil_iff.mp (earliestTear_none hearliest) p hp
      simpa using hfilter

theorem expireTearsN_thinned (n : Nat) (s : State) : Thinned s (expireTearsN n s) := by
  induction n generalizing s with
  | zero => exact .refl s
  | succ n ih =>
    unfold expireTearsN
    split
    · exact (unresolveTear_thinned _ _ s).trans (ih _)
    · exact .refl s

theorem mem_tears {s : State} {e : Sighting} {r : Tear} (he : e ∈ s.scu.sightings) (hr : e.tear = some r) :
    (e.card, r) ∈ s.tears :=
  List.mem_filterMap.mpr ⟨e, he, by rw [hr]⟩

theorem expireTears_thinned (s : State) : Thinned s (expireTears s)
    ∧ ∀ e ∈ (expireTears s).scu.sightings, ∀ r, e.tear = some r → s.reached r.deadline = false :=
  ⟨expireTearsN_thinned _ s, fun _ he _ hr => expireTearsN_late (s := s) le_rfl _ (mem_tears he hr)⟩

theorem marksTake_thinned (s : State) : Thinned s (marksTake s) ∧ (s.scu.marksHanded = true →
    ∀ e ∈ (marksTake s).scu.sightings, ∀ m, e.mark = some m → s.reached m.deadline = false) := by
  unfold marksTake
  split
  next =>
    obtain ⟨hthinned, hlate⟩ := expireMarks_thinned (s.setScu { s.scu with marksHanded := false })
    exact ⟨hthinned, fun _ => hlate⟩
  next h => exact ⟨.refl s, fun h' => absurd h' h⟩

theorem tearsTake_thinned (s : State) : Thinned s (tearsTake s) ∧ (s.scu.tearsHanded = true →
    ∀ e ∈ (tearsTake s).scu.sightings, ∀ r, e.tear = some r → s.reached r.deadline = false) := by
  unfold tearsTake
  split
  next =>
    obtain ⟨hthinned, hlate⟩ := expireTears_thinned (s.setScu { s.scu with tearsHanded := false })
    exact ⟨hthinned, fun _ => hlate⟩
  next h => exact ⟨.refl s, fun h' => absurd h' h⟩

/-- What a handed second leaves in the table: nothing that the time has reached, of what is handed. -/
structure HandedTaken (s t : State) : Prop where
  thinned : Thinned s t
  marks : s.scu.marksHanded = true → ∀ e ∈ t.scu.sightings, ∀ m, e.mark = some m → s.reached m.deadline = false
  tears : s.scu.tearsHanded = true → ∀ e ∈ t.scu.sightings, ∀ r, e.tear = some r → s.reached r.deadline = false

theorem takeHanded_taken (s : State) : HandedTaken s (takeHanded s) := by
  have hscu : (fruTakes s).scu = s.scu := by simp
  have hfru := fruTakes_regarded s
  obtain ⟨hmarks, hmarksLate⟩ := marksTake_thinned (fruTakes s)
  obtain ⟨htears, htearsLate⟩ := tearsTake_thinned (marksTake (fruTakes s))
  have hhanded : (marksTake (fruTakes s)).scu.tearsHanded = s.scu.tearsHanded := by
    rw [show (marksTake (fruTakes s)).scu = _ from marksTake_sighted (fruTakes s), hscu]
  have hmarked := works_marksTake (.refl (fruTakes s))
  have hreached : ∀ d, (fruTakes s).reached d = s.reached d := hfru.reached
  have hreached' : ∀ d, (marksTake (fruTakes s)).reached d = s.reached d := fun d =>
    (hmarked.svc.regarded.reached d).trans (hreached d)
  refine ⟨fun e' he' => ?_, fun h e' he' m hm => ?_, fun h e' he' r hr => ?_⟩
  · exact hscu ▸ (hmarks.trans htears) e' he'
  · obtain ⟨e, he, hwithin⟩ := htears e' he'
    rw [← hreached]
    exact hmarksLate (hscu ▸ h) e he m (hwithin.mark m hm)
  · rw [← hreached']
    exact htearsLate (hhanded.trans h) e' he' r hr

/-! ## The entries -/

/-- The journal has grown by entries of other kinds than TIME_STEP. -/
def Rjn.Plain (r r' : Rjn) : Prop := ∃ es, r'.journal = r.journal ++ es ∧ ∀ e ∈ es, e.kind ≠ .timeStep

theorem Rjn.Plain.of_same {r r' : Rjn} (h : r'.journal = r.journal) : r.Plain r' := ⟨[], by simp [h], fun _ he => absurd he List.not_mem_nil⟩

theorem Rjn.Plain.refl (r : Rjn) : r.Plain r := .of_same rfl

theorem Rjn.Plain.trans {r r' r'' : Rjn} (h : r.Plain r') (h' : r'.Plain r'') : r.Plain r'' := by
  obtain ⟨es, hjournal, hkinds⟩ := h
  obtain ⟨es', hjournal', hkinds'⟩ := h'
  refine ⟨es ++ es', by rw [hjournal', hjournal, List.append_assoc], fun e he => ?_⟩
  exact (List.mem_append.mp he).elim (hkinds e) (hkinds' e)

theorem appendEntry_plain {e : Entry} (he : e.kind ≠ .timeStep) (s : State) : s.rjn.Plain (appendEntry e s).rjn :=
  ⟨[{ e with seq := s.rjn.nextSeq }], rfl, by simpa using he⟩

theorem judgeSpace_plain (s : State) : s.rjn.Plain (judgeSpace s).rjn := .of_same (by rw [judgeSpace_rjn])

theorem writeFree_plain {e : Entry} (he : e.kind ≠ .timeStep) (s : State) : s.rjn.Plain (writeFree e s).rjn := by
  unfold writeFree
  split
  · exact .of_same (by simp [countOverrun])
  · exact (appendEntry_plain he s).trans (judgeSpace_plain _)

theorem writeReserved_plain {e : Entry} (he : e.kind ≠ .timeStep) (s : State) :
    s.rjn.Plain (writeReserved e s).rjn := by
  unfold writeReserved
  split
  · exact writeFree_plain he s
  · exact appendEntry_plain he (s.setRjn { s.rjn with reserved := s.rjn.reserved - 1 })

theorem overrunEntry_plain (n : Nat) (s : State) : s.rjn.Plain (overrunEntry n s).rjn := by
  unfold overrunEntry
  split
  · exact (appendEntry_plain (by simp [State.entry, entryAt]) (s.setRjn { s.rjn with overrun := 0 })).trans
      (judgeSpace_plain _)
  · exact .refl _

theorem release1_plain_kinds (s : State) : s.rjn.Plain (release1 s).rjn := by
  unfold release1
  split
  · exact .refl _
  · exact (judgeSpace_plain (s.setRjn { s.rjn with reserved := s.rjn.reserved - 1 })).trans (overrunEntry_plain _ _)

theorem unresolveTear_plain (c : Nat) (r : Tear) (s : State) : s.rjn.Plain (unresolveTear c r s).rjn :=
  (writeReserved_plain (by simp [tearResolvedEntry, State.entry, entryAt]) s).trans (release1_plain_kinds (dropTear c _))

theorem expireTearsN_plain (n : Nat) (s : State) : s.rjn.Plain (expireTearsN n s).rjn := by
  induction n generalizing s with
  | zero => exact .refl _
  | succ n ih =>
    unfold expireTearsN
    split
    · exact (unresolveTear_plain _ _ s).trans (ih _)
    · exact .refl _

theorem rjn_swapBanks (r : Reason) (s : State) : (swapBanks r s).rjn
    = (writeFree { s.entry .fareSwitched r none with card := s.activeBank.imageId, extra := s.standbyBank.imageId }
      (s.setFru { s.fru with active := s.fru.active.other })).rjn := by
  unfold swapBanks
  dsimp only
  split
  · rfl
  · simp
    rfl

theorem swapBanks_plain (r : Reason) (s : State) : s.rjn.Plain (swapBanks r s).rjn := by
  rw [rjn_swapBanks]
  exact writeFree_plain (by simp [State.entry, entryAt]) (s.setFru { s.fru with active := s.fru.active.other })

theorem fruTakes_plain (s : State) : s.rjn.Plain (fruTakes s).rjn := by
  unfold fruTakes takeTimedSwitch
  split
  · split
    · split
      · exact swapBanks_plain .timed (setPendingSwitch none (s.setFru { s.fru with secondHanded := false }))
      · exact .refl _
    · exact .refl _
  · exact .refl _

theorem takeHanded_plain (s : State) : s.rjn.Plain (takeHanded s).rjn := by
  have hmarks : (marksTake (fruTakes s)).rjn = (fruTakes s).rjn := by simp
  refine (fruTakes_plain s).trans ?_
  rw [← hmarks]
  show Rjn.Plain _ (tearsTake (marksTake (fruTakes s))).rjn
  unfold tearsTake
  split
  · exact expireTearsN_plain _ ((marksTake (fruTakes s)).setScu _)
  · exact .refl _

end Sys2Proof.Machine
end

section
/-! SUPPORT. CLOCK SET (R20, R21). -/

namespace Sys2Proof.Machine

/-! ## What is handed, as FRU takes it -/

theorem fruTakes_banks (s : State) : (fruTakes s).fru.bankA = s.fru.bankA ∧ (fruTakes s).fru.bankB = s.fru.bankB := by
  by_cases h : s.fru.secondHanded = true ∧ ∃ d, s.fru.pendingSwitch = some d ∧ s.reached d = true
  · obtain ⟨hhanded, d, hpending, hreached⟩ := h
    rw [fruTakes_reached hhanded hpending hreached, fru_swapBanks]
    exact ⟨rfl, rfl⟩
  · rw [fruTakes_still fun hhanded d hpending => Bool.eq_false_iff.mpr fun hr => h ⟨hhanded, d, hpending, hr⟩]
    exact ⟨rfl, rfl⟩

theorem takeHanded_banks (s : State) :
    (takeHanded s).fru.bankA = s.fru.bankA ∧ (takeHanded s).fru.bankB = s.fru.bankB := by
  rw [fru_takeHanded]
  exact fruTakes_banks s

theorem fru_takeHanded_reached {s : State} {d : DayTime} (hhanded : s.fru.secondHanded = true)
    (hpending : s.fru.pendingSwitch = some d) (hreached : s.reached d = true) : (takeHanded s).fru
      = { s.fru with secondHanded := false, pendingSwitch := none, active := s.fru.active.other } := by
  rw [fru_takeHanded, fruTakes_reached hhanded hpending hreached, fru_swapBanks]
  rfl

theorem fru_takeHanded_still {s : State}
    (h : s.fru.secondHanded = true → ∀ d, s.fru.pendingSwitch = some d → s.reached d = false) :
    (takeHanded s).fru = { s.fru with secondHanded := false } := by
  rw [fru_takeHanded, fruTakes_still h]
  rfl

theorem noTime_swapBanks (r : Reason) (s : State) : (swapBanks r s).svc.reasons.noTime = s.svc.reasons.noTime := by
  have hwritten : ∀ e, (writeFree e (s.setFru { s.fru with active := s.fru.active.other })).svc.reasons.noTime
      = s.svc.reasons.noTime := fun e => by
    rw [show (writeFree e (s.setFru { s.fru with active := s.fru.active.other })).svc = _ from writeFree_judged e _]
    rfl
  unfold swapBanks
  dsimp only
  split
  · exact hwritten _
  · rw [setNoFare, setReasons_reasons]
    exact hwritten _

theorem noTime_takeHanded (s : State) : (takeHanded s).svc.reasons.noTime = s.svc.reasons.noTime := by
  have hfares : (fruTakes s).svc.reasons.noTime = s.svc.reasons.noTime := by
    unfold fruTakes takeTimedSwitch
    split
    · split
      · split
        · exact noTime_swapBanks .timed (setPendingSwitch none (s.setFru { s.fru with secondHanded := false }))
        · rfl
      · rfl
    · rfl
  rw [show (takeHanded s).svc = _ from (works_tearsTake (works_marksTake (.refl (fruTakes s)))).svc, hfares]

theorem link_takeHanded (s : State) : (takeHanded s).stl = { s.stl with notices := (takeHanded s).stl.notices } := by
  have hswap : ∀ (r : Reason) (u : State), (swapBanks r u).stl = { u.stl with notices := (swapBanks r u).stl.notices } := by
    intro r u
    have hwritten := fun e => (works_writeFree e (.refl (u.setFru { u.fru with active := u.fru.active.other }))).link
    unfold swapBanks
    dsimp only
    split
    · exact congrArg (fun x : Stl => { x with notices := raiseIn .fareSwitched x.notices }) (hwritten _)
    · rw [setNoFare, setReasons_eq]
      exact congrArg (fun x : Stl => { x with notices := raiseIn .fareSwitched x.notices }) (hwritten _)
  have hfares : (fruTakes s).stl = { s.stl with notices := (fruTakes s).stl.notices } := by
    unfold fruTakes takeTimedSwitch
    split
    · split
      · split
        · exact hswap .timed (setPendingSwitch none (s.setFru { s.fru with secondHanded := false }))
        · rfl
      · rfl
    · rfl
  rw [show (takeHanded s).stl = _ from (works_tearsTake (works_marksTake (.refl (fruTakes s)))).link, hfares]

/-! ## The time taken -/

/-- The state in which a CLOCK SET hands its time on. -/
def clockHanded (new : DayTime) (s : State) : State := handSecond (clockTaken new (noteStep new (takeHanded s)))

theorem clockSet_handed (new : DayTime) (s : State) : clockSet new s = takeHanded (clockHanded new s) := rfl

theorem noteStep_keeps (new : DayTime) (s : State) : (noteStep new s).fru = s.fru ∧ (noteStep new s).scu = s.scu := by
  unfold noteStep
  split <;> simp

theorem noteStep_keepsBut (new : DayTime) (s : State) : keepsBut [.rjn, .stl, .svc] s (noteStep new s) := by
  unfold noteStep
  split <;> simp [keepsBut, Part.forall_iff, Part.same]

theorem takeHanded_keepsBut (s : State) : keepsBut [.stl, .svc, .fru, .scu, .rjn, .lpt, .sgu] s (takeHanded s) := by
  simp [keepsBut, Part.forall_iff, Part.same, takeHanded]

theorem clockSet_keepsBut (new : DayTime) (s : State) :
    keepsBut [.stl, .svc, .fru, .scu, .rjn, .lpt, .sgu] s (clockSet new s) := by
  have hset : keepsBut [.stl, .svc, .fru, .scu, .rjn, .lpt, .sgu] (noteStep new (takeHanded s))
      (handSecond (clockTaken new (noteStep new (takeHanded s)))) := by
    simp [keepsBut, Part.forall_iff, Part.same, handSecond, clockTaken, setNoTime]
  exact (((takeHanded_keepsBut s).trans ((noteStep_keepsBut new _).mono (by simp))).trans hset).trans
    (takeHanded_keepsBut _)

theorem clockTaken_eq (new : DayTime) (s : State) : clockTaken new s = s.setSvc { s.svc with
    phase := 0, secondsDue := 0, day := new.day, secs := new.secs, timeKnown := true
    reasons := { s.svc.reasons with noTime := false }
    serviceTouched := (clockTaken new s).svc.serviceTouched } := by
  rw [clockTaken, setNoTime, setReasons_eq]
  rfl

theorem clockHanded_svc (new : DayTime) (s : State) : let v := (clockHanded new s).svc
    v = { s.svc with
      phase := 0, secondsDue := 0, day := new.day, secs := new.secs, timeKnown := true, reasons := v.reasons
      serviceTouched := v.serviceTouched }
    ∧ v.reasons.noTime = false := by
  have hregarded := (takeHanded_regarded s).trans (works_noteStep new (takeHanded s)).svc.regarded
  have hsvc : (clockHanded new s).svc = (clockTaken new (noteStep new (takeHanded s))).svc := rfl
  generalize noteStep new (takeHanded s) = n at hregarded hsvc
  intro v
  have hv : v = (clockTaken new n).svc := hsvc
  rw [clockTaken_eq] at hv
  rw [hv, show n.svc = _ from hregarded]
  exact ⟨rfl, rfl⟩

theorem clockHanded_handed (new : DayTime) (s : State) :
    (clockHanded new s).fru = { (takeHanded s).fru with secondHanded := true }
    ∧ (clockHanded new s).scu = { (takeHanded s).scu with marksHanded := true, tearsHanded := true } := by
  obtain ⟨hfru, hscu⟩ := noteStep_keeps new (takeHanded s)
  rw [clockHanded, clockTaken_eq, ← hfru, ← hscu]
  exact ⟨rfl, rfl⟩

theorem clockHanded_rjn (new : DayTime) (s : State) : (clockHanded new s).rjn = (noteStep new (takeHanded s)).rjn := by
  rw [clockHanded, clockTaken_eq]
  rfl

theorem clockHanded_stl (new : DayTime) (s : State) : (clockHanded new s).stl = (noteStep new (takeHanded s)).stl := by
  rw [clockHanded, clockTaken_eq]
  rfl

/-- A deadline at or before the new time. -/
theorem clockHanded_reached (new m : DayTime) (s : State) : (clockHanded new s).reached m = true
    ↔ m.day < new.day ∨ (m.day = new.day ∧ m.secs ≤ new.secs) := by
  have hnow : (clockHanded new s).now = new := by
    rw [State.now, (clockHanded_svc new s).1]
  rw [State.reached, hnow, DayTime.le]
  simp

/-! ## What the new time has reached -/

/-- A deadline that a clock set to `new` has passed. -/
def passedBy (new m : DayTime) : Prop := m.day < new.day ∨ (m.day = new.day ∧ m.secs ≤ new.secs)

/-- A timed switch that is taken at a CLOCK SET, at the second already handed or at the new time (R64). -/
def switchedBy (new : DayTime) (s : State) (m : DayTime) : Prop :=
  passedBy new m ∨ (s.fru.secondHanded = true ∧ s.reached m = true)

theorem clockSet_switched {new m : DayTime} {s : State} (hpending : s.fru.pendingSwitch = some m)
    (h : switchedBy new s m) :
    (clockSet new s).fru.active = s.fru.active.other ∧ (clockSet new s).fru.pendingSwitch = none := by
  obtain ⟨hfru, -⟩ := clockHanded_handed new s
  rw [clockSet_handed]
  by_cases hearly : s.fru.secondHanded = true ∧ s.reached m = true
  · obtain ⟨hhanded, hreached⟩ := hearly
    rw [fru_takeHanded_reached hhanded hpending hreached] at hfru
    have hnone : (clockHanded new s).fru.pendingSwitch = none := by rw [hfru]
    rw [fru_takeHanded_still fun _ d hd => absurd (hnone.symm.trans hd) nofun, hfru]
    exact ⟨rfl, rfl⟩
  · rw [fru_takeHanded_still fun hhanded d hd => ?_] at hfru
    · have hreached := (clockHanded_reached new m s).mpr (h.resolve_right hearly)
      rw [fru_takeHanded_reached (by rw [hfru]) (by rw [hfru]; exact hpending) hreached, hfru]
      exact ⟨rfl, rfl⟩
    · refine Bool.eq_false_iff.mpr fun hreached => hearly ⟨hhanded, ?_⟩
      rw [Option.some.inj (hpending.symm.trans hd), hreached]

theorem clockSet_unswitched {new : DayTime} {s : State}
    (h : ∀ m, s.fru.pendingSwitch = some m → ¬ switchedBy new s m) :
    (clockSet new s).fru = { s.fru with secondHanded := false } := by
  obtain ⟨hfru, -⟩ := clockHanded_handed new s
  rw [fru_takeHanded_still fun hhanded d hd => Bool.eq_false_iff.mpr fun hr => h d hd (.inr ⟨hhanded, hr⟩)] at hfru
  rw [clockSet_handed, fru_takeHanded_still fun _ d hd => ?_, hfru]
  rw [hfru] at hd
  exact Bool.eq_false_iff.mpr fun hr => h d hd (.inl ((clockHanded_reached new d s).mp hr))

theorem clockSet_banks (new : DayTime) (s : State) :
    (clockSet new s).fru.bankA = s.fru.bankA ∧ (clockSet new s).fru.bankB = s.fru.bankB := by
  obtain ⟨hfru, -⟩ := clockHanded_handed new s
  obtain ⟨hbankA, hbankB⟩ := takeHanded_banks s
  obtain ⟨hbankA', hbankB'⟩ := takeHanded_banks (clockHanded new s)
  rw [hfru] at hbankA' hbankB'
  exact ⟨hbankA'.trans hbankA, hbankB'.trans hbankB⟩

/-- Nothing that the new time has passed is left, nor, of what was handed, what the old time had (R94, R95). -/
theorem clockSet_sightings (new : DayTime) (s : State) : ∀ e ∈ (clockSet new s).scu.sightings,
    (∀ m, e.mark = some m → ¬ passedBy new m.deadline ∧ (s.scu.marksHanded = true → s.reached m.deadline = false))
    ∧ ∀ r, e.tear = some r → ¬ passedBy new r.deadline
      ∧ (s.scu.tearsHanded = true → s.reached r.deadline = false) := by
  obtain ⟨-, hscu⟩ := clockHanded_handed new s
  have hfirst := takeHanded_taken s
  have hlast := takeHanded_taken (clockHanded new s)
  rw [← clockSet_handed] at hlast
  have hpassed : ∀ d, (clockHanded new s).reached d = false → ¬ passedBy new d := fun d hd h =>
    absurd (hd.symm.trans ((clockHanded_reached new d s).mpr h)) nofun
  intro e he
  obtain ⟨e', he', hwithin⟩ := hlast.thinned e he
  rw [hscu] at he'
  refine ⟨fun m hm => ⟨?_, fun hhanded => ?_⟩, fun r hr => ⟨?_, fun hhanded => ?_⟩⟩
  · exact hpassed _ (hlast.marks (by rw [hscu]) e he m hm)
  · exact hfirst.marks hhanded e' he' m (hwithin.mark m hm)
  · exact hpassed _ (hlast.tears (by rw [hscu]) e he r hr)
  · exact hfirst.tears hhanded e' he' r (hwithin.tear r hr)

theorem clockSet_deny (new : DayTime) (s : State) :
    (clockSet new s).scu.deny = s.scu.deny ∧ (clockSet new s).scu.denyVersion = s.scu.denyVersion := by
  obtain ⟨-, hscu⟩ := clockHanded_handed new s
  have hlast := takeHanded_scu (clockHanded new s)
  rw [hscu] at hlast
  rw [clockSet_handed, show (takeHanded (clockHanded new s)).scu = _ from hlast,
    show (takeHanded s).scu = _ from takeHanded_scu s]
  exact ⟨rfl, rfl⟩

/-! ## The service record and the link -/

theorem clockSet_svc (new : DayTime) (s : State) : let v := (clockSet new s).svc
    v = { s.svc with
      phase := 0, secondsDue := 0, day := new.day, secs := new.secs, timeKnown := true, reasons := v.reasons
      serviceTouched := v.serviceTouched }
    ∧ v.reasons.noTime = false := by
  obtain ⟨hsvc, htime⟩ := clockHanded_svc new s
  intro v
  have hv : v = _ := takeHanded_regarded (clockHanded new s)
  refine ⟨?_, (noTime_takeHanded (clockHanded new s)).trans htime⟩
  rw [hsvc] at hv
  exact hv

theorem clockSet_link (new : DayTime) (s : State) :
    (clockSet new s).stl = { s.stl with notices := (clockSet new s).stl.notices } := by
  rw [clockSet_handed]
  have hlink := link_takeHanded (clockHanded new s)
  rw [clockHanded_stl, (works_noteStep new (takeHanded s)).link, link_takeHanded s] at hlink
  exact hlink

/-! ## The entries -/

theorem clockSet_grows (new : DayTime) (s : State) : (noteStep new (takeHanded s)).rjn.Grows (clockSet new s).rjn := by
  rw [← clockHanded_rjn, clockSet_handed]
  exact grows_takeHanded (.refl _)

theorem clockSet_plain (new : DayTime) (s : State) : (noteStep new (takeHanded s)).rjn.Plain (clockSet new s).rjn := by
  rw [← clockHanded_rjn, clockSet_handed]
  exact takeHanded_plain _

/-- A clock that is known and steps by more than 300 s (R21). -/
def stepNoted (new : DayTime) (s : State) : Prop :=
  s.svc.timeKnown = true ∧ (300 < clockStep s.now new ∨ clockStep s.now new < -300)

theorem stepNoted_takeHanded (new : DayTime) (s : State) : stepNoted new (takeHanded s) ↔ stepNoted new s := by
  have hregarded := takeHanded_regarded s
  have hknown : (takeHanded s).svc.timeKnown = s.svc.timeKnown := by rw [show (takeHanded s).svc = _ from hregarded]
  rw [stepNoted, hregarded.now, hknown, stepNoted]

theorem noteStep_noted {new : DayTime} {s : State} (h : stepNoted new s) :
    noteStep new s = writeFree (timeStepEntry s.now new) s := if_pos h

theorem noteStep_silent {new : DayTime} {s : State} (h : ¬ stepNoted new s) : noteStep new s = s := if_neg h

/-- The TIME_STEP entry comes first where nothing was handed before. -/
theorem clockSet_steps_first {new : DayTime} {s : State} (hnoted : stepNoted new s) (hstill : takeHanded s = s)
    (hroom : 0 < s.free) : firstEntry (timeStepEntry s.now new) s (clockSet new s) := by
  have hgrows := clockSet_grows new s
  rw [hstill, noteStep_noted hnoted] at hgrows
  exact firstEntry_writeFree hroom hgrows

theorem clockSet_plain_of_silent {new : DayTime} {s : State} (h : ¬ stepNoted new s) :
    s.rjn.Plain (clockSet new s).rjn := by
  have hplain := clockSet_plain new s
  rw [noteStep_silent (mt (stepNoted_takeHanded new s).mp h)] at hplain
  exact (takeHanded_plain s).trans hplain

/-- A switch that was due at the second already handed is the first entry. -/
theorem clockSet_switch_first {new m : DayTime} {s : State} (hhanded : s.fru.secondHanded = true)
    (hpending : s.fru.pendingSwitch = some m) (hreached : s.reached m = true) (hroom : 0 < s.free) :
    firstEntry { s.entry .fareSwitched .timed none with
      card := s.activeBank.imageId, extra := s.standbyBank.imageId } s (clockSet new s) := by
  have hrest : (fruTakes s).rjn.Grows (clockSet new s).rjn := by
    refine Rjn.Grows.trans ?_ (clockSet_grows new s)
    simp [takeHanded]
  rw [fruTakes_reached hhanded hpending hreached, rjn_swapBanks] at hrest
  have hfirst := firstEntry_writeFree (t := clockSet new s) (by exact hroom) hrest
  exact hfirst

/-- The one TIME_STEP entry a CLOCK SET can write, and none where the journal has no place (R21, R160). -/
theorem writeFree_one (e : Entry) (s : State) : ∃ es, (writeFree e s).rjn.journal = s.rjn.journal ++ es
    ∧ es.length ≤ 1 ∧ ∀ e' ∈ es, e' = { e with seq := s.rjn.nextSeq } := by
  by_cases hroom : s.free = 0
  · exact ⟨[], by simp [writeFree, hroom, countOverrun], Nat.zero_le _, fun _ h => absurd h List.not_mem_nil⟩
  · exact ⟨[{ e with seq := s.rjn.nextSeq }], by rw [writeFree_room e s hroom], le_rfl, fun _ h => List.mem_singleton.mp h⟩

theorem timeSteps_of_plain {es : List Entry} (h : ∀ e ∈ es, e.kind ≠ .timeStep) :
    (es.filter fun e => e.kind == .timeStep) = [] :=
  List.filter_eq_nil_iff.mpr fun e he => by simpa using h e he

theorem clockSet_steps_once {new : DayTime} {s : State} (hnoted : stepNoted new s) :
    ∃ es, (clockSet new s).rjn.journal = s.rjn.journal ++ es
      ∧ (es.filter fun e => e.kind == .timeStep).length ≤ 1
      ∧ ∀ e ∈ es, e.kind = .timeStep → e.day = new.day ∧ e.secs = new.secs ∧ e.extra = s.svc.secs := by
  have hplain := clockSet_plain new s
  rw [noteStep_noted ((stepNoted_takeHanded new s).mpr hnoted)] at hplain
  obtain ⟨es, hjournal, hkinds⟩ := takeHanded_plain s
  obtain ⟨es', hjournal', hone, hstep⟩ := writeFree_one (timeStepEntry (takeHanded s).now new) (takeHanded s)
  obtain ⟨es'', hjournal'', hkinds''⟩ := hplain
  refine ⟨es ++ (es' ++ es''), by rw [hjournal'', hjournal', hjournal, List.append_assoc, List.append_assoc], ?_,
    fun e he hkind => ?_⟩
  · rw [List.filter_append, List.filter_append, timeSteps_of_plain hkinds, timeSteps_of_plain hkinds'', List.nil_append,
      List.append_nil]
    exact (List.length_filter_le _ _).trans hone
  · rcases List.mem_append.mp he with he | he
    · exact absurd hkind (hkinds e he)
    rcases List.mem_append.mp he with he | he
    · rw [hstep e he, (takeHanded_regarded s).now]
      exact ⟨rfl, rfl, rfl⟩
    · exact absurd hkind (hkinds'' e he)

/-! ## The request -/

theorem readDayTime_body {day secs : Nat} (hday : day < 65536) (hsecs : secs < 16777216) :
    readDayTime (toBE 2 day ++ toBE 3 secs) 0 = ⟨day, secs⟩ := by
  have hfirst : field (toBE 2 day ++ toBE 3 secs) 0 2 = day := by
    rw [field_toBE_front, Nat.mod_eq_of_lt (show day < 256 ^ 2 from hday)]
  have hlast : field (toBE 2 day ++ toBE 3 secs) 2 3 = secs := by
    rw [field_toBE_skip _ _ _ _ le_rfl, Nat.sub_self, field_self (length_toBE 3 secs), fromBE_toBE,
      Nat.mod_eq_of_lt (show secs < 256 ^ 3 from hsecs)]
  rw [readDayTime, hfirst, hlast]

theorem clockInRange_iff (day secs : Nat) :
    (DayTime.mk day secs).inRange = true ↔ 1 ≤ day ∧ day ≤ 65534 ∧ secs ≤ 86399 := by
  simp [DayTime.inRange, and_assoc]

/-- Settles O48: a time out of range is refused; one in range is taken, with what it has reached. -/
theorem clockSetTakesTime : Obligations.ClockSetTakesTime := by
  intro addr src day secs s hformed hears hday hsecs body inRange stepped noted passed switched nothingHanded
  have hlen : reqClockSet.lengthOk body.length = true := by simp [body, reqClockSet, exactly]
  have hfit : body.length ≤ 240 := by simp [body]
  have hread : readDayTime body 0 = ⟨day, secs⟩ := readDayTime_body hday hsecs
  refine ⟨fun hout => ?_, fun hin => ?_⟩
  · have hrun : ∀ p, p ≠ Port.lane → reqClockSet.run p body s.listening = (s.listening, refusal .badField) := by
      intro p _
      show clockSetRun body s.listening = _
      rw [clockSetRun, hread]
      exact if_neg fun h => hout ((clockInRange_iff day secs).mp h)
    have hquiet := stationRequest_quiet (src := src) hears hformed hlen hfit hrun
    refine ⟨_, rfl, ?_⟩
    rw [hquiet]
    exact ⟨keepsBut_setStl _ s, rfl⟩
  · let new : DayTime := ⟨day, secs⟩
    have hrun : ∀ p, p ≠ Port.lane → reqClockSet.run p body s.listening = (clockSet new s.listening, okay) := by
      intro p _
      show clockSetRun body s.listening = _
      rw [clockSetRun, hread]
      exact if_pos ((clockInRange_iff day secs).mpr hin)
    have hheard := stationRequest_heard (src := src) hears hlen hfit hrun (clockSet_link new s.listening)
    refine ⟨_, rfl, ?_⟩
    rw [hheard]
    obtain ⟨hsvc, htime⟩ := clockSet_svc new s.listening
    have hkeeps : keepsBut [.stl, .svc, .fru, .scu, .rjn, .lpt, .sgu] s (clockSet new s.listening) :=
      ((keepsBut_setStl _ s).mono (by simp)).trans (clockSet_keepsBut new s.listening)
    obtain ⟨hbankA, hbankB⟩ := clockSet_banks new s.listening
    obtain ⟨hdeny, hversion⟩ := clockSet_deny new s.listening
    obtain ⟨w, hw⟩ : ∃ w, w = clockSet new s.listening := ⟨_, rfl⟩
    rw [← hw] at hsvc htime hkeeps hbankA hbankB hdeny hversion ⊢
    obtain ⟨t, ht⟩ : ∃ t, t = finish (w.setStl (s.linkTaken reqClockSet addr src okay
      { s.stl with notices := w.stl.notices })) := ⟨_, rfl⟩
    rw [← ht]
    have hrjn : t.rjn = w.rjn := by rw [ht]; simp
    have hfru : t.fru = w.fru := by rw [ht]; simp
    have hscu : t.scu = w.scu := by rw [ht]; simp
    have hsvc' : t.svc = { w.svc with serviceTouched := false } := by rw [ht, finish_svc]; rfl
    refine ⟨?_, ?_, ?_, ?_, ⟨_, by rw [ht, finish_stl]; rfl⟩, fun hnoted hnothing hroom => ?_, fun hnoted => ?_,
      fun hsilent => ?_, fun m hhanded hpending hreached hroom => ?_, ?_, fun hnone => ?_, ?_, ?_, ?_, ?_, ?_⟩
    · refine hkeeps.trans ?_
      rw [ht]
      simp [keepsBut, Part.forall_iff, Part.same]
    · rw [ht]
      exact finish_formed _
    · obtain ⟨-, -, htouched⟩ := hformed
      rw [hsvc', hsvc, ← htouched]
      rfl
    · rw [hsvc']
      exact htime
    · obtain ⟨hfares, hmarks, htears⟩ := hnothing
      rw [firstEntry, hrjn, hw]
      exact clockSet_steps_first (s := s.listening) hnoted (takeHanded_still hfares hmarks htears) hroom
    · rw [hrjn, hw]
      exact clockSet_steps_once (s := s.listening) hnoted
    · rw [hrjn, hw]
      exact clockSet_plain_of_silent (s := s.listening) hsilent
    · rw [firstEntry, hrjn, hw]
      exact clockSet_switch_first (s := s.listening) hhanded hpending hreached hroom
    · rintro ⟨m, hpending, hswitched⟩
      rw [hfru, hw]
      exact clockSet_switched (s := s.listening) hpending hswitched
    · rw [hfru, hw]
      exact clockSet_unswitched (s := s.listening) hnone
    · rw [hfru, hbankA]
      rfl
    · rw [hfru, hbankB]
      rfl
    · rw [hscu, hw]
      exact clockSet_sightings new s.listening
    · rw [hscu, hdeny]
      rfl
    · rw [hscu, hversion]
      rfl

end Sys2Proof.Machine
end

section
/-! SUPPORT. The lane restart (R24, R56, R120, R127, R143, R153, R189). -/

namespace Sys2Proof.Machine

/-! ## What a restart leaves of the ports and the service -/

/-- The service stands but for the reason set, the ports but for their notices, and RESTARTED is raised in neither
set. -/
structure Hushed (s t : State) : Prop where
  svc : s.svc.Regarded t.svc
  lane : t.lpt = { s.lpt with notices := t.lpt.notices }
  laneSame : SameNotice .restarted s.lpt.notices t.lpt.notices
  link : t.stl = { s.stl with notices := t.stl.notices }
  linkSame : SameNotice .restarted s.stl.notices t.stl.notices

theorem Hushed.refl (s : State) : Hushed s s := ⟨rfl, rfl, rfl, rfl, rfl⟩

theorem Hushed.trans {s t u : State} (h : Hushed s t) (h' : Hushed t u) : Hushed s u where
  svc := h.svc.trans h'.svc
  lane := by rw [h'.lane, h.lane]
  laneSame := h.laneSame.trans h'.laneSame
  link := by rw [h'.link, h.link]
  linkSame := h.linkSame.trans h'.linkSame

theorem Works.hushed {s t : State} (h : Works s t) : Hushed s t :=
  ⟨h.svc.regarded, h.lane, h.laneSet _ (by decide), h.link, h.linkSet _ (by decide)⟩

theorem Hushed.of_same {s t : State} (hsvc : s.svc.Regarded t.svc) (hlpt : t.lpt = s.lpt) (hstl : t.stl = s.stl) :
    Hushed s t := ⟨hsvc, by rw [hlpt], by rw [hlpt]; rfl, by rw [hstl], by rw [hstl]; rfl⟩

/-! ## The queues and the table of a cancelled lane, whatever the reason (R116) -/

theorem scu_cancelCredit (d : Side) (r : Reason) (c : Credit) (s : State) :
    (cancelCredit d r c s).scu = (markCredit d c (writeReserved (creditEntry s .creditCancelled r d c) s)).scu := by
  unfold cancelCredit
  dsimp only
  split <;> simp

theorem cancelFrom_remarked (d : Side) (r : Reason) (l : List Credit) {s : State} (h : Keyed s.scu.sightings) :
    Remarked s (cancelFrom d r l s) ∧ ListKept s (cancelFrom d r l s) := by
  induction l generalizing s with
  | nil => exact ⟨.refl h, rfl⟩
  | cons c l ih =>
    have hscu : (writeReserved (creditEntry (setQueue d l s) .creditCancelled r d c) (setQueue d l s)).scu = s.scu := by
      simp
    have hmarked : Remarked s (cancelCredit d r c (setQueue d l s)) := by
      have hmark := remarked_markCredit d c (s := writeReserved (creditEntry (setQueue d l s) .creditCancelled r d c)
        (setQueue d l s)) (hscu ▸ h)
      exact Remarked.of_scu ⟨hmark.keyed, hscu ▸ hmark.tears, hscu ▸ hmark.entries⟩ (scu_cancelCredit ..)
    have hlist : ListKept s (cancelCredit d r c (setQueue d l s)) := by
      have hmark : _ = _ := listKept_markCredit d c (writeReserved (creditEntry (setQueue d l s) .creditCancelled r d c)
        (setQueue d l s))
      rw [ListKept, scu_cancelCredit, hmark, hscu]
    obtain ⟨hmarked', hlist'⟩ := ih hmarked.keyed
    exact ⟨hmarked.trans hmarked', hlist.trans hlist'⟩

theorem cancelQueue_remarked (d : Side) (r : Reason) {s : State} (h : Keyed s.scu.sightings) :
    Remarked s (cancelQueue d r s) ∧ ListKept s (cancelQueue d r s) := by
  obtain ⟨hmarked, hlist⟩ := cancelFrom_remarked d r (s.queue d) h
  have hscu : (cancelQueue d r s).scu = (cancelFrom d r (s.queue d) s).scu := by simp [cancelQueue, stopWindow]
  exact ⟨hmarked.of_scu hscu, by rw [ListKept, hscu]; exact hlist⟩

theorem cancelBoth_remarked (r : Reason) {s : State} (h : Keyed s.scu.sightings) :
    Remarked s (cancelBoth r s) ∧ ListKept s (cancelBoth r s) := by
  obtain ⟨hmarked, hlist⟩ := cancelQueue_remarked .u r h
  obtain ⟨hmarked', hlist'⟩ := cancelQueue_remarked .p r hmarked.keyed
  exact ⟨hmarked.trans hmarked', hlist.trans hlist'⟩

theorem reserved_cancelBoth (r : Reason) (s : State) :
    (cancelBoth r s).rjn.reserved = s.rjn.reserved - (s.queue .u).length - (s.queue .p).length := by
  have hother : (cancelQueue .u r s).queue .p = s.queue .p := queue_of_withQueue (pcu_cancelQueue .u r s) .p
  rw [cancelBoth, reserved_cancelQueue, reserved_cancelQueue, hother]

/-- The lane that a start or a restart settles, from books that are seated (R56, R120, R159). -/
theorem settleLane_emptied (r : Reason) {s : State} (h : Seated s) : let t := settleLane r s
    (∀ x, t.slot x = none) ∧ (∀ d, t.queue d = []) ∧ t.rjn.reserved = 2 * t.tears.length ∧ ListKept s t := by
  obtain ⟨hseated, hsettles, -, -, hslots, -⟩ := tearSlots_seated h
  have hheld := hseated.held
  rw [held_eq, hslots, hslots] at hheld
  simp only [slotHeld] at hheld
  obtain ⟨hmarked, hlist⟩ := cancelBoth_remarked r hseated.keyed
  have hscu : (settleLane r s).scu = (cancelBoth r (tearSlots s)).scu := by simp [settleLane]
  have hrjn : (settleLane r s).rjn = (cancelBoth r (tearSlots s)).rjn := by simp [settleLane]
  have htxu : (settleLane r s).txu = (tearSlots s).txu := by simp [settleLane]
  have hpcu := pcu_settleLane r s
  rw [pcu_cancelBoth] at hpcu
  refine ⟨fun x => (slot_of_txu htxu x).trans (hslots x), fun d => ?_, ?_, ?_⟩
  · cases d <;> simp [State.queue, hpcu]
  · rw [hrjn, reserved_cancelBoth, hheld, length_tears, hscu, hmarked.tears]
    omega
  · have hall : ListKept s (cancelBoth r (tearSlots s)) := ListKept.trans hsettles.scu hlist
    rw [ListKept, hscu]
    exact hall

/-! ## Channels that stay stopped -/

theorem state_stop (c : Channel) : c.stop.state = .stopped := by
  cases hstate : c.state <;> simp only [Channel.stop, hstate]

theorem stopped_chanStop {i : ChanId} (j : ChanId) {s : State} (h : (s.chan i).state = .stopped) :
    ((chanStop j s).chan i).state = .stopped := by
  rw [chan_chanStop]
  split
  · exact state_stop _
  · exact h

theorem stopped_self (i : ChanId) (s : State) : ((chanStop i s).chan i).state = .stopped := by
  rw [chan_chanStop, if_pos rfl, state_stop]

theorem stopped_of_ltu {i : ChanId} {s t : State} (ht : t.ltu = s.ltu) (h : (s.chan i).state = .stopped) :
    (t.chan i).state = .stopped := by
  have hchan : t.chan i = s.chan i := by simp only [State.chan, ht]
  rw [hchan, h]

theorem stopped_cancelQueue {i : ChanId} (d : Side) (r : Reason) {s : State} (h : (s.chan i).state = .stopped) :
    ((cancelQueue d r s).chan i).state = .stopped :=
  stopped_chanStop _ (stopped_of_ltu (s := s) (by simp) h)

/-- A settled lane has its windows and OCCUPANCY stopped, and what was stopped when its slots were settled. -/
theorem settleLane_stopped (r : Reason) (s : State) (i : ChanId) (h : i = .windowUp ∨ i = .windowPu ∨ i = .occupancy
    ∨ ((tearSlots s).chan i).state = .stopped) : ((settleLane r s).chan i).state = .stopped := by
  have hbody : ((chanStop .occupancy (cancelBoth r (tearSlots s))).chan i).state = .stopped := by
    rcases h with rfl | rfl | rfl | h
    · exact stopped_chanStop _ (stopped_cancelQueue .p r (stopped_self .windowUp _))
    · exact stopped_chanStop _ (stopped_self .windowPu _)
    · exact stopped_self .occupancy _
    · exact stopped_chanStop _ (stopped_cancelQueue .p r (stopped_cancelQueue .u r h))
  exact stopped_of_ltu (s := clearTracker (chanStop .occupancy (cancelBoth r (tearSlots s))))
    (by simp [settleLane]) hbody

/-- A slot settled has its write wait stopped (R105). -/
theorem stopped_tearSlots {x : Side} {s : State} (hs : Seated s) (h : s.slot x ≠ none) :
    ((tearSlots s).chan (writeOf x)).state = .stopped := by
  have hself : ∀ (x : Side) (u : State), u.slot x ≠ none →
      ((tearSlot x u).chan (writeOf x)).state = .stopped := by
    intro x u hu
    unfold tearSlot
    split
    · exact stopped_of_ltu (s := chanStop (writeOf x) u) (by simp) (stopped_self _ u)
    next hnone => exact absurd hnone hu
  have hother : ∀ (x : Side) (i : ChanId) (u : State), (u.chan i).state = .stopped →
      ((tearSlot x u).chan i).state = .stopped := by
    intro x i u hu
    unfold tearSlot
    split
    · exact stopped_of_ltu (s := chanStop (writeOf x) u) (by simp) (stopped_chanStop _ hu)
    · exact hu
  cases x with
  | u => exact hother .p _ _ (hself .u s h)
  | p =>
    obtain ⟨-, -, -, -, -, hstands, -⟩ := tearSlot_seated hs .u
    exact hself .p _ (hstands ▸ h)

/-- The leaves of a lane without credits start no other channel than LEAF_MOVE. -/
theorem stopped_commandLeaves {i : ChanId} {n : Nat} {s : State} (hi : i ≠ .leafMove) (hup : s.pcu.queueUp = [])
    (hpu : s.pcu.queuePu = []) (h : (s.chan i).state = .stopped) : ((commandLeaves n s).chan i).state = .stopped := by
  have hmove : ∀ u : State, (u.chan i).state = .stopped → ((startMove u).chan i).state = .stopped := fun u hu => by
    rw [startMove, chan_chanStart, if_neg (Ne.symm hi)]
    exact hu
  have hclosed : ∀ u : State, u.pcu = s.pcu → (u.chan i).state = .stopped →
      ((enterClosed u).chan i).state = .stopped := by
    intro u hpcu hu
    have hnone : ∀ v : State, v.pcu = s.pcu → choice v = none := fun v hv => by rw [choice, hv, hup, hpu]
    unfold enterClosed
    dsimp only
    rw [hnone _ (by simpa using hpcu)]
    exact stopped_chanStop .leafHold (stopped_chanStop .leafMove hu)
  have hfree : ∀ u : State, u.lfc.leaf = .closing → (u.chan i).state = .stopped →
      ((freeOpen u).chan i).state = .stopped := by
    intro u hleaf hu
    have hleave : leaveOpen u = u := by rw [leaveOpen, hleaf]
    have hdriven : ((freeDriven u).chan i).state = .stopped := by
      unfold freeDriven
      rw [hleave]
      exact hmove _ (stopped_chanStop .leafHold hu)
    rw [freeOpen_eq]
    split_ifs
    · exact hu
    · exact stopped_chanStop _ hdriven
    · exact hdriven
  rw [commandLeaves_eq]
  dsimp only
  split_ifs
  · exact h
  · exact hfree _ rfl h
  · exact hclosed _ rfl h
  · unfold driveClosed
    dsimp only
    split
    · exact hclosed _ rfl (hmove _ h)
    · exact hmove _ h

theorem stopped_restartLeaves {i : ChanId} {s : State} (hi : i ≠ .leafMove) (hup : s.pcu.queueUp = [])
    (hpu : s.pcu.queuePu = []) (h : (s.chan i).state = .stopped) : ((restartLeaves s).chan i).state = .stopped := by
  unfold restartLeaves
  split
  · exact h
  · refine stopped_commandLeaves hi (by simpa [setLeafFault] using hup) (by simpa [setLeafFault] using hpu) ?_
    exact stopped_of_ltu (s := chanStop .leafMove (chanStop .leafHold s)) (by simp [setLeafFault])
      (stopped_chanStop _ (stopped_chanStop _ h))

/-! ## A restart up to its notices (R189) -/

/-- A restart with its START entry, before the lane is settled. -/
def restartOpened (r : Reason) (s : State) : State := writeStart r (clearBeamFilters s)

/-- A restart with lane, leaves and free period settled, before hold, signals and notices. -/
def restartLeft (r : Reason) (s : State) : State := settleFree (restartLeaves (settleLane .restart (restartOpened r s)))

theorem laneRestarted_eq (r : Reason) (s : State) :
    laneRestarted r s = raiseBoth .restarted (resetSignals (clearHold (restartLeft r s))) := rfl

theorem restartOpened_seated (r : Reason) {s : State} (h : Seated s) : Seated (restartOpened r s) :=
  h.of_same (by simp [restartOpened, writeStart]) (by simp [restartOpened, writeStart])
    (by simp [restartOpened, writeStart]) (writeFree_reserved _ _)

theorem hushed_clearTracker (s : State) : Hushed s (clearTracker s) := .of_same rfl rfl rfl

theorem hushed_settleLane (r : Reason) (s : State) : Hushed s (settleLane r s) := by
  have hstopped : Works s (chanStop .occupancy (cancelBoth r (tearSlots s))) :=
    works_chanStop .occupancy (works_cancelBoth r (works_tearSlot .p (works_tearSlot .u (.refl s))))
  exact (hstopped.hushed.trans (hushed_clearTracker _)).trans (works_auditStart (.refl _)).hushed

theorem hushed_restartLeaves (s : State) : Hushed s (restartLeaves s) := by
  unfold restartLeaves
  split
  · exact .refl s
  · refine .of_same ?_ ?_ ?_
    · have h : (commandLeaves 0 (setLeafFault false (chanStop .leafMove (chanStop .leafHold s)))).svc
          = (setLeafFault false (chanStop .leafMove (chanStop .leafHold s))).svc := by simp
      rw [h]
      exact setReasons_regarded _ (chanStop .leafMove (chanStop .leafHold s))
    · simp [setLeafFault]
    · simp [setLeafFault]

theorem hushed_restartLeft (r : Reason) (s : State) : Hushed s (restartLeft r s) := by
  have hopened : Hushed s (clearBeamFilters s) := .of_same rfl rfl rfl
  have hstart : Works (clearBeamFilters s) (restartOpened r s) := works_writeFree _ (.refl _)
  have hsettled : Hushed (restartOpened r s) (settleLane .restart (restartOpened r s)) := hushed_settleLane _ _
  exact (((hopened.trans hstart.hushed).trans hsettled).trans (hushed_restartLeaves _)).trans
    (works_settleFree (.refl _)).hushed

theorem restartLeaves_frame (s : State) : (restartLeaves s).scu = s.scu ∧ (restartLeaves s).txu = s.txu
    ∧ (restartLeaves s).pcu = s.pcu ∧ (restartLeaves s).rjn.reserved = s.rjn.reserved := by
  unfold restartLeaves
  split <;> simp [setLeafFault]

theorem reserved_settleFree (s : State) : (settleFree s).rjn.reserved = s.rjn.reserved := by
  unfold settleFree closeFree
  split
  · exact writeFree_reserved _ s
  · rfl

theorem pcu_settleFree (s : State) :
    (settleFree s).pcu = { s.pcu with freePeriod := (settleFree s).pcu.freePeriod } := by
  unfold settleFree closeFree
  split
  · simp
  · rfl

theorem lfc_restartLeft_freeOpen (r : Reason) {s : State} (h : s.lfc.leaf = .freeOpen) :
    (restartLeft r s).lfc = s.lfc := by
  have hc : (settleLane .restart (restartOpened r s)).lfc = s.lfc := by
    simp [settleLane, tearSlots, restartOpened, writeStart]
  have hd : restartLeaves (settleLane .restart (restartOpened r s)) = settleLane .restart (restartOpened r s) :=
    if_pos (hc ▸ h)
  rw [restartLeft, hd]
  simpa using hc

/-! ## What a restart leaves of a lane whose books are seated (R189) -/

/-- What stands after a restart with its notices raised, before the end of the event. -/
structure LaneSettled (r : Reason) (s t : State) : Prop where
  svc : t.svc = { s.svc with laneHold := false, reasons := t.svc.reasons, serviceTouched := t.svc.serviceTouched }
  hold : t.svc.reasons.laneHold = false
  lane : t.lpt = { s.lpt with notices := t.lpt.notices }
  laneTold : raisedOnce .restarted s.lpt.notices t.lpt.notices
  link : t.stl = { s.stl with notices := t.stl.notices }
  linkTold : raisedOnce .restarted s.stl.notices t.stl.notices
  inputs : t.inp = (clearBeamFilters s).inp
  slots : ∀ x, t.slot x = none
  queues : ∀ d, t.queue d = []
  reserved : t.rjn.reserved = 2 * t.tears.length
  list : ListKept s t
  stopped : ∀ i ∈ [ChanId.windowUp, .windowPu, .occupancy, .signal], (t.chan i).state = .stopped
  writes : ∀ x, s.slot x ≠ none → (t.chan (writeOf x)).state = .stopped
  tracker : t.pcu.episode = false ∧ t.pcu.episodeDir = none ∧ t.pcu.farClears = 0 ∧ t.anyBeam = false
  leaf : t.lfc.leaf ≠ .fault
  freeOpen : s.lfc.leaf = .freeOpen → t.lfc = s.lfc
  signals : t.sgu.tone = none ∧ t.sgu.hurryUp = false ∧ t.sgu.hurryPu = false ∧ t.sgu.flashU = none
    ∧ t.sgu.flashP = none
  entry : s.free = 0 ∨ firstEntry { s.entry .start r none with extra := s.rck.w.toNat } s t

theorem inp_restartLeaves (s : State) : (restartLeaves s).inp = s.inp := by
  unfold restartLeaves
  split <;> simp [setLeafFault]

theorem leaf_restartLeaves (s : State) : (restartLeaves s).lfc.leaf ≠ .fault := by
  unfold restartLeaves
  split
  next h => rw [h]; decide
  · exact leaf_commandLeaves 0 _

theorem grows_restartLeft (r : Reason) (s : State) : (restartOpened r s).rjn.Grows (restartLeft r s).rjn := by
  have hleaves : (restartOpened r s).rjn.Grows (restartLeaves (settleLane .restart (restartOpened r s))).rjn := by
    unfold restartLeaves
    split <;> simp [Rjn.Grows.refl]
  exact grows_settleFree hleaves

/-- The last three steps of a restart touch service, channels, signals and ports alone. -/
theorem laneRestarted_frame (r : Reason) (s : State) : (laneRestarted r s).inp = (restartLeft r s).inp
    ∧ (laneRestarted r s).txu = (restartLeft r s).txu ∧ (laneRestarted r s).scu = (restartLeft r s).scu
    ∧ (laneRestarted r s).pcu = (restartLeft r s).pcu ∧ (laneRestarted r s).lfc = (restartLeft r s).lfc
    ∧ (laneRestarted r s).rjn = (restartLeft r s).rjn := by
  simp [laneRestarted_eq, resetSignals, clearHold]

theorem ports_laneRestarted (r : Reason) (s : State) : let u := restartLeft r s
    (laneRestarted r s).lpt = { u.lpt with notices := raiseIn .restarted u.lpt.notices }
      ∧ (laneRestarted r s).stl = { u.stl with notices := raiseIn .restarted u.stl.notices } := by
  simp [laneRestarted_eq, raiseBoth, raiseLane, raiseStation, resetSignals, clearHold]

theorem stopped_laneRestarted {r : Reason} {s : State} {i : ChanId}
    (h : i = .signal ∨ ((restartLeft r s).chan i).state = .stopped) :
    ((laneRestarted r s).chan i).state = .stopped := by
  have hreset : ((resetSignals (clearHold (restartLeft r s))).chan i).state = .stopped := by
    rcases h with rfl | h
    · exact stopped_self .signal _
    · exact stopped_chanStop .signal (stopped_of_ltu (by simp [clearHold]) h)
  exact stopped_of_ltu (by simp [laneRestarted_eq]) hreset

/-- A restart stops the channels of the lane that its settling stops. -/
theorem stopped_restartLeft {r : Reason} {s : State} (h : Seated s) {i : ChanId} (hi : i ≠ .leafMove)
    (hsettled : i = .windowUp ∨ i = .windowPu ∨ i = .occupancy
      ∨ ((tearSlots (restartOpened r s)).chan i).state = .stopped) : ((restartLeft r s).chan i).state = .stopped := by
  obtain ⟨-, hqueue, -⟩ := settleLane_emptied .restart (restartOpened_seated r h)
  exact stopped_of_ltu (by simp [restartLeft])
    (stopped_restartLeaves hi (hqueue .u) (hqueue .p) (settleLane_stopped .restart _ i hsettled))

theorem laneRestarted_settled (r : Reason) {s : State} (h : Seated s) : LaneSettled r s (laneRestarted r s) := by
  have hopened := restartOpened_seated r h
  obtain ⟨hslots, hqueues, hreserved, hlist⟩ := settleLane_emptied .restart hopened
  obtain ⟨hinp, htxu, hscu, hpcu, hlfc, hrjn⟩ := laneRestarted_frame r s
  obtain ⟨hlpt, hstl⟩ := ports_laneRestarted r s
  obtain ⟨hsvc, hlane, hlaneSame, hlink, hlinkSame⟩ := hushed_restartLeft r s
  obtain ⟨c, hc⟩ : ∃ c, c = settleLane .restart (restartOpened r s) := ⟨_, rfl⟩
  obtain ⟨hscuLeaves, htxuLeaves, hpcuLeaves, hrjnLeaves⟩ := restartLeaves_frame c
  have hscuAll : (laneRestarted r s).scu = c.scu := by rw [hscu, restartLeft, ← hc]; simpa using hscuLeaves
  have htxuAll : (laneRestarted r s).txu = c.txu := by rw [htxu, restartLeft, ← hc]; simpa using htxuLeaves
  have hpcuAll : (laneRestarted r s).pcu = { c.pcu with freePeriod := (restartLeft r s).pcu.freePeriod } := by
    rw [hpcu, restartLeft, ← hc, pcu_settleFree, hpcuLeaves]
  have hrjnAll : (laneRestarted r s).rjn.reserved = c.rjn.reserved := by
    rw [hrjn, restartLeft, ← hc, reserved_settleFree, hrjnLeaves]
  have hservice : (laneRestarted r s).svc = (clearHold (restartLeft r s)).svc := by
    simp [laneRestarted_eq, resetSignals]
  have hheld : (clearHold (restartLeft r s)).svc = _ := congrArg State.svc (setReasons_eq _ _)
  rw [hheld] at hservice
  rw [← hc] at hslots hqueues hreserved hlist
  have hpcuC := pcu_settleLane .restart (restartOpened r s)
  rw [← hc] at hpcuC
  constructor
  case svc => rw [hservice, show (restartLeft r s).svc = _ from hsvc]; rfl
  case hold => rw [hservice]; rfl
  case lane => rw [hlpt, hlane]
  case laneTold =>
    rw [hlpt]
    exact raisedOnce_of_same hlaneSame rfl
  case link => rw [hstl, hlink]
  case linkTold =>
    rw [hstl]
    exact raisedOnce_of_same hlinkSame rfl
  case inputs =>
    rw [hinp]
    simp [restartLeft, inp_restartLeaves, settleLane, tearSlots, restartOpened, writeStart]
  case slots => exact fun x => (slot_of_txu htxuAll x).trans (hslots x)
  case queues =>
    intro d
    rw [← hqueues d]
    cases d <;> simp only [State.queue, hpcuAll]
  case reserved => rw [hrjnAll, hreserved, State.tears, State.tears, hscuAll]
  case list =>
    have hkept : ListKept (restartOpened r s) (laneRestarted r s) := by rw [ListKept, hscuAll]; exact hlist
    have hstart : (restartOpened r s).scu = s.scu := by simp [restartOpened, writeStart]
    rw [ListKept, ← hstart]
    exact hkept
  case stopped =>
    intro i hi
    simp only [List.mem_cons, List.not_mem_nil, or_false] at hi
    rcases hi with rfl | rfl | rfl | rfl
    · exact stopped_laneRestarted (.inr (stopped_restartLeft h nofun (.inl rfl)))
    · exact stopped_laneRestarted (.inr (stopped_restartLeft h nofun (.inr (.inl rfl))))
    · exact stopped_laneRestarted (.inr (stopped_restartLeft h nofun (.inr (.inr (.inl rfl)))))
    · exact stopped_laneRestarted (.inl rfl)
  case writes =>
    intro x hx
    have hslot : (restartOpened r s).slot x ≠ none := by
      rwa [slot_of_txu (s := s) (by simp [restartOpened, writeStart]) x]
    have hmove : writeOf x ≠ .leafMove := by cases x <;> decide
    have hwait := stopped_tearSlots hopened hslot
    exact stopped_laneRestarted (.inr (stopped_restartLeft h hmove (.inr (.inr (.inr hwait)))))
  case tracker => simp [State.anyBeam, hpcuAll, hpcuC]
  case leaf =>
    rw [hlfc, restartLeft]
    simpa using leaf_restartLeaves _
  case freeOpen => exact fun hfree => hlfc.trans (lfc_restartLeft_freeOpen r hfree)
  case signals => simp [laneRestarted_eq, resetSignals]
  case entry =>
    refine (Nat.eq_zero_or_pos s.free).imp id fun hroom => ?_
    exact firstEntry_writeFree (s := clearBeamFilters s) hroom (hrjn ▸ grows_restartLeft r s)

theorem restartLeaves_keepsBut (s : State) : keepsBut [.svc, .ltu, .lfc, .sgu, .rjn, .ads] s (restartLeaves s) := by
  unfold restartLeaves
  split <;> simp [keepsBut, Part.forall_iff, Part.same, setLeafFault]

theorem laneRestarted_keepsBut (r : Reason) (s : State) :
    keepsBut [.lpt, .stl, .svc, .txu, .scu, .ltu, .pcu, .lfc, .sgu, .rjn, .ads, .inp] s (laneRestarted r s) := by
  have hbefore : keepsBut [.lpt, .stl, .svc, .txu, .scu, .ltu, .pcu, .lfc, .sgu, .rjn, .ads, .inp] s
      (settleLane .restart (restartOpened r s)) := by
    simp [keepsBut, Part.forall_iff, Part.same, settleLane, tearSlots, restartOpened, writeStart]
  have hafter : keepsBut [.lpt, .stl, .svc, .txu, .scu, .ltu, .pcu, .lfc, .sgu, .rjn, .ads, .inp]
      (restartLeaves (settleLane .restart (restartOpened r s))) (laneRestarted r s) := by
    simp [keepsBut, Part.forall_iff, Part.same, laneRestarted_eq, restartLeft, resetSignals, clearHold]
  exact (hbefore.trans ((restartLeaves_keepsBut _).mono (by simp))).trans hafter

/-! ## A lane restart by either port -/

/-- The reason of a START entry by the port of the restart (R189). -/
def restartVia (via : Via) : Reason := if via = .lane then .lane else .station

/-- A restart by either port is the restart of the lane, between what the port takes of the frame and its answer. -/
theorem laneRestart_heard {via : Via} {s : State} (hbooks : Seated s) (h : s.hearsVia reqLaneRestart via) :
    ∃ a b v p x, v = laneRestarted (restartVia via) ((s.setLpt a).setStl b)
      ∧ exec (.laneRestart via []) s = .next (finish ((v.setLpt p).setStl x))
      ∧ a.notices = s.lpt.notices ∧ b.notices = s.stl.notices
      ∧ p = s.lptVia reqLaneRestart [] okay { s.lpt with notices := v.lpt.notices } via
      ∧ x = s.stlVia reqLaneRestart okay { s.stl with notices := v.stl.notices } via := by
  cases via with
  | lane =>
    have hsettled := laneRestarted_settled .lane (s := s.taking 0x13 []) (hbooks.of_same rfl rfl rfl rfl)
    have hexec : exec (.laneRestart .lane []) s = .next (finish (respond (reqLaneRestart.code + 0x80) okay
        (laneRestarted .lane (s.taking 0x13 [])))) :=
      congrArg Host.Outcome.next (laneRequest_open (rq := reqLaneRestart) (body := []) h rfl (by decide))
    obtain ⟨v, hv⟩ : ∃ v, v = laneRestarted .lane (s.taking 0x13 []) := ⟨_, rfl⟩
    rw [← hv] at hsettled hexec
    exact ⟨(s.taking 0x13 []).lpt, s.stl, v, (respond 0x93 okay v).lpt, v.stl, hv, hexec, rfl, rfl,
      respond_lpt okay (by decide) hsettled.lane, hsettled.link⟩
  | station addr src =>
    have hsettled := laneRestarted_settled .station (s := s.listening) (hbooks.of_same rfl rfl rfl rfl)
    have hrun : ∀ p, p ≠ Port.lane →
        reqLaneRestart.run p [] s.listening = (laneRestarted .station s.listening, okay) := by
      rintro (_ | _ | _) hp
      · exact absurd rfl hp
      · rfl
      · rfl
    have hexec : exec (.laneRestart (.station addr src) []) s = .next (finish _) :=
      congrArg Host.Outcome.next (stationRequest_heard (src := src) h rfl (by decide) hrun hsettled.link)
    dsimp only at hexec
    obtain ⟨v, hv⟩ : ∃ v, v = laneRestarted .station s.listening := ⟨_, rfl⟩
    rw [← hv] at hsettled hexec
    exact ⟨s.lpt, s.listening.stl, v, v.lpt, _, hv, hexec, rfl, rfl, hsettled.lane, rfl⟩

theorem lptVia_notices (s : State) (rq : Request) (body : List Byte) (a : Answer) (p : Lpt) (ns : List Notice)
    (via : Via) :
    { s.lptVia rq body a p via with notices := ns } = s.lptVia rq body a { p with notices := ns } via := by
  cases via <;> rfl

theorem stlVia_notices (s : State) (rq : Request) (a : Answer) (x : Stl) (ns : List Notice) (via : Via) :
    { s.stlVia rq a x via with notices := ns } = s.stlVia rq a { x with notices := ns } via := by
  cases via <;> rfl

/-- Settles O7: the restart settles a lane whose books are seated, and either port answers OK. -/
theorem laneRestartSettlesLane : Obligations.LaneRestartSettlesLane := by
  intro via s hbooks hears
  have hseated := seated_of_books hbooks
  obtain ⟨a, b, v, p, x, hv, hexec, ha, hb, hp, hx⟩ := laneRestart_heard hseated hears
  have hsettled := laneRestarted_settled (restartVia via) (s := (s.setLpt a).setStl b) (hseated.of_same rfl rfl rfl rfl)
  have hkeeps := laneRestarted_keepsBut (restartVia via) ((s.setLpt a).setStl b)
  rw [← hv] at hsettled hkeeps
  obtain ⟨w, hw⟩ : ∃ w, w = (v.setLpt p).setStl x := ⟨_, rfl⟩
  rw [← hw] at hexec
  obtain ⟨t, ht⟩ : ∃ t, t = finish w := ⟨_, rfl⟩
  rw [← ht] at hexec
  have hlpt : t.lpt = t.attnOn { p with notices := w.told p.notices } := by rw [ht, finish_lpt, hw]; rfl
  have hstl : t.stl = { x with notices := w.told x.notices } := by rw [ht, finish_stl, hw]; rfl
  have hpn : p.notices = v.lpt.notices := by rw [hp]; cases via <;> rfl
  have hxn : x.notices = v.stl.notices := by rw [hx]; cases via <;> rfl
  have hsvc : t.svc = { v.svc with serviceTouched := false } := by rw [ht, finish_svc, hw]; rfl
  have hsgu : t.sgu = t.lampsOn v.sgu := by rw [ht, finish_lampsOn, hw]; rfl
  have hinp : t.inp = (clearBeamFilters s).inp :=
    (show t.inp = v.inp by simp [ht, hw]).trans hsettled.inputs
  have hservice : t.svc = { s.svc with laneHold := false, reasons := v.svc.reasons, serviceTouched := false } := by
    rw [hsvc, hsettled.svc]
    rfl
  have hfilters := fun i => (congrArg (Inputs.of · i) hinp).trans (clearBeamFilters_of i s)
  have hscu : t.scu = v.scu := by simp [ht, hw]
  have hslots : ∀ x, t.slot x = none := fun x => (slot_of_txu (s := v) (by simp [ht, hw]) x).trans (hsettled.slots x)
  have hpcu : t.pcu = v.pcu := by simp [ht, hw]
  have hlfc : t.lfc = v.lfc := by simp [ht, hw]
  have hrjn : t.rjn = v.rjn := by simp [ht, hw]
  have hqueues : ∀ d, t.queue d = [] := fun d => by
    rw [← hsettled.queues d]
    cases d <;> simp only [State.queue, hpcu]
  have hchan : ∀ i, t.chan i = v.chan i := fun i => by simp [State.chan, ht, hw]
  have hstopped : ∀ i ∈ [ChanId.windowUp, .windowPu, .occupancy, .signal], (t.chan i).state = .stopped :=
    fun i hi => hchan i ▸ hsettled.stopped i hi
  obtain ⟨hepisode, hdir, hclears, hbeams⟩ := hsettled.tracker
  obtain ⟨htone, hhurryUp, hhurryPu, hflashU, hflashP⟩ := hsettled.signals
  have hlist : v.scu = _ := hsettled.list
  refine ⟨t, hexec, ?_, fun b => hfilters (.beam b), fun l sw => hfilters (.switch l sw), hfilters .emerg,
    ⟨w.told p.notices, ?_⟩, ⟨w.told x.notices, ?_⟩, ?_, ?_, by rw [hservice], by rw [hservice], by rw [hservice],
    by rw [hservice], by rw [hservice], by rw [hservice], by rw [hservice], by rw [hservice],
    by rw [hservice]; exact hsettled.hold, hlfc ▸ hsettled.leaf, hslots .u, hslots .p, hqueues .u, hqueues .p, ?_,
    by rw [hscu, hlist]; rfl, by rw [hscu, hlist]; rfl, fun d => ?_, hstopped _ (by decide), hstopped _ (by decide),
    fun x hx => hchan _ ▸ hsettled.writes x hx, hpcu ▸ hepisode, hpcu ▸ hdir, hpcu ▸ hclears, ?_,
    fun hfree => hlfc.trans (hsettled.freeOpen hfree), by rw [hsgu]; exact htone, by rw [hsgu]; exact hhurryUp,
    by rw [hsgu]; exact hhurryPu, by rw [hsgu]; exact hflashU, by rw [hsgu]; exact hflashP, ht ▸ finish_formed w, ?_⟩
  · have hports : keepsBut [.lpt, .stl] s ((s.setLpt a).setStl b) := by simp [keepsBut, Part.forall_iff, Part.same]
    have hend : keepsBut [.lpt, .stl, .svc, .sgu] v t := by
      rw [ht, hw]
      simp [keepsBut, Part.forall_iff, Part.same]
    exact ((hports.mono (by simp)).trans hkeeps).trans (hend.mono (by simp))
  · rw [hlpt, hp, lptVia_notices]
  · rw [hstl, hx, stlVia_notices]
  · rw [hlpt]
    refine raisedOnce_congr (ha ▸ rfl) hsettled.laneTold ?_
    exact hpn ▸ sameNotice_told (by decide) w _
  · rw [hstl]
    refine raisedOnce_congr (hb ▸ rfl) hsettled.linkTold ?_
    exact hxn ▸ sameNotice_told (by decide) w _
  · rw [hrjn, hsettled.reserved, State.tears, State.tears, hscu]
  · cases d <;> exact hstopped _ (by decide)
  · rw [State.anyBeam, hpcu]
    exact hbeams
  · refine hsettled.entry.imp id fun hentry => ?_
    rw [firstEntry, hrjn]
    exact hentry

end Sys2Proof.Machine
end

section
/-! SUPPORT. The books of the lane as a ledger: what reservations, slots, queues, tables and the tag rest on, and when it
balances with some reservations and tags still in hand (R32, R36, R52, R89, R90, R94, R108, R158, R159, R168). -/

namespace Sys2Proof.Machine

/-! ## The ledger -/

/-- What the books rest on. -/
structure Ledger where
  used : Nat
  reserved : Nat
  txu : Txu
  queueUp : List Credit
  queuePu : List Credit
  sightings : List Sighting
  markOrder : List Nat
  phase : AuditState
  sampled : Bool

/-- The ledger of a state. -/
def State.ledger (s : State) : Ledger :=
  { used := s.rjn.journal.length, reserved := s.rjn.reserved, txu := s.txu, queueUp := s.pcu.queueUp
    queuePu := s.pcu.queuePu, sightings := s.scu.sightings, markOrder := s.scu.markOrder, phase := s.ads.phase
    sampled := s.ads.sample.isSome }

/-- The slot of a side. -/
def Ledger.slot (L : Ledger) : Side → Option Slot
  | .u => L.txu.slotU
  | .p => L.txu.slotP

/-- The queue of a direction. -/
def Ledger.queue (L : Ledger) : Side → List Credit
  | .u => L.queueUp
  | .p => L.queuePu

@[simp] theorem slot_ledger (s : State) (x : Side) : s.ledger.slot x = s.slot x := by cases x <;> rfl

@[simp] theorem queue_ledger (s : State) (d : Side) : s.ledger.queue d = s.queue d := by cases d <;> rfl

/-- The slot of a side as the books count it: while an outcome is being settled, its slot counts as free. -/
def Ledger.kept (L : Ledger) (o : Option Side) (x : Side) : Option Slot := if o = some x then none else L.slot x

@[simp] theorem kept_none (L : Ledger) (x : Side) : L.kept none x = L.slot x := by simp [Ledger.kept]

theorem kept_eq_some {L : Ledger} {o : Option Side} {x : Side} {sl : Slot} :
    L.kept o x = some sl ↔ o ≠ some x ∧ L.slot x = some sl := by
  unfold Ledger.kept
  split <;> simp_all

/-- The places that the slots, the credits and the pending-tears hold (R159). -/
def Ledger.held (L : Ledger) (o : Option Side) : Nat :=
  slotHeld (L.kept o .u) + slotHeld (L.kept o .p) + L.queueUp.length + L.queuePu.length + 2 * tearCount L.sightings

/-- The tags that stand (R171). -/
def Ledger.tags (L : Ledger) (o : Option Side) : Nat :=
  slotTag (L.kept o .u) + slotTag (L.kept o .p) + (L.queueUp.filter Credit.audit).length
    + (L.queuePu.filter Credit.audit).length

/-- A slot awaits the write of an ACCEPT (R32). -/
def slotClaims : Option Slot → Bool
  | some sl => sl.kind == .accept
  | none => false

/-- The order of the marks names each marked card once, and at most 8 stand (R90, R94). -/
def Marked (l : List Sighting) (m : List Nat) : Prop :=
  m.Nodup ∧ m.length ≤ 8 ∧ ∀ c, c ∈ m ↔ ∃ e ∈ l, e.card = c ∧ e.mark.isSome

/-- The ledger balances with `k` reservations and `j` tags in hand; below 0 they are owed. The slot of a side whose
outcome is being settled counts as free. -/
structure Ledger.Balanced (o : Option Side) (k j : Int) (L : Ledger) : Prop where
  fits : L.used + L.reserved ≤ 4096
  held : (L.reserved : Int) = L.held o + k
  queues : ∀ d, (L.queue d).length + (slotClaims (L.kept o d)).toNat ≤ 4
  apart : ∀ a b, L.slot .u = some a → L.slot .p = some b → a.card ≠ b.card
  keyed : Keyed L.sightings
  size : L.sightings.length ≤ 512
  seen : ∀ x sl, L.kept o x = some sl →
    ∃ e ∈ L.sightings, e.card = sl.card ∧ e.inFlight.isSome ∧ e.tear = none
  owned : ∀ e ∈ L.sightings, e.inFlight.isSome → ∃ x sl, L.slot x = some sl ∧ sl.card = e.card
  tears : tearCount L.sightings ≤ 32
  marks : Marked L.sightings L.markOrder
  tags : (L.tags o : Int) + j = if L.phase = .tracking then 1 else 0
  sample : L.sampled = L.phase.holdsSample
  tagged : ∀ x sl, L.kept o x = some sl → sl.audit = true → sl.kind = .accept

/-- A keyed table shows a card exactly the entry of that card that stands in it. -/
theorem sighting_iff_mem {s : State} (h : Keyed s.scu.sightings) {c : Nat} {e : Sighting} :
    s.sighting c = some e ↔ e ∈ s.scu.sightings ∧ e.card = c := by
  refine ⟨fun hs => ⟨mem_of_sighting hs, card_of_sighting hs⟩, fun ⟨hmem, hcard⟩ => ?_⟩
  cases hs : s.sighting c with
  | none => exact absurd hcard (sighting_none_iff.mp hs e hmem)
  | some x => rw [eq_of_card h hmem (mem_of_sighting hs) ((card_of_sighting hs).trans hcard.symm)]

theorem claim_eq (s : State) (d : Side) : s.claim d = slotClaims (s.slot d) := by
  cases h : s.slot d <;> simp [State.claim, slotClaims, h]

/-- A card in a slot shows an entry with its in-flight record, told by the entries that stand. -/
theorem slotSeen_iff {s : State} (h : Keyed s.scu.sightings) : s.slotSeen ↔ ∀ x sl, s.slot x = some sl →
    ∃ e ∈ s.scu.sightings, e.card = sl.card ∧ e.inFlight.isSome ∧ e.tear = none := by
  refine forall_congr' fun x => forall_congr' fun sl => imp_congr_right fun _ => ?_
  simp only [sighting_iff_mem h, and_assoc]

theorem held_ledger (s : State) : s.ledger.held none = s.held := by
  rw [held_eq, Ledger.held, kept_none, kept_none, slot_ledger, slot_ledger]
  rfl

theorem tags_ledger (s : State) : s.ledger.tags none = s.tags := by
  rw [Ledger.tags, kept_none, kept_none, slot_ledger, slot_ledger, State.tags, List.filter_append, List.length_append,
    ← Nat.add_assoc]
  rfl

/-- The books are the judged space and a ledger that balances with nothing in hand. -/
theorem books_iff (s : State) : s.books ↔ s.spaceJudged ∧ s.ledger.Balanced none 0 0 := by
  have hclaims : ∀ d, (s.ledger.queue d).length + (slotClaims (s.ledger.kept none d)).toNat
      = (s.queue d).length + (s.claim d).toNat := fun d => by simp [claim_eq]
  constructor
  · rintro ⟨hfits, hjudged, hheld, hqueues, hapart, ⟨hkeyed, hsize⟩, hseen, howned, htears, hmarks, htag, hsample,
      htagged⟩
    refine ⟨hjudged, hfits, ?_, fun d => (hclaims d).trans_le (hqueues d), hapart, hkeyed, hsize,
      fun x sl hsl => (slotSeen_iff hkeyed).mp hseen x sl (by simpa using hsl), fun e he hfl => ?_,
      (length_tears s).symm.trans_le htears, hmarks, ?_, hsample,
      fun x sl hsl => htagged x sl (by simpa using hsl)⟩
    · rw [held_ledger, add_zero]
      exact_mod_cast hheld
    · simpa only [slot_ledger] using howned e he hfl
    · rw [tags_ledger, htag, add_zero]
      exact Nat.cast_ite ..
  · rintro ⟨hjudged, h⟩
    refine ⟨h.fits, hjudged, ?_, fun d => (hclaims d).symm.trans_le (h.queues d), h.apart, ⟨h.keyed, h.size⟩,
      (slotSeen_iff h.keyed).mpr fun x sl hsl => h.seen x sl (by simpa using hsl), fun e he hfl => ?_,
      (length_tears s).trans_le h.tears, h.marks, ?_, h.sample, fun x sl hsl => h.tagged x sl (by simpa using hsl)⟩
    · have := h.held
      rw [held_ledger, add_zero] at this
      exact_mod_cast this
    · simpa only [slot_ledger] using h.owned e he hfl
    · have := h.tags
      rw [tags_ledger, add_zero] at this
      exact Int.ofNat_inj.mp (this.trans (Nat.cast_ite ..).symm)

namespace Ledger.Balanced

variable {L : Ledger} {o : Option Side} {k j : Int}

theorem congr {k' j' : Int} (h : L.Balanced o k j) (hk : k = k') (hj : j = j') : L.Balanced o k' j' := hk ▸ hj ▸ h

/-! ## The journal's places (R158, R159) -/

/-- Places taken or given back within the journal's. -/
theorem respaced (h : L.Balanced o k j) {n r : Nat} (hfit : n + r ≤ 4096) :
    Balanced o (k + r - L.reserved) j { L with used := n, reserved := r } :=
  { h with
    fits := hfit
    held := by
      have := h.held
      show (r : Int) = L.held o + _
      omega }

/-! ## Tables (R89 to R95) -/

/-- One entry exchanged for another of its card. A slot's card keeps its in-flight record, and a new pending-tear finds
fewer than 32. -/
theorem exchanged (h : L.Balanced o k j) {e e' : Sighting} {l : List Sighting} {m : List Nat}
    (hx : Exchanged e e' L.sightings l) (hcard : e'.card = e.card)
    (hflight : e'.inFlight.isSome → e.inFlight.isSome ∨ ∃ x sl, L.slot x = some sl ∧ sl.card = e.card)
    (hseen : ∀ x sl, L.kept o x = some sl → sl.card = e.card → e'.inFlight.isSome ∧ e'.tear = none)
    (htear : e'.tear.isSome → e.tear.isSome ∨ tearCount L.sightings < 32) (hmarked : Marked l m) :
    Balanced o (k + 2 * e.tear.isSome.toNat - 2 * e'.tear.isSome.toNat) j { L with sightings := l, markOrder := m } := by
  have hcount := hx.tearCount
  have hkeyed := hx.keyed hcard h.keyed
  obtain ⟨r, hl, hl'⟩ := hx
  have hmem : ∀ x, x ∈ l ↔ x = e' ∨ x ∈ r := fun x => by simpa using hl'.mem_iff (a := x)
  have hmemL : ∀ x, x ∈ L.sightings ↔ x = e ∨ x ∈ r := fun x => by simpa using hl.mem_iff (a := x)
  refine { h with keyed := hkeyed, held := ?_, size := ?_, seen := ?_, owned := ?_, tears := ?_, marks := hmarked }
  · have := h.held
    simp only [Ledger.held] at this ⊢
    show (L.reserved : Int) = _
    change (L.reserved : Int) = ((slotHeld (L.kept o .u) + slotHeld (L.kept o .p) + L.queueUp.length
      + L.queuePu.length + 2 * tearCount l : Nat) : Int) + _
    push_cast at this ⊢
    omega
  · rw [hl'.length_eq]
    have := h.size
    rwa [hl.length_eq] at this
  · intro x sl hsl
    by_cases hc : sl.card = e.card
    · exact ⟨e', (hmem e').mpr (.inl rfl), hcard.trans hc.symm, hseen x sl hsl hc⟩
    · obtain ⟨y, hy, hyc, hrest⟩ := h.seen x sl hsl
      rcases (hmemL y).mp hy with rfl | hy
      · exact absurd hyc.symm hc
      · exact ⟨y, (hmem y).mpr (.inr hy), hyc, hrest⟩
  · intro y hy hfl
    rcases (hmem y).mp hy with rfl | hy
    · rw [hcard]
      exact (hflight hfl).elim (h.owned e ((hmemL e).mpr (.inl rfl))) id
    · exact h.owned y ((hmemL y).mpr (.inr hy)) hfl
  · have := h.tears
    show tearCount l ≤ 32
    cases ht' : e'.tear.isSome <;> cases ht : e.tear.isSome <;> simp only [ht, ht', Bool.toNat_true, Bool.toNat_false] at hcount
    · omega
    · omega
    · have := (htear ht').resolve_left (by simp [ht])
      omega
    · omega

/-- A slot's card shows its in-flight record and no pending-tear. -/
theorem seen_of_mem (h : L.Balanced o k j) {e : Sighting} (he : e ∈ L.sightings) {x : Side} {sl : Slot}
    (hsl : L.kept o x = some sl) (hcard : sl.card = e.card) : e.inFlight.isSome ∧ e.tear = none := by
  obtain ⟨y, hy, hyc, hrest⟩ := h.seen x sl hsl
  rwa [eq_of_card h.keyed he hy (hyc.trans hcard)] at hrest

/-- The marks stand where one entry is exchanged for another that is marked as it was. -/
theorem marked_exchanged {e e' : Sighting} {l l' : List Sighting} {m : List Nat} (h : Marked l m)
    (hx : Exchanged e e' l l') (hcard : e'.card = e.card) (hmark : e'.mark.isSome = e.mark.isSome) : Marked l' m := by
  obtain ⟨hnodup, hlen, hnamed⟩ := h
  obtain ⟨r, hl, hl'⟩ := hx
  refine ⟨hnodup, hlen, fun c => (hnamed c).trans ?_⟩
  simp only [hl.mem_iff, hl'.mem_iff, List.mem_cons, exists_eq_or_imp, hcard, hmark]

/-- One entry exchanged for another with the same records. -/
theorem retouched (h : L.Balanced o k j) {e e' : Sighting} {l : List Sighting} (he : e ∈ L.sightings)
    (hx : Exchanged e e' L.sightings l) (hcard : e'.card = e.card) (hflight : e'.inFlight = e.inFlight)
    (htear : e'.tear = e.tear) (hmark : e'.mark = e.mark) : Balanced o k j { L with sightings := l } := by
  refine (h.exchanged (m := L.markOrder) hx hcard (fun hf => .inl (hflight ▸ hf)) ?_ (fun ht => .inl (htear ▸ ht))
    (marked_exchanged h.marks hx hcard (by rw [hmark]))).congr (by rw [htear]; omega) rfl
  intro x sl hsl hc
  rw [hflight, htear]
  exact h.seen_of_mem he hsl hc

/-- Every entry changed in its mark alone. -/
theorem remarked (h : L.Balanced o k j) {f : Sighting → Sighting} {m : List Nat} (hcard : ∀ e, (f e).card = e.card)
    (hflight : ∀ e, (f e).inFlight = e.inFlight) (htear : ∀ e, (f e).tear = e.tear)
    (hmarked : Marked (L.sightings.map f) m) :
    Balanced o k j { L with sightings := L.sightings.map f, markOrder := m } := by
  have hcount : tearCount (L.sightings.map f) = tearCount L.sightings := by
    simp only [tearCount, List.filter_map, List.length_map, Function.comp_def, htear]
  refine { h with
    held := by
      have := h.held
      rw [Ledger.held] at this ⊢
      rw [hcount]
      exact this
    keyed := keyed_map hcard h.keyed, size := by rw [List.length_map]; exact h.size
    seen := ?_, owned := ?_, tears := by rw [hcount]; exact h.tears, marks := hmarked }
  · intro x sl hsl
    obtain ⟨e, he, hc, hfl, ht⟩ := h.seen x sl hsl
    exact ⟨f e, List.mem_map_of_mem he, (hcard e).trans hc, (hflight e).symm ▸ hfl, (htear e).trans ht⟩
  · intro y hy hfl
    obtain ⟨e, he, rfl⟩ := List.mem_map.mp hy
    rw [hcard]
    exact h.owned e he (hflight e ▸ hfl)

/-- An entry for a card that has none, beside the pinned entries. -/
theorem inserted (h : L.Balanced o k j) {e : Sighting} {l : List Sighting} (hsub : l.Sublist L.sightings)
    (hpinned : l.filter Sighting.pinned = L.sightings.filter Sighting.pinned) (hlen : l.length < 512)
    (hnew : ∀ x ∈ L.sightings, x.card ≠ e.card) (htear : e.tear = none) (hmark : e.mark = none)
    (hflight : e.inFlight.isSome → ∃ x sl, L.slot x = some sl ∧ sl.card = e.card) :
    Balanced o k j { L with sightings := l ++ [e] } := by
  have hkept : ∀ x ∈ L.sightings, x.pinned = true → x ∈ l := fun x hx hp =>
    (List.mem_filter.mp (hpinned ▸ List.mem_filter.mpr ⟨hx, hp⟩)).1
  have hcount : tearCount (l ++ [e]) = tearCount L.sightings := by
    have hfilter : ∀ q : List Sighting,
        q.filter (fun x => x.tear.isSome) = (q.filter Sighting.pinned).filter fun x => x.tear.isSome := by
      intro q
      rw [List.filter_filter]
      refine List.filter_congr fun x _ => ?_
      cases ht : x.tear <;> simp [Sighting.pinned, ht]
    simp only [tearCount]
    rw [List.filter_append, hfilter l, hpinned, ← hfilter]
    simp [htear]
  refine { h with
    held := by
      have := h.held
      rw [Ledger.held] at this ⊢
      rw [hcount]
      exact this
    keyed := ?_, size := by simp; omega, seen := ?_, owned := ?_, tears := by rw [hcount]; exact h.tears, marks := ?_ }
  · have hone : Keyed l := h.keyed.sublist (hsub.map _)
    rw [Keyed, List.map_append, List.nodup_append]
    refine ⟨hone, by simp, ?_⟩
    rintro a ha b hb rfl
    obtain ⟨x, hx, rfl⟩ := List.mem_map.mp ha
    exact hnew x (hsub.subset hx) (by simpa using hb)
  · intro x sl hsl
    obtain ⟨y, hy, hc, hfl, ht⟩ := h.seen x sl hsl
    exact ⟨y, List.mem_append_left _ (hkept y hy (by simp [Sighting.pinned, hfl])), hc, hfl, ht⟩
  · intro y hy hfl
    rcases List.mem_append.mp hy with hy | hy
    · exact h.owned y (hsub.subset hy) hfl
    · obtain rfl := List.mem_singleton.mp hy
      exact hflight hfl
  · obtain ⟨hnodup, hlen, hnamed⟩ := h.marks
    refine ⟨hnodup, hlen, fun c => (hnamed c).trans ⟨?_, ?_⟩⟩
    · rintro ⟨y, hy, hc, hm⟩
      exact ⟨y, List.mem_append_left _ (hkept y hy (by simp [Sighting.pinned, hm])), hc, hm⟩
    · rintro ⟨y, hy, hc, hm⟩
      rcases List.mem_append.mp hy with hy | hy
      · exact ⟨y, hsub.subset hy, hc, hm⟩
      · obtain rfl := List.mem_singleton.mp hy
        simp [hmark] at hm

/-- At most 42 entries are pinned (R90), so a place is always found. -/
theorem hasPlace (h : L.Balanced o k j) : HasPlace L.sightings := by
  rcases Nat.lt_or_ge L.sightings.length 512 with hlt | hge
  · exact .inl hlt
  refine .inr ⟨Nat.le_antisymm h.size hge, ?_⟩
  by_contra hall
  push Not at hall
  have hpinned : L.sightings.filter Sighting.pinned = L.sightings :=
    List.filter_eq_self.mpr fun e he => by simpa using hall e he
  have hflight := length_filter_le h.keyed (p := fun e => e.inFlight.isSome)
    (cards := (L.slot .u).toList.map Slot.card ++ (L.slot .p).toList.map Slot.card) fun e he hf => by
      obtain ⟨x, sl, hslot, hcard⟩ := h.owned e he hf
      cases x <;> simp [hslot, hcard]
  have hmark := length_filter_le h.keyed (p := fun e => e.mark.isSome) (cards := L.markOrder) fun e he hm =>
    (h.marks.2.2 e.card).mpr ⟨e, he, rfl, hm⟩
  have hsum := length_filter_pinned_le L.sightings
  have htwo : ((L.slot .u).toList.map Slot.card ++ (L.slot .p).toList.map Slot.card).length ≤ 2 := by
    cases L.slot .u <;> cases L.slot .p <;> simp
  have height := h.marks.2.1
  have hthirty : (L.sightings.filter fun e => e.tear.isSome).length ≤ 32 := h.tears
  rw [hpinned] at hsum
  omega

/-! ## Slots and queues (R31, R32, R36, R108) -/

/-- A queue replaced: the reservations and the tags of its credits are given back, those of the new ones taken. -/
theorem requeued_up (h : L.Balanced o k j) {q : List Credit} (hroom : q.length + (slotClaims (L.kept o .u)).toNat ≤ 4) :
    Balanced o (k + L.queueUp.length - q.length)
      (j + (L.queueUp.filter Credit.audit).length - (q.filter Credit.audit).length) { L with queueUp := q } :=
  { h with
    held := by
      have := h.held
      simp only [Ledger.held] at this ⊢
      change (L.reserved : Int) = ((slotHeld (L.kept o .u) + slotHeld (L.kept o .p) + q.length
        + L.queuePu.length + 2 * tearCount L.sightings : Nat) : Int) + _
      push_cast at this ⊢
      omega
    queues := fun d => by
      cases d with
      | u => exact hroom
      | p => exact h.queues .p
    tags := by
      have := h.tags
      simp only [Ledger.tags] at this ⊢
      change ((slotTag (L.kept o .u) + slotTag (L.kept o .p) + (q.filter Credit.audit).length
        + (L.queuePu.filter Credit.audit).length : Nat) : Int) + _ = if L.phase = .tracking then 1 else 0
      rw [← this]
      push_cast
      omega }

theorem requeued_pu (h : L.Balanced o k j) {q : List Credit} (hroom : q.length + (slotClaims (L.kept o .p)).toNat ≤ 4) :
    Balanced o (k + L.queuePu.length - q.length)
      (j + (L.queuePu.filter Credit.audit).length - (q.filter Credit.audit).length) { L with queuePu := q } :=
  { h with
    held := by
      have := h.held
      simp only [Ledger.held] at this ⊢
      change (L.reserved : Int) = ((slotHeld (L.kept o .u) + slotHeld (L.kept o .p) + L.queueUp.length
        + q.length + 2 * tearCount L.sightings : Nat) : Int) + _
      push_cast at this ⊢
      omega
    queues := fun d => by
      cases d with
      | u => exact h.queues .u
      | p => exact hroom
    tags := by
      have := h.tags
      simp only [Ledger.tags] at this ⊢
      change ((slotTag (L.kept o .u) + slotTag (L.kept o .p) + (L.queueUp.filter Credit.audit).length
        + (q.filter Credit.audit).length : Nat) : Int) + _ = if L.phase = .tracking then 1 else 0
      rw [← this]
      push_cast
      omega }

/-! ## The sampler (R168 to R177) -/

/-- The sampler in another state, its sample with it. -/
theorem rephased (h : L.Balanced o k j) {p : AuditState} {b : Bool} {j' : Int} (hsample : b = p.holdsSample)
    (hj : j' - j = (if p = .tracking then 1 else 0) - if L.phase = .tracking then 1 else 0) :
    Balanced o k j' { L with phase := p, sampled := b } :=
  { h with
    tags := by
      have := h.tags
      show (L.tags o : Int) + j' = if p = .tracking then 1 else 0
      omega
    sample := hsample }

/-- A tag in hand is the one that stands in TRACKING. -/
theorem tracking (h : L.Balanced o k 1) : L.phase = .tracking := by
  have := h.tags
  by_contra hne
  rw [if_neg hne] at this
  omega

end Ledger.Balanced
end Sys2Proof.Machine
end

section
/-! SUPPORT. The ledger under the operations of the journal, the tables, the sampler and the queues. -/

namespace Sys2Proof.Machine

section
variable {s t : State} {o : Option Side} {k j : Int}

/-! ## Operations that leave the ledger -/

/-- A ledger is changed in its places alone where the blocks beside the journal stand. -/
theorem ledger_of_rjn (htxu : t.txu = s.txu) (hpcu : t.pcu = s.pcu) (hscu : t.scu = s.scu) (hads : t.ads = s.ads) :
    t.ledger = { s.ledger with used := t.rjn.journal.length, reserved := t.rjn.reserved } := by
  simp [State.ledger, htxu, hpcu, hscu, hads]

/-- The ledger stands where its blocks do. -/
theorem ledger_of_same (hrjn : t.rjn = s.rjn) (htxu : t.txu = s.txu) (hpcu : t.pcu = s.pcu) (hscu : t.scu = s.scu)
    (hads : t.ads = s.ads) : t.ledger = s.ledger := by
  simp [State.ledger, hrjn, htxu, hpcu, hscu, hads]

@[simp] theorem ledger_setPowered (b : Bool) (s : State) : (s.setPowered b).ledger = s.ledger := rfl
@[simp] theorem ledger_setPending (q : List Instr) (s : State) : (s.setPending q).ledger = s.ledger := rfl
@[simp] theorem ledger_setLpt (x : Lpt) (s : State) : (s.setLpt x).ledger = s.ledger := rfl
@[simp] theorem ledger_setStl (x : Stl) (s : State) : (s.setStl x).ledger = s.ledger := rfl
@[simp] theorem ledger_setSetup (x : Setup) (s : State) : (s.setSetup x).ledger = s.ledger := rfl
@[simp] theorem ledger_setRck (x : Rck) (s : State) : (s.setRck x).ledger = s.ledger := rfl
@[simp] theorem ledger_setSvc (x : Svc) (s : State) : (s.setSvc x).ledger = s.ledger := rfl
@[simp] theorem ledger_setFru (x : Fru) (s : State) : (s.setFru x).ledger = s.ledger := rfl
@[simp] theorem ledger_setLtu (x : Ltu) (s : State) : (s.setLtu x).ledger = s.ledger := rfl
@[simp] theorem ledger_setLfc (x : Lfc) (s : State) : (s.setLfc x).ledger = s.ledger := rfl
@[simp] theorem ledger_setSgu (x : Sgu) (s : State) : (s.setSgu x).ledger = s.ledger := rfl
@[simp] theorem ledger_setInp (x : Inputs) (s : State) : (s.setInp x).ledger = s.ledger := rfl

@[simp] theorem ledger_raiseLane (c : Cause) (s : State) : (raiseLane c s).ledger = s.ledger := rfl
@[simp] theorem ledger_raiseStation (c : Cause) (s : State) : (raiseStation c s).ledger = s.ledger := rfl
@[simp] theorem ledger_raiseBoth (c : Cause) (s : State) : (raiseBoth c s).ledger = s.ledger := rfl
@[simp] theorem ledger_setReasons (r : Reasons) (s : State) : (setReasons r s).ledger = s.ledger :=
  ledger_of_same (by simp) (by simp) (by simp) (by simp) (by simp)
@[simp] theorem ledger_setChan (i : ChanId) (c : Channel) (s : State) : (setChan i c s).ledger = s.ledger := rfl
@[simp] theorem ledger_chanStart (i : ChanId) (r c : Nat) (s : State) : (chanStart i r c s).ledger = s.ledger := rfl
@[simp] theorem ledger_chanStop (i : ChanId) (s : State) : (chanStop i s).ledger = s.ledger := rfl
@[simp] theorem ledger_chanHold (i : ChanId) (s : State) : (chanHold i s).ledger = s.ledger := rfl
@[simp] theorem ledger_chanResume (i : ChanId) (s : State) : (chanResume i s).ledger = s.ledger := rfl
@[simp] theorem ledger_takeCompare (i : ChanId) (s : State) : (takeCompare i s).ledger = s.ledger := rfl
@[simp] theorem ledger_takeUnderflow (i : ChanId) (s : State) : (takeUnderflow i s).ledger = s.ledger := rfl
@[simp] theorem ledger_setHurry (d : Side) (b : Bool) (s : State) : (setHurry d b s).ledger = s.ledger := by
  cases d <;> rfl
@[simp] theorem ledger_requestTone (p : Tone) (n : Nat) (s : State) : (requestTone p n s).ledger = s.ledger :=
  ledger_of_same (by simp) (by simp) (by simp) (by simp) (by simp)
@[simp] theorem ledger_toneAlarm (s : State) : (toneAlarm s).ledger = s.ledger := ledger_requestTone ..
@[simp] theorem ledger_toneAccept (s : State) : (toneAccept s).ledger = s.ledger := ledger_requestTone ..
@[simp] theorem ledger_sguRefuse (x : Side) (s : State) : (sguRefuse x s).ledger = s.ledger :=
  ledger_of_same (by simp) (by simp) (by simp) (by simp) (by simp)
@[simp] theorem ledger_stopWindow (d : Side) (s : State) : (stopWindow d s).ledger = s.ledger :=
  ledger_of_same (by simp) (by simp) (by simp) (by simp) (by simp)
@[simp] theorem ledger_headWindow (d : Side) (s : State) : (headWindow d s).ledger = s.ledger :=
  ledger_of_same (by simp) (by simp) (by simp) (by simp) (by simp)
@[simp] theorem ledger_finish (s : State) : (finish s).ledger = s.ledger :=
  ledger_of_same (by simp) (by simp) (by simp) (by simp) (by simp)

/-- The sample's contents do not show in the ledger. -/
theorem ledger_of_ads (hrjn : t.rjn = s.rjn) (htxu : t.txu = s.txu) (hpcu : t.pcu = s.pcu) (hscu : t.scu = s.scu)
    (hphase : t.ads.phase = s.ads.phase) (hsample : t.ads.sample.isSome = s.ads.sample.isSome) :
    t.ledger = s.ledger := by
  simp [State.ledger, hrjn, htxu, hpcu, hscu, hphase, hsample]

@[simp] theorem ledger_onSample (f : Sample → Sample) (s : State) : (onSample f s).ledger = s.ledger :=
  ledger_of_ads rfl rfl rfl rfl rfl (Option.isSome_map ..)

@[simp] theorem ledger_auditGrant (s : State) : (auditGrant s).ledger = s.ledger := by
  unfold auditGrant
  split
  · split
    · exact ledger_of_ads rfl rfl rfl rfl rfl (Option.isSome_map ..)
    · rfl
  · rfl

@[simp] theorem ledger_auditOutcome (sl : Slot) (r : WriteResult) (p : SampleTone) (s : State) :
    (auditOutcome sl r p s).ledger = s.ledger := by
  unfold auditOutcome auditWrite
  split <;> simp

/-! ## The leaves (R130 to R144) -/

@[simp] theorem ledger_openCheck (d : Side) (s : State) : (openCheck d s).ledger = s.ledger :=
  ledger_of_same (by simp) (by simp) (by simp) (by simp) (by simp)
@[simp] theorem ledger_enterOpen (d : Side) (s : State) : (enterOpen d s).ledger = s.ledger :=
  ledger_of_same (by simp) (by simp) (by simp) (by simp) (by simp)
@[simp] theorem ledger_beginOpening (d : Side) (b : Bool) (s : State) : (beginOpening d b s).ledger = s.ledger :=
  ledger_of_same (by simp) (by simp) (by simp) (by simp) (by simp)
@[simp] theorem ledger_grantLeaves (d : Side) (s : State) : (grantLeaves d s).ledger = s.ledger := by
  simp [grantLeaves]

@[simp] theorem ledger_enterClosed (s : State) : (enterClosed s).ledger = s.ledger := by
  unfold enterClosed
  dsimp only
  split <;> simp

@[simp] theorem ledger_startMove (s : State) : (startMove s).ledger = s.ledger := rfl

@[simp] theorem ledger_startHold (s : State) : (startHold s).ledger = s.ledger := rfl

@[simp] theorem ledger_driveClosed (s : State) : (driveClosed s).ledger = s.ledger := by
  unfold driveClosed
  dsimp only
  split <;> simp

@[simp] theorem ledger_leaveOpen (s : State) : (leaveOpen s).ledger = s.ledger :=
  ledger_of_same (by simp) (by simp) (by simp) (by simp) (by simp)

@[simp] theorem ledger_beginClosing (g : Option Side) (n : Nat) (s : State) :
    (beginClosing g n s).ledger = s.ledger := by simp [beginClosing]

@[simp] theorem ledger_lfcQueue (s : State) : (lfcQueue s).ledger = s.ledger := by
  unfold lfcQueue
  split
  · split <;> simp
  · split <;> simp
  · simp
  all_goals rfl

@[simp] theorem ledger_freeOpen (s : State) : (freeOpen s).ledger = s.ledger :=
  ledger_of_same (by simp) (by simp) (by simp) (by simp) (by simp)

@[simp] theorem ledger_commandLeaves (n : Nat) (s : State) : (commandLeaves n s).ledger = s.ledger := by
  rw [commandLeaves_eq]
  dsimp only
  split
  · simp
  · split
    · simp
    · split <;> simp

@[simp] theorem ledger_lastSwitchTaken (s : State) : (lastSwitchTaken s).ledger = s.ledger := by
  unfold lastSwitchTaken
  split <;> simp

@[simp] theorem ledger_leaveFault (s : State) : (leaveFault s).ledger = s.ledger := by
  unfold leaveFault
  split <;> simp [setLeafFault]

@[simp] theorem ledger_resumeClose (s : State) : (resumeClose s).ledger = s.ledger := by
  unfold resumeClose
  split <;> simp

@[simp] theorem ledger_holdEnds (s : State) : (holdEnds s).ledger = s.ledger := by
  unfold holdEnds
  split
  · simp
  · split <;> simp
  · rfl

/-! ## Free period and tracker (R119, R123 to R127) -/

/-- The ledger stands where the queues of PCU do. -/
theorem ledger_setPcu {p : Pcu} (hup : p.queueUp = s.pcu.queueUp) (hpu : p.queuePu = s.pcu.queuePu) :
    (s.setPcu p).ledger = s.ledger := by simp [State.ledger, hup, hpu]

@[simp] theorem ledger_openFree (r : Reason) (s : State) : (openFree r s).ledger = s.ledger := by
  unfold openFree
  split
  · rfl
  · exact ledger_setPcu rfl rfl

@[simp] theorem ledger_countFree (d : Side) (s : State) : (countFree d s).ledger = s.ledger := by
  unfold countFree
  split
  · cases d <;> exact ledger_setPcu rfl rfl
  · rfl

@[simp] theorem ledger_clearTracker (s : State) : (clearTracker s).ledger = s.ledger := ledger_setPcu rfl rfl

@[simp] theorem ledger_directEpisode (b : Beam) (s : State) : (directEpisode b s).ledger = s.ledger := by
  unfold directEpisode
  split
  · rfl
  · exact ledger_setPcu rfl rfl

@[simp] theorem ledger_episodeStart (s : State) : (episodeStart s).ledger = s.ledger := by
  unfold episodeStart
  dsimp only
  split <;> simp only [ledger_chanStart, ledger_chanStop, ledger_chanHold] <;> exact ledger_setPcu rfl rfl

@[simp] theorem ledger_lfcEmpty (s : State) : (lfcEmpty s).ledger = s.ledger :=
  ledger_of_same (by simp) (by simp) (by simp) (by simp) (by simp)

/-! ## The journal's places (R158 to R163) -/

/-- Places taken or given back in the journal alone. -/
theorem balanced_setRjn {r : Rjn} (h : s.ledger.Balanced o k j) (hfit : r.journal.length + r.reserved ≤ 4096) :
    (s.setRjn r).ledger.Balanced o (k + r.reserved - s.rjn.reserved) j := h.respaced hfit

theorem balanced_fits (h : s.ledger.Balanced o k j) : s.rjn.journal.length + s.rjn.reserved ≤ 4096 := h.fits

/-- With a reservation in hand the reserved counter is above 0. -/
theorem reserved_of_hand (h : s.ledger.Balanced o k j) (hk : 1 ≤ k) : s.rjn.reserved ≠ 0 := by
  have hheld : (s.rjn.reserved : Int) = s.ledger.held o + k := h.held
  omega

@[simp] theorem ledger_judgeSpace (s : State) : (judgeSpace s).ledger = s.ledger := by
  rw [ledger_of_rjn (s := s) (by simp) (by simp) (by simp) (by simp), judgeSpace_rjn]
  rfl

theorem balanced_appendEntry (e : Entry) (h : s.ledger.Balanced o k j) (hfree : s.free ≠ 0) :
    (appendEntry e s).ledger.Balanced o k j := by
  refine (balanced_setRjn h ?_).congr (add_sub_cancel_right ..) rfl
  unfold State.free at hfree
  show (s.rjn.journal ++ [_]).length + s.rjn.reserved ≤ 4096
  rw [List.length_append, List.length_singleton]
  omega

@[simp] theorem balanced_writeFree (e : Entry) (h : s.ledger.Balanced o k j) :
    (writeFree e s).ledger.Balanced o k j := by
  unfold writeFree
  split
  · exact h
  next hfree =>
    rw [ledger_judgeSpace]
    exact balanced_appendEntry e h hfree

/-- A reservation spent or given back. -/
theorem balanced_unreserve (h : s.ledger.Balanced o k j) (hone : s.rjn.reserved ≠ 0) :
    (s.setRjn { s.rjn with reserved := s.rjn.reserved - 1 }).ledger.Balanced o (k - 1) j := by
  have := balanced_fits h
  exact (balanced_setRjn h (by dsimp only; omega)).congr (by dsimp only; omega) rfl

@[simp] theorem balanced_writeReserved (e : Entry) (h : s.ledger.Balanced o k j) (hone : s.rjn.reserved ≠ 0) :
    (writeReserved e s).ledger.Balanced o (k - 1) j := by
  unfold writeReserved
  rw [if_neg hone]
  refine balanced_appendEntry e (balanced_unreserve h hone) ?_
  have := balanced_fits h
  simp only [State.free, setRjn_rjn]
  omega

theorem balanced_overrunEntry (n : Nat) (h : s.ledger.Balanced o k j) : (overrunEntry n s).ledger.Balanced o k j := by
  unfold overrunEntry
  split
  next hdue =>
    rw [ledger_judgeSpace]
    refine balanced_appendEntry _ (h : (s.setRjn { s.rjn with overrun := 0 }).ledger.Balanced o k j) ?_
    simp only [Bool.and_eq_true, decide_eq_true_eq] at hdue
    exact hdue.1.2.ne'
  · exact h

@[simp] theorem balanced_release1 (h : s.ledger.Balanced o k j) (hone : s.rjn.reserved ≠ 0) :
    (release1 s).ledger.Balanced o (k - 1) j := by
  unfold release1
  rw [if_neg hone]
  exact balanced_overrunEntry _ (by rw [ledger_judgeSpace]; exact balanced_unreserve h hone)

theorem balanced_reserve (n : Nat) (h : s.ledger.Balanced o k j) (hfree : n ≤ s.free) :
    (reserve n s).ledger.Balanced o (k + n) j := by
  unfold reserve
  rw [ledger_judgeSpace]
  have := balanced_fits h
  unfold State.free at hfree
  exact (balanced_setRjn h (by dsimp only [State.free]; omega)).congr (by dsimp only [State.free]; omega) rfl

theorem balanced_releaseEntries (n : Nat) (h : s.ledger.Balanced o k j) :
    (releaseEntries n s).ledger.Balanced o k j := by
  unfold releaseEntries
  refine balanced_overrunEntry _ ?_
  rw [ledger_judgeSpace]
  have := balanced_fits h
  exact (balanced_setRjn h (by simp only [List.length_drop]; omega)).congr (by dsimp only; omega) rfl

/-! ## Sightings (R89 to R98) -/

theorem balanced_touch (h : s.ledger.Balanced o k j) {c : Nat} {e e' : Sighting} (hs : s.sighting c = some e)
    (hcard : e'.card = e.card) (hflight : e'.inFlight = e.inFlight) (htear : e'.tear = e.tear)
    (hmark : e'.mark = e.mark) : (touchSighting e' s).ledger.Balanced o k j :=
  h.retouched (mem_of_sighting hs) (exchanged_touch h.keyed (mem_of_sighting hs) hcard) hcard hflight htear hmark

/-- An entry replaced where it stands is that entry exchanged. -/
theorem exchanged_put (h : s.ledger.Balanced o k j) {c : Nat} {e e' : Sighting} (hs : s.sighting c = some e)
    (hcard : e'.card = e.card) : Exchanged e e' s.ledger.sightings (putSighting e' s).ledger.sightings := by
  have hx := exchanged_map (f := fun x => if x.card = e'.card then e' else x) h.keyed (mem_of_sighting hs) fun x hx =>
    if_neg (hcard ▸ hx)
  rwa [if_pos hcard.symm] at hx

/-- The entries an insertion leaves beside the new one: every pinned one among them. -/
theorem filter_evictOldest (l : List Sighting) : (evictOldest l).filter Sighting.pinned = l.filter Sighting.pinned := by
  induction l with
  | nil => rfl
  | cons e l ih =>
    rw [evictOldest]
    split
    next hp => simp [hp, ih]
    next hp => simp [hp]

theorem balanced_insert (h : s.ledger.Balanced o k j) {e : Sighting} (hnone : s.sighting e.card = none)
    (htear : e.tear = none) (hmark : e.mark = none)
    (hflight : e.inFlight.isSome → ∃ x sl, s.slot x = some sl ∧ sl.card = e.card) :
    (insertSighting e s).ledger.Balanced o k j := by
  have hnew : ∀ x ∈ s.ledger.sightings, x.card ≠ e.card := sighting_none_iff.mp hnone
  have howned : e.inFlight.isSome → ∃ x sl, s.ledger.slot x = some sl ∧ sl.card = e.card := by
    simpa only [slot_ledger] using hflight
  have hplace : HasPlace s.scu.sightings := h.hasPlace
  unfold insertSighting
  rcases hplace with hlt | ⟨hfull, hloose⟩
  · rw [if_pos hlt]
    exact h.inserted (List.Sublist.refl _) rfl hlt hnew htear hmark howned
  · have hevict := length_evictOldest_lt hloose
    rw [if_neg (by omega)]
    dsimp only
    rw [if_pos (by omega)]
    exact h.inserted (evictOldest_sublist _) (filter_evictOldest _) (by omega) hnew htear hmark howned

@[simp] theorem balanced_sightRefusal (c : Nat) (q e : Word16) (h : s.ledger.Balanced o k j) :
    (sightRefusal c q e s).ledger.Balanced o k j := by
  unfold sightRefusal
  split
  next x hx => split <;> exact balanced_touch h hx rfl rfl rfl rfl
  next hx => exact balanced_insert h hx rfl rfl (by simp [localSighting])

@[simp] theorem balanced_sightTouch (c : Nat) (h : s.ledger.Balanced o k j) :
    (sightTouch c s).ledger.Balanced o k j := by
  unfold sightTouch
  split
  next x hx => exact balanced_touch h hx rfl rfl rfl rfl
  · exact h

@[simp] theorem balanced_sightLost (c : Nat) (q e : Word16) (h : s.ledger.Balanced o k j) :
    (sightLost c q e s).ledger.Balanced o k j := by
  unfold sightLost
  split
  next x hx => exact balanced_touch h hx rfl rfl rfl rfl
  · exact h

@[simp] theorem balanced_sightCompleted (p : Shown) (h : s.ledger.Balanced o k j) :
    (sightCompleted p s).ledger.Balanced o k j := by
  unfold sightCompleted
  split
  next x hx => exact balanced_touch h hx rfl rfl rfl rfl
  · exact h

/-! ## Marks (R93 to R95) -/

/-- The marks stand without those of one card. -/
theorem marked_dropped {l : List Sighting} {m : List Nat} (h : Marked l m) (c : Nat) :
    Marked (l.map (unmarked c)) (m.filter (· != c)) := by
  obtain ⟨hnodup, hlen, hnamed⟩ := h
  refine ⟨hnodup.filter _, (List.length_filter_le ..).trans hlen, fun n => ?_⟩
  simp only [List.mem_filter, hnamed, bne_iff_ne, List.mem_map]
  constructor
  · rintro ⟨⟨e, he, rfl, hm⟩, hne⟩
    exact ⟨_, ⟨e, he, rfl⟩, (unmarked_keeps c e).1, by rwa [unmarked, if_neg hne]⟩
  · rintro ⟨_, ⟨e, he, rfl⟩, hcard, hm⟩
    rw [(unmarked_keeps c e).1] at hcard
    unfold unmarked at hm
    split at hm
    · simp at hm
    next hne => exact ⟨⟨e, he, hcard, hm⟩, hcard ▸ hne⟩

theorem inFlight_unmarked (c : Nat) (e : Sighting) : (unmarked c e).inFlight = e.inFlight := by
  unfold unmarked
  split <;> rfl

@[simp] theorem balanced_dropMark (c : Nat) (h : s.ledger.Balanced o k j) : (dropMark c s).ledger.Balanced o k j :=
  h.remarked (f := unmarked c) (fun e => (unmarked_keeps c e).1) (inFlight_unmarked c)
    (fun e => (unmarked_keeps c e).2.1) (marked_dropped h.marks c)

theorem length_filter_ne_lt {c : Nat} {l : List Nat} (h : c ∈ l) : (l.filter (· != c)).length < l.length :=
  List.length_filter_lt_length_iff_exists.mpr ⟨c, h, by simp⟩

/-- A card's mark is the newest of the order, whether it held one before or not. -/
theorem marked_placed {l : List Sighting} {m : List Nat} {e : Sighting} (h : Marked l m) (hm : e.mark.isSome)
    (hroom : e.card ∈ m ∨ m.length < 8) :
    Marked ((l.filter fun x => x.card != e.card) ++ [e]) (m.filter (· != e.card) ++ [e.card]) := by
  obtain ⟨hnodup, hlen, hnamed⟩ := h
  refine ⟨(hnodup.filter _).append (by simp) (by simp), ?_, fun n => ?_⟩
  · have hfilter := List.length_filter_le (· != e.card) m
    rw [List.length_append, List.length_singleton]
    rcases hroom with hin | hlt
    · have := length_filter_ne_lt hin
      omega
    · omega
  · simp only [List.mem_append, List.mem_filter, bne_iff_ne, List.mem_singleton, hnamed]
    constructor
    · rintro (⟨⟨y, hy, rfl, hym⟩, hne⟩ | rfl)
      · exact ⟨y, .inl ⟨hy, hne⟩, rfl, hym⟩
      · exact ⟨e, .inr rfl, rfl, hm⟩
    · rintro ⟨y, ⟨hy, hne⟩ | rfl, rfl, hym⟩
      · exact .inl ⟨⟨y, hy, rfl, hym⟩, hne⟩
      · exact .inr rfl

/-- A mark placed where the card holds one, or fewer than 8 stand. -/
theorem balanced_placeMark (c : Nat) (m : Mark) (h : s.ledger.Balanced o k j)
    (hroom : c ∈ s.scu.markOrder ∨ s.scu.markOrder.length < 8) : (placeMark c m s).ledger.Balanced o k j := by
  unfold placeMark
  split
  next e he =>
    obtain rfl := card_of_sighting he
    have hmem : e ∈ s.ledger.sightings := mem_of_sighting he
    have hx := exchanged_touch (e' := { e with mark := some m }) h.keyed hmem rfl
    have hmarked := marked_placed (e := { e with mark := some m }) h.marks rfl hroom
    refine (h.exchanged hx rfl (fun hf => .inl hf) ?_ (fun ht => .inl ht) hmarked).congr (add_sub_cancel_right ..) rfl
    intro x sl hsl hc
    obtain ⟨hflight, htear⟩ := h.seen_of_mem hmem hsl hc
    exact ⟨hflight, htear⟩
  · exact h

@[simp] theorem balanced_setMark (c : Nat) (d : Side) (h : s.ledger.Balanced o k j) :
    (setMark c d s).ledger.Balanced o k j := by
  unfold setMark
  split
  · exact h
  next e he =>
    dsimp only
    split
    next hm => exact balanced_placeMark c _ h (.inl ((h.marks.2.2 c).mpr ⟨e, mem_of_sighting he, card_of_sighting he, hm⟩))
    next =>
      have hle : s.scu.markOrder.length ≤ 8 := h.marks.2.1
      unfold dropNinthMark
      split
      next hlt => exact balanced_placeMark c _ h (.inr hlt)
      next hfull =>
        split
        next horder => simp [horder] at hfull
        next oldest rest horder =>
          refine balanced_placeMark c _ (balanced_dropMark oldest h) (.inr ?_)
          have := length_filter_ne_lt (show oldest ∈ s.scu.markOrder by simp [horder])
          show (s.scu.markOrder.filter (· != oldest)).length < 8
          omega

@[simp] theorem balanced_markCredit (d : Side) (c : Credit) (h : s.ledger.Balanced o k j) :
    (markCredit d c s).ledger.Balanced o k j := by
  unfold markCredit
  split
  · exact balanced_setMark _ d h
  · exact h

theorem balanced_dropMarks (l : List Nat) (h : s.ledger.Balanced o k j) :
    (l.foldl (fun t c => dropMark c t) s).ledger.Balanced o k j := by
  induction l generalizing s with
  | nil => exact h
  | cons c l ih => exact ih (balanced_dropMark c h)

@[simp] theorem balanced_marksTake (h : s.ledger.Balanced o k j) : (marksTake s).ledger.Balanced o k j := by
  unfold marksTake
  split
  · exact balanced_dropMarks _ (s := s.setScu { s.scu with marksHanded := false }) h
  · exact h

@[simp] theorem balanced_sightReopen (p : Shown) (h : s.ledger.Balanced o k j) :
    (sightReopen p s).ledger.Balanced o k j := by
  unfold sightReopen
  dsimp only
  split
  next e he => exact balanced_touch (balanced_dropMark _ h) he rfl rfl rfl rfl
  · exact balanced_dropMark _ h

end
end Sys2Proof.Machine
end

section
/-! SUPPORT. The ledger under pending-tears, clone evidence, merges, credits, passages and the mode. -/

namespace Sys2Proof.Machine

section
variable {s t : State} {o : Option Side} {k j : Int}

/-! ## Pending-tears (R51 to R55) -/

/-- A standing pending-tear is its card's entry's. -/
theorem sighting_of_tears (hkeyed : Keyed s.scu.sightings) {c : Nat} {r : Tear} (hr : (c, r) ∈ s.tears) :
    ∃ e, s.sighting c = some e ∧ e.tear = some r := by
  obtain ⟨e, he, hmatch⟩ := List.mem_filterMap.mp hr
  split at hmatch
  next r' htear =>
    obtain ⟨rfl, rfl⟩ := Prod.mk.inj (Option.some.inj hmatch)
    exact ⟨e, (sighting_iff_mem hkeyed).mpr ⟨he, rfl⟩, htear⟩
  · cases hmatch

/-- A standing pending-tear holds two reservations. -/
theorem reserved_of_tear (h : s.ledger.Balanced o k j) (hk : 0 ≤ k) {c : Nat} {e : Sighting} (hs : s.sighting c = some e)
    (ht : e.tear.isSome) : 2 ≤ s.rjn.reserved := by
  have hcount : 1 ≤ tearCount s.ledger.sightings := by
    rw [tearCount_perm (perm_of_mem h.keyed (mem_of_sighting hs)).1, tearCount_cons, ht]
    simp
  have hheld : (s.rjn.reserved : Int) = s.ledger.held o + k := h.held
  unfold Ledger.held at hheld
  omega

theorem balanced_dropTear (h : s.ledger.Balanced o k j) {c : Nat} {e : Sighting} (hs : s.sighting c = some e) :
    (dropTear c s).ledger.Balanced o (k + 2 * e.tear.isSome.toNat) j := by
  obtain rfl := card_of_sighting hs
  have hmem : e ∈ s.ledger.sightings := mem_of_sighting hs
  have hx := exchanged_map (f := untorn e.card) h.keyed hmem fun x hx => if_neg hx
  have he : untorn e.card e = { e with tear := none } := if_pos rfl
  rw [he] at hx
  refine (h.exchanged (m := s.scu.markOrder) hx rfl (fun hf => .inl hf) ?_ (fun ht => by simp at ht)
    (Ledger.Balanced.marked_exchanged h.marks hx rfl rfl)).congr (sub_zero _) rfl
  intro x sl hsl hc
  exact ⟨(h.seen_of_mem hmem hsl hc).1, rfl⟩

theorem balanced_unresolveTear (h : s.ledger.Balanced o k j) (hk : 0 ≤ k) {c : Nat} {r : Tear} (hr : (c, r) ∈ s.tears) :
    (unresolveTear c r s).ledger.Balanced o k j := by
  obtain ⟨e, hs, htear⟩ := sighting_of_tears h.keyed hr
  have hone := reserved_of_tear h hk hs (by rw [htear]; rfl)
  have hspent := balanced_writeReserved (tearResolvedEntry s c r .unresolved) h (by omega)
  have hdropped := balanced_dropTear hspent (c := c) (e := e) ((sighting_of_scu (by simp) c).trans hs)
  rw [htear] at hdropped
  exact (balanced_release1 hdropped (reserved_of_hand hdropped (by simp; omega))).congr (by simp; omega) rfl

theorem balanced_displaceTear (h : s.ledger.Balanced o k j) (hk : 0 ≤ k) : (displaceTear s).ledger.Balanced o k j := by
  unfold displaceTear
  split
  · exact h
  · split
    next hr => exact balanced_unresolveTear h hk (mem_earliestTear hr)
    · exact h

theorem balanced_expireTearsN (n : Nat) (h : s.ledger.Balanced o k j) (hk : 0 ≤ k) :
    (expireTearsN n s).ledger.Balanced o k j := by
  induction n generalizing s with
  | zero => exact h
  | succ n ih =>
    rw [expireTearsN]
    split
    next hr => exact ih (balanced_unresolveTear h hk (List.mem_of_mem_filter (mem_earliestTear hr)))
    · exact h

theorem balanced_tearsTake (h : s.ledger.Balanced o k j) (hk : 0 ≤ k) : (tearsTake s).ledger.Balanced o k j := by
  unfold tearsTake
  split
  · exact balanced_expireTearsN _ (s := s.setScu { s.scu with tearsHanded := false }) h hk
  · exact h

/-- A resolution spends one of the tear's two reservations and leaves the other in hand. -/
theorem balanced_resolveTear (r : Tear) (w : Bool) (h : s.ledger.Balanced o k j) (hk : 0 ≤ k) {c : Nat} {e : Sighting}
    (hs : s.sighting c = some e) (ht : e.tear.isSome) : (resolveTear c r w s).ledger.Balanced o (k + 1) j := by
  have hone := reserved_of_tear h hk hs ht
  rw [resolveTear_seen hs]
  set v := writeReserved (tearResolvedEntry s c r (if w then .written else .notWritten)) s
  have hspent : v.ledger.Balanced o (k - 1) j := balanced_writeReserved _ h (by omega)
  have hv : v.sighting c = some e := (sighting_of_scu (by simp [v]) c).trans hs
  have hput : ∀ e' : Sighting, e'.card = e.card → e'.inFlight = e.inFlight → e'.mark = e.mark → e'.tear = none →
      (putSighting e' v).ledger.Balanced o (k + 1) j := by
    intro e' hcard hflight hmark htear
    have hx := exchanged_put hspent hv hcard
    refine (hspent.exchanged (m := v.scu.markOrder) hx hcard (fun hf => .inl (hflight ▸ hf)) ?_
      (fun ht => by simp [htear] at ht)
      (Ledger.Balanced.marked_exchanged hspent.marks hx hcard (by rw [hmark]))).congr (by simp [ht, htear]; omega) rfl
    intro x sl hsl hc
    rw [hflight]
    exact ⟨(hspent.seen_of_mem (mem_of_sighting hv) hsl hc).1, htear⟩
  cases w
  · exact hput _ rfl rfl rfl rfl
  · exact hput _ rfl rfl rfl rfl

theorem balanced_resolveRow (r : Tear) (row : TearRow) (q g : Word16) (h : s.ledger.Balanced o k j) (hk : 0 ≤ k) {c : Nat}
    {e : Sighting} (hs : s.sighting c = some e) (ht : e.tear.isSome) :
    (resolveRow c r row q g s).ledger.Balanced o k j := by
  have hresolved : ∀ w, (release1 (resolveTear c r w s)).ledger.Balanced o k j := fun w =>
    (balanced_release1 (balanced_resolveTear r w h hk hs ht)
      (reserved_of_hand (balanced_resolveTear r w h hk hs ht) (by omega))).congr (by omega) rfl
  cases row with
  | oldImage => exact hresolved false
  | newSameSide => exact hresolved true
  | newOtherSide => exact hresolved true
  | lostToOther =>
    have hlost := balanced_sightLost c q g (balanced_resolveTear r false h hk hs ht)
    exact (balanced_release1 hlost (reserved_of_hand hlost (by omega))).congr (by omega) rfl
  | writtenAgain => exact hresolved true
  | cloneEqual => exact h
  | cloneBehind => exact h

/-! ## Clone evidence and merges (R88, R96 to R101) -/

@[simp] theorem ledger_localAdd (c : Nat) (s : State) : (localAdd c s).1.ledger = s.ledger := by
  unfold localAdd
  split
  · rfl
  · split <;> rfl

@[simp] theorem balanced_cloneEvidence (c : Nat) (x : Option Side) (q g held : Word16) (h : s.ledger.Balanced o k j) :
    (cloneEvidence c x q g held s).ledger.Balanced o k j := by
  unfold cloneEvidence
  rw [ledger_raiseStation]
  exact balanced_writeFree _ (by rwa [ledger_localAdd])

theorem balanced_remoteResolve (b : SightBody) (ev : SightEvent) (r : Tear) (w : Bool) (h : s.ledger.Balanced o k j)
    (hk : 0 ≤ k) {c : Nat} {e : Sighting} (hs : s.sighting c = some e) (ht : e.tear.isSome) :
    (remoteResolve c r w (fun x => x.updated b ev) s).ledger.Balanced o k j := by
  have hresolved := balanced_resolveTear r w h hk hs ht
  have hreleased := (balanced_release1 hresolved (reserved_of_hand hresolved (by omega))).congr
    (add_sub_cancel_right ..) rfl
  unfold remoteResolve
  dsimp only
  split
  next x hx => exact balanced_touch hreleased hx rfl rfl rfl rfl
  · exact hreleased

theorem balanced_mergeSighting (b : SightBody) (ev : SightEvent) (h : s.ledger.Balanced o k j) (hk : 0 ≤ k) :
    (mergeSighting b ev s).1.ledger.Balanced o k j := by
  unfold mergeSighting
  split
  next hnone => exact balanced_insert h hnone rfl rfl (by simp [remoteSighting])
  next e hs =>
    have htouched := balanced_touch h hs rfl rfl rfl rfl (e' := e)
    split
    next r ht =>
      have hsome : e.tear.isSome := by rw [ht]; rfl
      unfold mergeTear
      split
      · exact balanced_remoteResolve b ev r true h hk hs hsome
      split
      · exact balanced_remoteResolve b ev r false h hk hs hsome
      split
      · exact balanced_remoteResolve b ev r true h hk hs hsome
      split
      · exact h
      split
      · exact balanced_cloneEvidence _ _ _ _ _ htouched
      · exact h
    · unfold mergePlain
      split
      · exact balanced_touch h hs rfl rfl rfl rfl
      · split
        · exact htouched
        · exact balanced_cloneEvidence _ _ _ _ _ htouched
      · exact h

/-! ## The sampler (R170 to R177) -/

theorem balanced_auditComplete (r : AuditOutcome) (h : s.ledger.Balanced o k 1) :
    (auditComplete r s).ledger.Balanced o k 0 := by
  have hsome : s.ads.sample.isSome = true := h.sample.trans (by rw [h.tracking]; rfl)
  refine h.rephased (p := .valid) (b := (auditComplete r s).ads.sample.isSome) ?_ (by rw [h.tracking]; rfl)
  exact (Option.isSome_map ..).trans hsome

/-- A sample in CLOSING is completed without a tag. -/
theorem balanced_closingComplete (r : AuditOutcome) (h : s.ledger.Balanced o k j) (hphase : s.ads.phase = .closing) :
    (auditComplete r s).ledger.Balanced o k j := by
  have hphase' : s.ledger.phase = .closing := hphase
  have hsome : s.ads.sample.isSome = true := h.sample.trans (by rw [hphase']; rfl)
  refine h.rephased (p := .valid) (b := (auditComplete r s).ads.sample.isSome) ?_ (by rw [hphase']; simp)
  exact (Option.isSome_map ..).trans hsome

theorem balanced_auditExpired (h : s.ledger.Balanced o k 1) : (auditExpired s).ledger.Balanced o k 0 :=
  balanced_auditComplete .expired (by rwa [auditGrantToEnd, ledger_onSample])

theorem balanced_auditConsumed (h : s.ledger.Balanced o k 1) : (auditConsumed s).ledger.Balanced o k 0 := by
  have hsome : s.ads.sample.isSome = true := h.sample.trans (by rw [h.tracking]; rfl)
  refine h.rephased (p := .closing) (b := (auditConsumed s).ads.sample.isSome) ?_ (by rw [h.tracking]; rfl)
  exact ((Option.isSome_map ..).trans (Option.isSome_map ..)).trans hsome

@[simp] theorem balanced_auditEpisodeEnd (n : Nat) (h : s.ledger.Balanced o k j) :
    (auditEpisodeEnd n s).ledger.Balanced o k j := by
  unfold auditEpisodeEnd
  split
  next hphase => exact balanced_closingComplete .passed (by rwa [ledger_onSample]) hphase
  · exact h

@[simp] theorem balanced_auditStart (h : s.ledger.Balanced o k j) : (auditStart s).ledger.Balanced o k j := by
  unfold auditStart
  split
  next hphase => exact balanced_closingComplete .passed h hphase
  · exact h

/-- An offer leaves a tag in hand where the sampler is ARMED. -/
theorem balanced_auditOffer (m : Sample) (h : s.ledger.Balanced o k j) :
    (auditOffer m s).ledger.Balanced o k (j + (auditArmed s).toNat) := by
  unfold auditOffer auditArmed
  cases hphase : s.ads.phase with
  | idle =>
    have hnone : s.ads.sample.isSome = false := h.sample.trans (by rw [show s.ledger.phase = _ from hphase]; rfl)
    have hidle : s.ledger.phase = .idle := hphase
    dsimp only
    split
    · unfold auditCount
      refine h.rephased (p := if s.ads.interval ≤ _ then .armed .counter else .idle) (b := s.ads.sample.isSome) ?_ ?_
      · split <;> exact hnone
      · rw [hidle]
        split <;> simp
    · exact h.congr rfl (by simp)
  | armed b => exact h.rephased rfl (by rw [show s.ledger.phase = .armed b from hphase]; simp)
  | tracking => exact h.congr rfl (by simp)
  | closing => exact h.congr rfl (by simp)
  | valid => exact h.congr rfl (by simp)

/-! ## Credits (R108 to R117) -/

theorem balanced_setQueue (d : Side) {q : List Credit} (h : s.ledger.Balanced o k j)
    (hroom : q.length + (slotClaims (s.ledger.kept o d)).toNat ≤ 4) :
    (setQueue d q s).ledger.Balanced o (k + (s.queue d).length - q.length)
      (j + ((s.queue d).filter Credit.audit).length - (q.filter Credit.audit).length) := by
  cases d with
  | u => exact h.requeued_up hroom
  | p => exact h.requeued_pu hroom

theorem length_filter_cons (c : Credit) (l : List Credit) :
    ((c :: l).filter Credit.audit).length = c.audit.toNat + (l.filter Credit.audit).length := by
  cases h : c.audit <;> simp [h]
  omega

/-- The head leaves its queue: its reservation and its tag are in hand. -/
theorem balanced_unqueue {d : Side} {c : Credit} {rest : List Credit} (h : s.ledger.Balanced o k j)
    (hqueue : s.queue d = c :: rest) :
    (setQueue d rest s).ledger.Balanced o (k + 1) (j + c.audit.toNat) := by
  have hroom := h.queues d
  rw [queue_ledger, hqueue, List.length_cons] at hroom
  refine (balanced_setQueue d (q := rest) h (by omega)).congr ?_ ?_
  · rw [hqueue, List.length_cons]
    omega
  · rw [hqueue, length_filter_cons]
    omega

theorem balanced_createCredit (d : Side) (c : Credit) (h : s.ledger.Balanced o k j)
    (hroom : (s.queue d).length + (slotClaims (s.ledger.kept o d)).toNat < 4) :
    (createCredit d c s).ledger.Balanced o (k - 1) (j - c.audit.toNat) := by
  have hqueued : (setQueue d (s.queue d ++ [c]) s).ledger.Balanced o (k - 1) (j - c.audit.toNat) := by
    refine (balanced_setQueue d h (by simp; omega)).congr ?_ ?_
    · simp
      omega
    · rw [List.filter_append, List.length_append, length_filter_cons]
      simp
      omega
  unfold createCredit
  dsimp only
  rw [ledger_lfcQueue]
  split <;> simpa only [ledger_headWindow, ledger_auditGrant] using hqueued

/-- A credit out of its queue is cancelled with its reservation and its tag. -/
theorem balanced_cancelCredit (d : Side) (r : Reason) (c : Credit) (h : s.ledger.Balanced o (k + 1) c.audit.toNat)
    (hk : 0 ≤ k) : (cancelCredit d r c s).ledger.Balanced o k 0 := by
  have hmarked := balanced_markCredit d c
    (balanced_writeReserved (creditEntry s .creditCancelled r d c) h (reserved_of_hand h (by omega)))
  unfold cancelCredit
  dsimp only
  split
  next haudit =>
    rw [haudit] at hmarked
    exact balanced_auditComplete _ (hmarked.congr (by omega) rfl)
  next haudit => exact hmarked.congr (by omega) (by simp [haudit])

theorem balanced_cancelFrom (d : Side) (r : Reason) {l : List Credit} (h : s.ledger.Balanced o k 0) (hk : 0 ≤ k)
    (hqueue : s.queue d = l) : (cancelFrom d r l s).ledger.Balanced o k 0 := by
  induction l generalizing s with
  | nil => exact h
  | cons c rest ih =>
    refine ih (balanced_cancelCredit d r c ((balanced_unqueue h hqueue).congr rfl (by simp)) hk) ?_
    exact (queue_of_pcu (s := setQueue d rest s) (by simp) d).trans (by rw [queue_setQueue, if_pos rfl])

@[simp] theorem balanced_cancelQueue (d : Side) (r : Reason) (h : s.ledger.Balanced o k 0) (hk : 0 ≤ k) :
    (cancelQueue d r s).ledger.Balanced o k 0 := by
  rw [cancelQueue, ledger_stopWindow]
  exact balanced_cancelFrom d r h hk rfl

theorem balanced_cancelBoth (r : Reason) (h : s.ledger.Balanced o k 0) (hk : 0 ≤ k) :
    (cancelBoth r s).ledger.Balanced o k 0 := balanced_cancelQueue .p r (balanced_cancelQueue .u r h hk) hk

theorem balanced_expireHead (d : Side) (h : s.ledger.Balanced o k 0) (hk : 0 ≤ k) :
    (expireHead d s).ledger.Balanced o k 0 := by
  unfold expireHead
  split
  · exact h
  next c rest hqueue =>
    dsimp only
    have hout := balanced_unqueue h hqueue
    rw [← ledger_setHurry d false] at hout
    have hspent := fun e => balanced_markCredit d c (balanced_writeReserved e hout (reserved_of_hand hout (by omega)))
    rw [ledger_lfcQueue, ledger_headWindow]
    split
    next haudit => exact balanced_auditExpired ((hspent _).congr (by omega) (by simp [haudit]))
    next haudit => exact (hspent _).congr (by omega) (by simp [haudit])

theorem balanced_consumeHead (d : Side) (h : s.ledger.Balanced o k 0) (hk : 0 ≤ k) :
    (consumeHead d s).ledger.Balanced o k 0 := by
  unfold consumeHead
  split
  · exact h
  next c rest hqueue =>
    dsimp only
    have hout := balanced_unqueue h hqueue
    rw [← ledger_stopWindow d] at hout
    have hspent := fun e => balanced_writeReserved e hout (reserved_of_hand hout (by omega))
    rw [ledger_lfcQueue, ledger_headWindow]
    split
    next haudit => exact balanced_auditConsumed ((hspent _).congr (by omega) (by simp [haudit]))
    next haudit => exact (hspent _).congr (by omega) (by simp [haudit])

theorem balanced_setPcu {p : Pcu} (h : s.ledger.Balanced o k j) (hup : p.queueUp = s.pcu.queueUp)
    (hpu : p.queuePu = s.pcu.queuePu) : (s.setPcu p).ledger.Balanced o k j := ledger_setPcu hup hpu ▸ h

/-! ## Passages and leaves (R117 to R142) -/

@[simp] theorem balanced_closeFree (h : s.ledger.Balanced o k j) : (closeFree s).ledger.Balanced o k j := by
  unfold closeFree
  exact balanced_setPcu (balanced_writeFree _ h) rfl rfl

@[simp] theorem balanced_settleFree (h : s.ledger.Balanced o k j) : (settleFree s).ledger.Balanced o k j := by
  unfold settleFree
  split
  · exact balanced_closeFree h
  · exact h

theorem balanced_passage (d : Side) (h : s.ledger.Balanced o k 0) (hk : 0 ≤ k) : (passage d s).ledger.Balanced o k 0 := by
  unfold passage
  split
  · rwa [ledger_countFree]
  split
  · rw [wrongWay, ledger_toneAlarm, ledger_raiseLane]
    exact balanced_writeFree _ h
  split
  · exact balanced_consumeHead d h hk
  · rw [unpaidPassage, ledger_toneAlarm, ledger_raiseBoth]
    exact balanced_writeFree _ h

theorem balanced_beamCleared (b : Beam) (h : s.ledger.Balanced o k 0) (hk : 0 ≤ k) :
    (beamCleared b s).ledger.Balanced o k 0 := by
  unfold beamCleared
  split
  · split
    · unfold farClear
      dsimp only
      split
      · exact balanced_setPcu h rfl rfl
      · exact balanced_passage _ (balanced_setPcu h rfl rfl) hk
    · exact h
  · exact h

theorem balanced_episodeEnd (h : s.ledger.Balanced o k j) : (episodeEnd s).ledger.Balanced o k j := by
  unfold episodeEnd
  refine balanced_setPcu ?_ rfl rfl
  rw [ledger_lfcEmpty]
  exact balanced_auditEpisodeEnd _ (by simpa using h)

theorem balanced_beamChanged (b : Beam) (v : Bool) (h : s.ledger.Balanced o k 0) (hk : 0 ≤ k) :
    (beamChanged b v s).ledger.Balanced o k 0 := by
  have hset : (s.setPcu (s.pcu.setBeam v b)).ledger = s.ledger := by cases b <;> exact ledger_setPcu rfl rfl
  unfold beamChanged
  split
  · exact h
  dsimp only
  split
  · rw [ledger_directEpisode]
    split <;> simpa [hset] using h
  split
  · have hcleared := balanced_beamCleared b (s := s.setPcu (s.pcu.setBeam v b)) (by rwa [hset]) hk
    split
    · exact hcleared
    · exact balanced_episodeEnd hcleared
  · rwa [hset]

theorem balanced_enterFault (r : Reason) (n : Nat) (h : s.ledger.Balanced o k 0) (hk : 0 ≤ k) :
    (enterFault r n s).ledger.Balanced o k 0 := by
  unfold enterFault
  dsimp only
  rw [ledger_toneAlarm, ledger_raiseBoth, ledger_openFree]
  refine balanced_cancelBoth _ ?_ hk
  rw [setLeafFault, ledger_setReasons]
  exact balanced_writeFree _ (by simpa using h)

theorem balanced_forceLeaf (l : Leaf) (h : s.ledger.Balanced o k j) : (forceLeaf l s).ledger.Balanced o k j := by
  unfold forceLeaf
  dsimp only
  rw [ledger_toneAlarm, ledger_raiseBoth]
  exact balanced_writeFree _ h

theorem balanced_sampleTaken (n : Nat) (h : s.ledger.Balanced o k 0) (hk : 0 ≤ k) :
    (sampleTaken n s).ledger.Balanced o k 0 := by
  unfold sampleTaken
  dsimp only
  split
  · exact h
  split
  · unfold obstruction
    dsimp only
    split
    · exact balanced_enterFault _ _ (by simpa using h) hk
    · split
      · simpa using h
      · simpa [pauseClose] using h
  · exact h

theorem balanced_moveTimeout (h : s.ledger.Balanced o k 0) (hk : 0 ≤ k) : (moveTimeout s).ledger.Balanced o k 0 := by
  unfold moveTimeout
  split
  case h_4 => exact h
  all_goals exact balanced_enterFault _ _ h hk

theorem ledger_reachTarget (l : Leaf) {f : State → State} (hf : ∀ u, (f u).ledger = u.ledger) (s : State) :
    (reachTarget l f s).ledger = s.ledger := by
  unfold reachTarget
  dsimp only
  split <;> simp [hf]

theorem balanced_switchTaken (l : Leaf) (w : Switch) (v : Bool) (h : s.ledger.Balanced o k j) :
    (switchTaken l w v s).ledger.Balanced o k j := by
  unfold switchTaken
  split
  · exact balanced_forceLeaf l h
  · split <;> simpa using h
  · rwa [ledger_reachTarget l (ledger_enterOpen _)]
  · rwa [ledger_reachTarget l (ledger_chanStop _)]
  · split
    · unfold pausedClosed
      dsimp only
      split <;> simpa using h
    · rwa [ledger_reachTarget l ledger_enterClosed]
  · exact h

theorem balanced_switchChanged (l : Leaf) (w : Switch) (v : Bool) (h : s.ledger.Balanced o k 0) (hk : 0 ≤ k) :
    (switchChanged l w v s).ledger.Balanced o k 0 := by
  unfold switchChanged
  split
  · exact h
  dsimp only
  split
  · exact h
  split
  · exact balanced_enterFault _ _ h hk
  split
  · exact balanced_switchTaken l w v h
  split
  · rwa [ledger_lastSwitchTaken]
  · exact h

/-! ## The effective mode (R25 to R27) -/

theorem balanced_cancelForMode (h : s.ledger.Balanced o k 0) (hk : 0 ≤ k) :
    (cancelForMode s).ledger.Balanced o k 0 := by
  unfold cancelForMode
  split
  · rw [ledger_lfcQueue]
    exact balanced_cancelBoth _ h hk
  · dsimp only
    have hup : (if s.permits .u then s else cancelQueue .u .mode s).ledger.Balanced o k 0 := by
      split
      · exact h
      · exact balanced_cancelQueue .u _ h hk
    rw [ledger_lfcQueue]
    split
    · exact hup
    · exact balanced_cancelQueue .p _ hup hk

theorem ledger_leavesForMode (m : Mode) (s : State) : (leavesForMode m s).ledger = s.ledger := by
  unfold leavesForMode
  split
  · simp
  · split <;> simp

theorem balanced_modeEffects (m : Mode) (r : Reason) (h : s.ledger.Balanced o k 0) (hk : 0 ≤ k) :
    (modeEffects m r s).ledger.Balanced o k 0 := by
  unfold modeEffects
  split
  · exact h
  · dsimp only
    rw [ledger_leavesForMode]
    have hcancelled := balanced_cancelForMode (o := o) (k := k)
      (s := setModeClosed (s.effMode == .closed) (raiseLane .modeChanged (writeFree { s.entry .modeChanged r none with
        extra := modeExtra m s.effMode s.svc.stationMode } s)))
      (by rw [setModeClosed, ledger_setReasons, ledger_raiseLane]; exact balanced_writeFree _ h) hk
    split
    · rwa [ledger_openFree]
    · exact hcancelled

theorem balanced_takeLaneMode (m : Mode) (h : s.ledger.Balanced o k 0) (hk : 0 ≤ k) :
    (takeLaneMode m s).ledger.Balanced o k 0 := by
  unfold takeLaneMode
  refine balanced_settleFree ?_
  rw [ledger_leaveFault]
  exact balanced_modeEffects _ _ h hk

theorem balanced_takeEmerg (v : Bool) (h : s.ledger.Balanced o k 0) (hk : 0 ≤ k) :
    (takeEmerg v s).ledger.Balanced o k 0 := by
  unfold takeEmerg
  split
  · exact h
  · exact balanced_settleFree (balanced_modeEffects _ _ h hk)

end
end Sys2Proof.Machine
end

section
/-! SUPPORT. The ledger under the slots: an image issued, and a slot settled by its outcome (R46 to R53). -/

namespace Sys2Proof.Machine

section
variable {s t : State} {o : Option Side} {k j : Int} {x : Side} {sl : Slot}

/-! ## A slot in hand -/

/-- No entry of a card holds an in-flight record. -/
def Landed (c : Nat) (l : List Sighting) : Prop := ∀ e ∈ l, e.card = c → e.inFlight = none

theorem Landed.of_scu {c : Nat} (h : Landed c s.scu.sightings) (hscu : t.scu = s.scu) : Landed c t.scu.sightings :=
  hscu ▸ h

theorem kept_other {L : Ledger} {y : Side} (h : y ≠ x) : L.kept (some x) y = L.slot y := by
  unfold Ledger.kept
  rw [if_neg fun heq => h (Option.some.inj heq).symm]

theorem slotHeld_none : slotHeld none = 0 := rfl

theorem slotTag_none : slotTag none = 0 := rfl

/-- A side's slot put in hand: its reservations and its tag with it. -/
theorem Ledger.Balanced.opened {L : Ledger} (h : L.Balanced none k j) (x : Side) :
    L.Balanced (some x) (k + slotHeld (L.slot x)) (j + slotTag (L.slot x)) where
  fits := h.fits
  held := by
    have := h.held
    unfold Ledger.held at this ⊢
    cases x <;> simp [Ledger.kept, slotHeld_none] at this ⊢ <;> omega
  queues d := by
    refine (Nat.add_le_add_left (Bool.toNat_le_toNat ?_) _).trans (h.queues d)
    unfold Ledger.kept
    split <;> simp [slotClaims]
  apart := h.apart
  keyed := h.keyed
  size := h.size
  seen y sl hsl := h.seen y sl (by rw [kept_none]; exact (kept_eq_some.mp hsl).2)
  owned := h.owned
  tears := h.tears
  marks := h.marks
  tags := by
    have := h.tags
    unfold Ledger.tags at this ⊢
    rw [← this]
    cases x <;> simp [Ledger.kept, slotTag_none] <;> omega
  sample := h.sample
  tagged y sl hsl := h.tagged y sl (by rw [kept_none]; exact (kept_eq_some.mp hsl).2)

/-- A slot in hand counted again. -/
theorem Ledger.Balanced.closed {L : Ledger} (h : L.Balanced (some x) k j)
    (hroom : (L.queue x).length + (slotClaims (L.slot x)).toNat ≤ 4)
    (hseen : ∀ sl, L.slot x = some sl → ∃ e ∈ L.sightings, e.card = sl.card ∧ e.inFlight.isSome ∧ e.tear = none)
    (htagged : ∀ sl, L.slot x = some sl → sl.audit = true → sl.kind = .accept) :
    L.Balanced none (k - slotHeld (L.slot x)) (j - slotTag (L.slot x)) where
  fits := h.fits
  held := by
    have := h.held
    unfold Ledger.held at this ⊢
    cases x <;> simp [Ledger.kept, slotHeld_none] at this ⊢ <;> omega
  queues d := by
    rw [kept_none]
    by_cases hd : d = x
    · exact hd ▸ hroom
    · have := h.queues d
      rwa [kept_other hd] at this
  apart := h.apart
  keyed := h.keyed
  size := h.size
  seen y sl hsl := by
    rw [kept_none] at hsl
    by_cases hy : y = x
    · exact hseen sl (hy ▸ hsl)
    · exact h.seen y sl (kept_eq_some.mpr ⟨fun heq => hy (Option.some.inj heq).symm, hsl⟩)
  owned := h.owned
  tears := h.tears
  marks := h.marks
  tags := by
    have := h.tags
    unfold Ledger.tags at this ⊢
    rw [← this]
    cases x <;> simp [Ledger.kept, slotTag_none] <;> omega
  sample := h.sample
  tagged y sl hsl := by
    rw [kept_none] at hsl
    by_cases hy : y = x
    · exact htagged sl (hy ▸ hsl)
    · exact h.tagged y sl (kept_eq_some.mpr ⟨fun heq => hy (Option.some.inj heq).symm, hsl⟩)

/-- The slot in hand replaced: the entries in flight are the new slot's or the other slot's. -/
theorem balanced_setSlot {v : Option Slot} (h : s.ledger.Balanced (some x) k j)
    (hapart : ∀ a, v = some a → ∀ b, s.slot (Side.other x) = some b → a.card ≠ b.card)
    (howned : ∀ e ∈ s.scu.sightings, e.inFlight.isSome →
      (∃ a, v = some a ∧ a.card = e.card) ∨ ∃ b, s.slot (Side.other x) = some b ∧ b.card = e.card) :
    (setSlot x v s).ledger.Balanced (some x) k j := by
  have hslot : ∀ y, (setSlot x v s).ledger.slot y = if x = y then v else s.slot y := fun y => by
    rw [slot_ledger, slot_setSlot]
  have hkept : ∀ y, (setSlot x v s).ledger.kept (some x) y = s.ledger.kept (some x) y := fun y => by
    unfold Ledger.kept
    split
    · rfl
    next hy => rw [hslot, slot_ledger, if_neg fun heq => hy (congrArg some heq)]
  have hrest : (setSlot x v s).ledger = { s.ledger with txu := (setSlot x v s).txu } := by cases x <;> rfl
  exact
    { fits := by rw [hrest]; exact h.fits
      held := by
        have := h.held
        unfold Ledger.held at this ⊢
        rw [hkept, hkept, hrest]
        exact this
      queues := fun d => by
        have := h.queues d
        rw [hkept]
        rw [hrest]
        exact this
      apart := fun a b ha hb => by
        rw [hslot] at ha hb
        cases x
        · exact hapart a ha b hb
        · exact (hapart b hb a ha).symm
      keyed := by rw [hrest]; exact h.keyed
      size := by rw [hrest]; exact h.size
      seen := fun y sl hsl => by
        rw [hkept] at hsl
        rw [hrest]
        exact h.seen y sl hsl
      owned := fun e he hf => by
        rw [hrest] at he
        rcases howned e he hf with ⟨a, ha, hc⟩ | ⟨b, hb, hc⟩
        · exact ⟨x, a, by rw [hslot, if_pos rfl, ha], hc⟩
        · exact ⟨Side.other x, b, by rw [hslot, if_neg (by cases x <;> simp [Side.other]), hb], hc⟩
      tears := by rw [hrest]; exact h.tears
      marks := by rw [hrest]; exact h.marks
      tags := by
        have := h.tags
        unfold Ledger.tags at this ⊢
        rw [hkept, hkept, hrest]
        exact this
      sample := by rw [hrest]; exact h.sample
      tagged := fun y sl hsl => by
        rw [hkept] at hsl
        exact h.tagged y sl hsl }

/-- The slot in hand becomes FREE where its card has no in-flight record any more. -/
theorem balanced_freeSlot (h : s.ledger.Balanced (some x) k j) (hsl : s.slot x = some sl)
    (hlanded : Landed sl.card s.scu.sightings) : (freeSlot x s).ledger.Balanced none k j := by
  have hfree : (freeSlot x s).ledger.Balanced (some x) k j := by
    refine balanced_setSlot h nofun fun e he hf => .inr ?_
    obtain ⟨y, a, ha, hc⟩ := h.owned e he hf
    rw [slot_ledger] at ha
    have hy : y ≠ x := by
      rintro rfl
      rw [hsl] at ha
      obtain rfl := Option.some.inj ha
      simp [hlanded e he hc.symm] at hf
    have hother : y = Side.other x := by cases x <;> cases y <;> simp_all [Side.other]
    exact ⟨a, hother ▸ ha, hc⟩
  have hnone : (freeSlot x s).ledger.slot x = none := by rw [slot_ledger, freeSlot, slot_setSlot, if_pos rfl]
  refine (hfree.closed ?_ ?_ ?_).congr (by rw [hnone]; simp [slotHeld_none]) (by rw [hnone]; simp [slotTag_none])
  · have := hfree.queues x
    rw [hnone]
    simp only [slotClaims, Bool.toNat_false] at this ⊢
    omega
  · rw [hnone]
    nofun
  · rw [hnone]
    nofun

/-! ## Entries of the slot in hand -/

/-- The entry of the card in hand exchanged for one with no in-flight record. -/
theorem Ledger.Balanced.landed {L : Ledger} (h : L.Balanced (some x) k j) (hsl : L.slot x = some sl) {e e' : Sighting}
    {l : List Sighting} (hc : e.card = sl.card) (hx : Exchanged e e' L.sightings l)
    (hcard : e'.card = e.card) (hflight : e'.inFlight = none) (hmark : e'.mark = e.mark)
    (htear : e'.tear.isSome → e.tear.isSome ∨ tearCount L.sightings < 32) :
    Balanced (some x) (k + 2 * e.tear.isSome.toNat - 2 * e'.tear.isSome.toNat) j { L with sightings := l }
      ∧ Landed sl.card l := by
  have hapart : ∀ y a, L.kept (some x) y = some a → a.card ≠ e.card := by
    intro y a ha
    obtain ⟨hy, ha⟩ := kept_eq_some.mp ha
    rw [hc]
    cases x <;> cases y
    · exact absurd rfl hy
    · exact (h.apart sl a hsl ha).symm
    · exact h.apart a sl ha hsl
    · exact absurd rfl hy
  refine ⟨h.exchanged (m := L.markOrder) hx hcard (fun hf => by simp [hflight] at hf)
    (fun y a ha heq => absurd heq (hapart y a ha)) htear (marked_exchanged h.marks hx hcard (by rw [hmark])), ?_⟩
  intro y hy hyc
  have hkeyed := hx.keyed hcard h.keyed
  obtain ⟨r, -, hl'⟩ := hx
  exact eq_of_card hkeyed hy (hl'.mem_iff.mpr List.mem_cons_self) (hcard.trans (hc.trans hyc.symm)) ▸ hflight

theorem balanced_touchLanded (h : s.ledger.Balanced (some x) k j) (hsl : s.slot x = some sl) {e e' : Sighting}
    (hs : s.sighting sl.card = some e) (hcard : e'.card = e.card) (hflight : e'.inFlight = none)
    (htear : e'.tear = e.tear) (hmark : e'.mark = e.mark) :
    (touchSighting e' s).ledger.Balanced (some x) k j ∧ Landed sl.card (touchSighting e' s).scu.sightings := by
  obtain ⟨hbalanced, hlanded⟩ := h.landed ((slot_ledger s x).trans hsl) (card_of_sighting hs)
    (exchanged_touch h.keyed (mem_of_sighting hs) hcard) hcard hflight hmark fun ht => .inl (htear ▸ ht)
  exact ⟨hbalanced.congr (by rw [htear]; omega) rfl, hlanded⟩

/-- A card without an entry has no in-flight record. -/
theorem landed_of_none {c : Nat} (h : s.sighting c = none) : Landed c s.scu.sightings := fun e he hc =>
  absurd hc (sighting_none_iff.mp h e he)

theorem sightings_cloneEvidence (c : Nat) (y : Option Side) (q g held : Word16) (s : State) :
    (cloneEvidence c y q g held s).scu.sightings = s.scu.sightings := by
  unfold cloneEvidence
  simp [sightings_localAdd]

theorem balanced_sightDone (q g q' g' : Word16) (h : s.ledger.Balanced (some x) k j) (hsl : s.slot x = some sl) :
    (sightDone sl.card x q g q' g' s).ledger.Balanced (some x) k j
      ∧ Landed sl.card (sightDone sl.card x q g q' g' s).scu.sightings := by
  unfold sightDone
  split
  next hnone => exact ⟨h, landed_of_none hnone⟩
  next e hs =>
    have htouched := balanced_touchLanded h hsl hs (e' := { e with inFlight := none }) rfl rfl rfl rfl
    dsimp only
    split
    · exact balanced_touchLanded h hsl hs rfl rfl rfl rfl
    split
    · exact ⟨balanced_cloneEvidence _ _ _ _ _ htouched.1, by rw [sightings_cloneEvidence]; exact htouched.2⟩
    · exact htouched

theorem balanced_sightNotWritten (h : s.ledger.Balanced (some x) k j) (hsl : s.slot x = some sl) :
    (sightNotWritten sl.card s).ledger.Balanced (some x) k j
      ∧ Landed sl.card (sightNotWritten sl.card s).scu.sightings := by
  unfold sightNotWritten
  split
  next e hs => exact balanced_touchLanded h hsl hs rfl rfl rfl rfl
  next hnone => exact ⟨h, landed_of_none hnone⟩

/-! ## Outcomes (R48 to R52) -/

/-- With a slot awaiting its write, its side's slot in hand holds 3 reservations and its tag. -/
theorem balanced_inHand (h : s.ledger.Balanced none k j) (hsl : s.slot x = some sl) :
    s.ledger.Balanced (some x) (k + 3) (j + sl.audit.toNat) := by
  have hslot : s.ledger.slot x = some sl := (slot_ledger s x).trans hsl
  refine (h.opened x).congr ?_ ?_
  · rw [hslot]
    rfl
  · rw [hslot]
    cases haudit : sl.audit <;> simp [slotTag, haudit]

theorem balanced_doneCredit (w : Word32) (h : s.ledger.Balanced (some x) 2 sl.audit.toNat)
    (hroom : (s.queue x).length < 4) : (doneCredit x sl w s).ledger.Balanced (some x) 1 0 := by
  unfold doneCredit
  dsimp only
  split
  · exact balanced_cancelCredit x _ _ (k := 1) (by simpa using h) (by omega)
  · rw [ledger_toneAccept]
    refine (balanced_createCredit x _ (s := auditOutcome sl .done (sampleTone s .accept) s) (by simpa using h) ?_).congr
      (by omega) (by simp)
    have hqueue := queue_of_pcu (s := s) (t := auditOutcome sl .done (sampleTone s .accept) s) (by simp) x
    simpa [hqueue, Ledger.kept, slotClaims] using hroom

theorem balanced_settleDone (h : s.ledger.Balanced none 0 0) (hsl : s.slot x = some sl) :
    (settleDone x sl s).ledger.Balanced none 0 0 := by
  have hhand := balanced_inHand h hsl
  have hspent := balanced_writeReserved (doneEntry s x sl) hhand (reserved_of_hand hhand (by omega))
  set v := writeReserved (doneEntry s x sl) s
  set w := if sl.kind = .accept then doneCredit x sl s.rjn.nextSeq v else release1 v with hw
  have hw1 : w.ledger.Balanced (some x) 1 0 := by
    rw [hw]
    split
    next hkind =>
      refine balanced_doneCredit _ (hspent.congr (by omega) (by simp)) ?_
      have hqueues := h.queues x
      have hqueue := queue_of_pcu (s := s) (t := v) (by simp [v]) x
      rw [queue_ledger, kept_none, slot_ledger, hsl] at hqueues
      simp [slotClaims, hkind] at hqueues
      rw [hqueue]
      omega
    next hkind =>
      have haudit : sl.audit = false := by
        by_contra htrue
        exact hkind (h.tagged x sl (by rw [kept_none, slot_ledger, hsl]) (by simpa using htrue))
      exact (balanced_release1 hspent (reserved_of_hand hspent (by omega))).congr (by omega) (by simp [haudit])
  have hslot : w.slot x = some sl := by
    refine (slot_of_txu ?_ x).trans hsl
    rw [hw]
    split <;> simp [v]
  obtain ⟨hdone, hlanded⟩ := balanced_sightDone sl.oldSeq sl.oldTag sl.newSeq sl.newTag hw1 hslot
  have hreleased := balanced_release1 hdone (reserved_of_hand hdone (by omega))
  have hfree := balanced_freeSlot (sl := sl) hreleased ((slot_of_txu (by simp) x).trans hslot) (hlanded.of_scu (by simp))
  exact hfree.congr (by omega) rfl

/-- A tagged transaction's sample completed. -/
theorem balanced_outcomeAudit (r : AuditOutcome) (w : WriteResult) (m : SampleTone)
    (h : s.ledger.Balanced none 0 sl.audit.toNat) : (if sl.audit then auditComplete r (auditOutcome sl w m s)
      else auditOutcome sl w m s).ledger.Balanced none 0 0 := by
  have houtcome : (auditOutcome sl w m s).ledger.Balanced none 0 sl.audit.toNat := by simpa using h
  split
  next haudit => exact balanced_auditComplete r (houtcome.congr rfl (by simp [haudit]))
  next haudit => exact houtcome.congr rfl (by simp [haudit])

theorem balanced_settleNotWritten (h : s.ledger.Balanced none 0 0) (hsl : s.slot x = some sl) :
    (settleNotWritten x sl s).ledger.Balanced none 0 0 := by
  have hhand := balanced_inHand h hsl
  have hspent := balanced_writeReserved (notWrittenEntry s x sl) hhand (reserved_of_hand hhand (by omega))
  have hone := balanced_release1 hspent (reserved_of_hand hspent (by omega))
  have hnone := balanced_release1 hone (reserved_of_hand hone (by omega))
  obtain ⟨hsight, hlanded⟩ := balanced_sightNotWritten hnone ((slot_of_txu (by simp) x).trans hsl)
  have hfree := balanced_freeSlot (sl := sl) hsight ((slot_of_txu (by simp) x).trans hsl) hlanded
  unfold settleNotWritten
  dsimp only
  rw [ledger_sguRefuse]
  exact balanced_outcomeAudit _ _ _ (hfree.congr (by omega) (by simp))

/-- After the oldest has gone where 32 stood, fewer than 32 pending-tears stand (R52). -/
theorem tearCount_displaceTear (h : tearCount s.scu.sightings ≤ 32) :
    tearCount (displaceTear s).scu.sightings < 32 := by
  rw [← length_tears] at h ⊢
  unfold displaceTear
  split
  next hlt => exact hlt
  next hfull =>
    split
    next c r heq =>
      have := tears_shorter (mem_earliestTear heq)
      omega
    next hnone =>
      cases htears : s.tears with
      | nil => simp [htears] at hfull
      | cons a l => simp [htears, earliestTear] at hnone

theorem balanced_tornState {e : Sighting} (h : s.ledger.Balanced none 0 0) (hsl : s.slot x = some sl)
    (hs : s.sighting sl.card = some e) (hfew : tearCount s.scu.sightings < 32) :
    (tornState x sl e s).ledger.Balanced none 0 sl.audit.toNat := by
  have hhand := balanced_inHand h hsl
  have hspent := balanced_writeReserved (tearEntry s x sl) hhand (reserved_of_hand hhand (by omega))
  set v := writeReserved (tearEntry s x sl) s
  have hv : v.sighting sl.card = some e := (sighting_of_scu (by simp [v]) _).trans hs
  have hvslot : v.slot x = some sl := (slot_of_txu (by simp [v]) x).trans hsl
  have hclear : e.tear = none :=
    (h.seen_of_mem (mem_of_sighting hs) (x := x) (sl := sl) (by rw [kept_none, slot_ledger, hsl])
      (card_of_sighting hs).symm).2
  obtain ⟨htorn, hlanded⟩ := hspent.landed (e' := tornEntry x sl e s) ((slot_ledger v x).trans hvslot)
    (card_of_sighting hv) (exchanged_put hspent hv rfl) rfl rfl rfl
    fun _ => .inr (by simpa [v, State.ledger] using hfew)
  refine balanced_freeSlot (sl := sl) (s := putSighting (tornEntry x sl e s) v) ?_ hvslot hlanded
  exact htorn.congr (by simp [hclear, tornEntry]) (by simp)

theorem balanced_settleUncertain (r : AuditOutcome) (h : s.ledger.Balanced none 0 0) (hsl : s.slot x = some sl) :
    (settleUncertain r x sl s).ledger.Balanced none 0 0 := by
  have hroom := balanced_displaceTear h le_rfl
  have hslot : (displaceTear s).slot x = some sl := (slot_of_txu (by simp) x).trans hsl
  obtain ⟨e, he, hc, -⟩ := hroom.seen x sl (by rw [kept_none, slot_ledger, hslot])
  have hs : (displaceTear s).sighting sl.card = some e := (sighting_iff_mem hroom.keyed).mpr ⟨he, hc⟩
  rw [settleUncertain_eq r hs]
  exact balanced_outcomeAudit _ _ _ (balanced_tornState hroom hslot hs (tearCount_displaceTear h.tears))

theorem balanced_writeWaitEnds (x : Side) (h : s.ledger.Balanced none 0 0) :
    (writeWaitEnds x s).ledger.Balanced none 0 0 := by
  unfold writeWaitEnds
  split
  next hsl => exact balanced_settleUncertain _ h hsl
  · exact h

theorem balanced_tearSlot (x : Side) (h : s.ledger.Balanced none 0 0) : (tearSlot x s).ledger.Balanced none 0 0 := by
  unfold tearSlot
  split
  next hsl => exact balanced_settleUncertain _ (by simpa using h) ((slot_of_txu (by simp) x).trans hsl)
  · exact h

theorem balanced_takeOutcome (x : Side) (r : WriteResult) (g : Word16) (h : s.ledger.Balanced none 0 0) :
    (takeOutcome x r g s).1.ledger.Balanced none 0 0 := by
  unfold takeOutcome
  split
  next sl hsl =>
    have hstop : (chanStop (writeOf x) s).ledger.Balanced none 0 0 := by simpa using h
    have hslot : (chanStop (writeOf x) s).slot x = some sl := (slot_of_txu (by simp) x).trans hsl
    split
    · cases r with
      | done => exact balanced_settleDone hstop hslot
      | notWritten => exact balanced_settleNotWritten hstop hslot
      | uncertain => exact balanced_settleUncertain _ hstop hslot
      | noWrite => exact h
    · exact h
  · exact h

theorem balanced_settleLane (r : Reason) (h : s.ledger.Balanced none 0 0) :
    (settleLane r s).ledger.Balanced none 0 0 := by
  rw [settleLane_eq]
  refine balanced_auditStart ?_
  rw [ledger_clearTracker, ledger_chanStop]
  exact balanced_cancelBoth r (balanced_tearSlot .p (balanced_tearSlot .u h)) le_rfl

end
end Sys2Proof.Machine
end

section
/-! SUPPORT. The ledger under a presentation (R33 to R45, R93, R97). -/

namespace Sys2Proof.Machine

section
variable {s t : State} {k j : Int} {x : Side} {sl : Slot} {p : Shown}

/-! ## An image issued (R40, R96) -/

theorem ledger_bumpW (s : State) : (bumpW s).ledger = s.ledger :=
  ledger_of_same (by simp) (by simp) (by simp) (by simp) (by simp)

/-- A card that the slot in hand and no other slot holds. -/
theorem kept_apart {L : Ledger} (h : L.Balanced (some x) k j) (hsl : L.slot x = some sl) {y : Side} {a : Slot}
    (ha : L.kept (some x) y = some a) : a.card ≠ sl.card := by
  obtain ⟨hy, ha⟩ := kept_eq_some.mp ha
  cases x <;> cases y
  · exact absurd rfl hy
  · exact (h.apart sl a hsl ha).symm
  · exact h.apart a sl ha hsl
  · exact absurd rfl hy

/-- The sighting of a verdict that issues an image: the card of the slot in hand shows its in-flight record. -/
theorem balanced_sightIssue (ev : SightEvent) (fl : InFlight) (h : s.ledger.Balanced (some x) k j)
    (hsl : s.slot x = some sl) (hclear : ∀ e, s.sighting sl.card = some e → e.tear = none) :
    (sightIssue sl.card ev fl s).ledger.Balanced (some x) k j
      ∧ ∃ e ∈ (sightIssue sl.card ev fl s).scu.sightings, e.card = sl.card ∧ e.inFlight.isSome ∧ e.tear = none := by
  have hslot : s.ledger.slot x = some sl := (slot_ledger s x).trans hsl
  unfold sightIssue
  split
  next e hs =>
    have hc := card_of_sighting hs
    set e' : Sighting := { e.setLocal s fl.oldSeq fl.oldTag ev with inFlight := some fl } with he'
    have hx := exchanged_touch (e' := e') h.keyed (mem_of_sighting hs) rfl
    refine ⟨(h.exchanged (m := s.scu.markOrder) hx rfl (fun _ => .inr ⟨x, sl, hslot, hc.symm⟩) (fun y a ha heq => ?_)
      (fun ht => .inl ht) (Ledger.Balanced.marked_exchanged h.marks hx rfl rfl)).congr (add_sub_cancel_right ..) rfl,
      e', ?_, hc, rfl, hclear e hs⟩
    · exact absurd (heq.trans hc) (kept_apart h hslot ha)
    · simp [touchSighting]
  next hnone =>
    have hinsert := inserted (e := { localSighting s sl.card fl.oldSeq fl.oldTag ev with inFlight := some fl }) rfl
      h.hasPlace hnone
    exact ⟨balanced_insert h hnone rfl rfl fun _ => ⟨x, sl, hsl, rfl⟩,
      _, mem_of_sighting hinsert.1, rfl, rfl, rfl⟩

/-- What a presentation past step 5 stands on: its slot is FREE, the other slot holds another card, no pending-tear is
left of its card, its queue has room, and 64 entries are free (R34, R36, R54). -/
structure Admits (p : Shown) (s : State) : Prop where
  slot : s.slot p.side = none
  apart : ∀ sl, s.slot (Side.other p.side) = some sl → sl.card ≠ p.card.number
  clear : ∀ e, s.sighting p.card.number = some e → e.tear = none
  room : (s.queue p.side).length < 4
  free : 64 ≤ s.free

theorem balanced_issue {i : Issue} (h : s.ledger.Balanced none 0 j) (ha : Admits p s)
    (haudit : i.audit = true → i.kind = .accept) : (issue p i s).ledger.Balanced none 0 (j - i.audit.toNat) := by
  have hreserved := balanced_reserve 3 h (by have := ha.free; omega)
  have hhand := (hreserved.opened p.side).congr (k' := 3) (j' := j)
    (by rw [slot_ledger, slot_of_txu (s := s) (by simp), ha.slot]; simp [slotHeld_none])
    (by rw [slot_ledger, slot_of_txu (s := s) (by simp), ha.slot]; simp [slotTag_none])
  rw [← ledger_bumpW] at hhand
  have hother : (issueState s).slot (Side.other p.side) = s.slot (Side.other p.side) := slot_of_txu (by simp) _
  have hplaced : (awaitState p i s).ledger.Balanced (some p.side) 3 j := by
    rw [awaitState, ledger_chanStart]
    refine balanced_setSlot (s := issueState s) hhand ?_ fun e he hf => .inr ?_
    · rintro a ⟨⟩ b hb
      exact (ha.apart b (hother ▸ hb)).symm
    · obtain ⟨y, a, hy, hc⟩ := hhand.owned e he hf
      rw [slot_ledger, ← show issueState s = bumpW (reserve 3 s) from rfl, slot_of_txu (s := s) (by simp)] at hy
      rw [hother]
      by_cases heq : y = p.side
      · rw [heq, ha.slot] at hy
        cases hy
      · have : y = Side.other p.side := by cases hp : p.side <;> cases y <;> simp_all [Side.other]
        exact ⟨a, this ▸ hy, hc⟩
  have hslot : (awaitState p i s).slot p.side = some (i.slot p s) := by
    rw [awaitState, slot_of_txu (s := setSlot p.side (some (i.slot p s)) (issueState s)) (by simp), slot_setSlot,
      if_pos rfl]
  obtain ⟨hsighted, hseen⟩ : (issue p i s).ledger.Balanced (some p.side) 3 j ∧ ∃ e ∈ (issue p i s).scu.sightings,
      e.card = p.card.number ∧ e.inFlight.isSome ∧ e.tear = none := balanced_sightIssue i.event (i.flight p s) hplaced hslot fun e he =>
    ha.clear e ((sighting_of_scu (by simp [awaitState]) _).symm.trans he)
  have hafter : (issue p i s).ledger.slot p.side = some (i.slot p s) := by rw [slot_ledger, slot_issue, if_pos rfl]
  refine (hsighted.closed ?_ ?_ ?_).congr ?_ ?_
  · have hqueue : (issue p i s).queue p.side = s.queue p.side := queue_of_pcu (by simp) _
    rw [queue_ledger, hqueue]
    have := ha.room
    have := Bool.toNat_le (slotClaims ((issue p i s).ledger.slot p.side))
    omega
  · rintro sl hsl
    obtain rfl := Option.some.inj (hafter.symm.trans hsl)
    exact hseen
  · rintro sl hsl
    obtain rfl := Option.some.inj (hafter.symm.trans hsl)
    exact haudit
  · rw [hafter]
    rfl
  · rw [hafter]
    cases hi : i.audit <;> simp [slotTag, Issue.slot, hi]

theorem balanced_refuseAndWrite (h : s.ledger.Balanced none 0 0) (ha : Admits p s) :
    (refuseAndWrite p s).1.ledger.Balanced none 0 0 := by
  unfold refuseAndWrite
  rw [ledger_sguRefuse]
  exact (balanced_issue (i := deniedIssue p) h ha (by simp [deniedIssue])).congr rfl (by simp [deniedIssue])

theorem armed_of_ads (h : t.ads = s.ads) : auditArmed t = auditArmed s := by rw [auditArmed, auditArmed, h]

theorem balanced_accept (c : Classified) (h : s.ledger.Balanced none 0 0) (ha : Admits p s) :
    (accept p c s).1.ledger.Balanced none 0 0 := by
  have hissued := balanced_issue (i := acceptIssue p c s) h ha fun _ => rfl
  refine (balanced_auditOffer _ hissued).congr rfl ?_
  rw [armed_of_ads (t := issue p (acceptIssue p c s) s) (s := s) (by simp)]
  exact sub_add_cancel ..

/-! ## Verdicts without a write (R40, R97) -/

theorem balanced_acceptNoWrite (kind : CreditKind) (r : Reason) (w : Word32) (h : s.ledger.Balanced none 1 0)
    (hslot : s.slot p.side = none) (hroom : (s.queue p.side).length < 4) :
    (acceptNoWrite p kind r w s).ledger.Balanced none 0 0 := by
  unfold acceptNoWrite
  rw [ledger_toneAccept]
  refine (balanced_createCredit p.side _ (balanced_auditOffer (noWriteSample s p r) h) ?_).congr (by omega) ?_
  · have hqueue : (auditOffer (noWriteSample s p r) s).queue p.side = s.queue p.side := queue_of_pcu (by simp) _
    have hstill : (auditOffer (noWriteSample s p r) s).slot p.side = none := (slot_of_txu (by simp) _).trans hslot
    rw [kept_none, slot_ledger, hstill, hqueue]
    exact hroom
  · exact (congrArg (· - _) (zero_add _)).trans (sub_self _)

theorem free_writeFree (e : Entry) (h : s.free ≠ 0) : (writeFree e s).free = s.free - 1 := by
  simp only [State.free, writeFree_room e s h, List.length_append, List.length_singleton]
  omega

theorem balanced_reopen (h : s.ledger.Balanced none 0 0) (ha : Admits p s) :
    (reopen p s).1.ledger.Balanced none 0 0 := by
  unfold reopen
  dsimp only
  set v := sightReopen p s
  set w := writeFree (shownEntry v p .reopen .reopen) v
  have hfree : v.free = s.free := by simp [State.free, v]
  have hone : 1 ≤ w.free := by
    rw [free_writeFree _ (by have := ha.free; omega)]
    have := ha.free
    omega
  have hreserved := balanced_reserve 1 (balanced_writeFree (shownEntry v p .reopen .reopen) (balanced_sightReopen p h)) hone
  refine balanced_acceptNoWrite _ _ _ hreserved ((slot_of_txu (by simp [w, v]) _).trans ha.slot) ?_
  rw [queue_of_pcu (s := s) (by simp [w, v])]
  exact ha.room

theorem balanced_tearCompleted {e : Sighting} {r : Tear} (h : s.ledger.Balanced none 0 0)
    (hs : s.sighting p.card.number = some e) (ht : e.tear.isSome) (hslot : s.slot p.side = none)
    (hroom : (s.queue p.side).length < 4) : (tearCompleted p r s).1.ledger.Balanced none 0 0 := by
  have hresolved := balanced_sightCompleted p (balanced_resolveTear r true h le_rfl hs ht)
  refine balanced_acceptNoWrite _ _ _ (balanced_writeFree _ hresolved) ((slot_of_txu (by simp) _).trans hslot) ?_
  rw [queue_of_pcu (s := s) (by simp)]
  exact hroom

/-! ## Refusals (R34 to R39) -/

@[simp] theorem balanced_refuseWith (e : Entry) (r : Reason) (h : s.ledger.Balanced none k j) :
    (refuseWith p e r s).1.ledger.Balanced none k j := by
  unfold refuseWith
  rw [ledger_sguRefuse]
  exact balanced_writeFree e h

@[simp] theorem balanced_refuseSeen (e : Entry) (r : Reason) (h : s.ledger.Balanced none k j) :
    (refuseSeen p e r s).1.ledger.Balanced none k j := balanced_refuseWith e r (balanced_sightRefusal _ _ _ h)

theorem balanced_refuseClone (held : Word16) (h : s.ledger.Balanced none k j) :
    (refuseClone p held s).1.ledger.Balanced none k j := by
  unfold refuseClone
  refine balanced_refuseWith _ _ ?_
  rw [ledger_raiseStation]
  exact balanced_sightTouch _ (by rwa [ledger_localAdd])

theorem balanced_refuseBlocked (h : s.ledger.Balanced none 0 0) : (refuseBlocked p s).1.ledger.Balanced none 0 0 := by
  unfold refuseBlocked
  refine balanced_refuseSeen _ _ ?_
  split
  next r htear =>
    unfold State.tearOf at htear
    split at htear
    next e hs => exact balanced_resolveRow r _ _ _ h le_rfl hs (by rw [htear]; rfl)
    · cases htear
  · exact h

/-! ## Screening (R33) -/

theorem balanced_screenFresh (h : s.ledger.Balanced none 0 0) (ha : Admits p s) :
    (screenFresh p s).1.ledger.Balanced none 0 0 := by
  unfold screenFresh
  split
  · exact balanced_reopen h ha
  split
  · exact balanced_refuseAndWrite h ha
  split
  · unfold entrySteps
    split
    · exact balanced_refuseSeen _ _ h
    · dsimp only
      split
      · exact balanced_refuseSeen _ _ h
      · exact balanced_accept _ h ha
  · unfold exitSteps
    dsimp only
    split
    · exact balanced_accept _ h ha
    · exact balanced_refuseSeen _ _ h

/-- A card whose entry is resolved shows the entry at the new image or as it stood, without its pending-tear. -/
theorem sighting_resolveTear {c : Nat} {e : Sighting} (r : Tear) (w : Bool) (hs : s.sighting c = some e) :
    (resolveTear c r w s).sighting c = some
      (if w then { e with seq := r.newSeq, tag := r.newTag, tear := none } else { e with tear := none }) := by
  obtain rfl := card_of_sighting hs
  rw [resolveTear_seen hs]
  have hw := (sighting_of_scu (s := s) (t := writeReserved (tearResolvedEntry s e.card r
    (if w then .written else .notWritten)) s) (by simp) e.card).trans hs
  cases w
  · exact sighting_put_same (e := { e with tear := none }) hw
  · exact sighting_put_same (e := { e with seq := r.newSeq, tag := r.newTag, tear := none }) hw

/-- What a row of R54 settles: WRITTEN, NOT_WRITTEN, or nothing at rows 6 and 7. -/
def TearRow.verdict : TearRow → Option Bool
  | .oldImage | .lostToOther => some false
  | .newSameSide | .newOtherSide | .writtenAgain => some true
  | .cloneEqual | .cloneBehind => none

/-- The row of a presented sequence and tag settles what R54 says of them. -/
theorem verdict_tearRow (r : Tear) (x : Side) (q g : Word16) : (tearRow r x q g).verdict = tearVerdict r q g := by
  unfold tearRow tearVerdict
  by_cases hold : q = r.oldSeq ∧ g = r.oldTag
  · rw [if_pos hold, if_pos hold]
    rfl
  rw [if_neg hold, if_neg hold]
  by_cases hseq : q = r.newSeq
  · by_cases htag : g = r.newTag
    · rw [if_pos ⟨hseq, htag⟩, if_pos hseq, htag]
      split <;> simp [TearRow.verdict]
    · rw [if_neg fun h => htag h.2, if_pos hseq, if_pos hseq]
      simp [TearRow.verdict, htag]
  · rw [if_neg fun h => hseq h.1, if_neg hseq, if_neg hseq]
    split
    · rfl
    split <;> rfl

/-- The rows of R54 that resolve a pending-tear. -/
def TearRow.resolves (row : TearRow) : Bool := row.verdict.isSome

theorem clear_resolveRow {c : Nat} {e : Sighting} (r : Tear) {row : TearRow} (q g : Word16) (hs : s.sighting c = some e)
    (hrow : row.resolves = true) :
    ∃ e', (resolveRow c r row q g s).sighting c = some e' ∧ e'.tear = none ∧ e'.mark = e.mark := by
  have hresolved : ∀ w, ∃ e', (resolveTear c r w s).sighting c = some e' ∧ e'.tear = none ∧ e'.mark = e.mark := fun w =>
    ⟨_, sighting_resolveTear r w hs, by cases w <;> exact ⟨rfl, rfl⟩⟩
  have hreleased : ∀ w, ∃ e', (release1 (resolveTear c r w s)).sighting c = some e' ∧ e'.tear = none
      ∧ e'.mark = e.mark := fun w => by
    rw [sighting_of_scu (s := resolveTear c r w s) (by simp)]
    exact hresolved w
  cases row with
  | oldImage => exact hreleased false
  | newSameSide => exact hreleased true
  | newOtherSide => exact hreleased true
  | lostToOther =>
    obtain ⟨e', he', hclear⟩ := hresolved false
    refine ⟨{ e' with seq := q, tag := g }, ?_, hclear⟩
    obtain rfl := card_of_sighting he'
    refine (sighting_of_scu (s := sightLost e'.card q g (resolveTear e'.card r false s)) (by simp [resolveRow]) _).trans ?_
    simp only [sightLost, he']
    exact sighting_touch_same { e' with seq := q, tag := g } _
  | writtenAgain => exact hreleased true
  | cloneEqual => cases hrow
  | cloneBehind => cases hrow

theorem free_release1 (h : s.rjn.reserved ≠ 0) (hfree : 0 < s.free) : s.free ≤ (release1 s).free :=
  ((settles_release1 h).room hfree).2

theorem free_writeReserved (e : Entry) (h : s.rjn.reserved ≠ 0) : (writeReserved e s).free = s.free := by
  rw [State.free, State.free, writeReserved_held e s h]
  simp only [List.length_append, List.length_singleton]
  omega

theorem free_resolveTear (c : Nat) (r : Tear) (w : Bool) (h : s.rjn.reserved ≠ 0) :
    (resolveTear c r w s).free = s.free := by
  rw [State.free, rjn_resolveTear]
  exact free_writeReserved _ h

theorem reserved_resolveTear (c : Nat) (r : Tear) (w : Bool) (h : s.rjn.reserved ≠ 0) :
    (resolveTear c r w s).rjn.reserved = s.rjn.reserved - 1 := by
  rw [rjn_resolveTear, writeReserved_held _ s h]

theorem free_resolveRow (c : Nat) (r : Tear) (row : TearRow) (q g : Word16) (h : 2 ≤ s.rjn.reserved) (hfree : 0 < s.free) :
    s.free ≤ (resolveRow c r row q g s).free := by
  have hreleased : ∀ u : State, (∃ w, u.rjn = (resolveTear c r w s).rjn) → s.free ≤ (release1 u).free := by
    rintro u ⟨w, hu⟩
    have hsame : u.free = s.free := (by rw [State.free, hu]; rfl : u.free = (resolveTear c r w s).free).trans
      (free_resolveTear c r w (by omega))
    have hone : u.rjn.reserved ≠ 0 := by
      rw [hu, reserved_resolveTear c r w (by omega)]
      omega
    exact hsame ▸ free_release1 hone (hsame.symm ▸ hfree)
  cases row with
  | oldImage => exact hreleased _ ⟨false, rfl⟩
  | newSameSide => exact hreleased _ ⟨true, rfl⟩
  | newOtherSide => exact hreleased _ ⟨true, rfl⟩
  | lostToOther => exact hreleased _ ⟨false, by simp⟩
  | writtenAgain => exact hreleased _ ⟨true, rfl⟩
  | cloneEqual => exact le_rfl
  | cloneBehind => exact le_rfl

/-- What a presentation with a pending-tear stands on once the tear is resolved. -/
theorem admits_resolveRow {e : Sighting} (r : Tear) {row : TearRow} (q g : Word16) (h : s.ledger.Balanced none 0 0)
    (hs : s.sighting p.card.number = some e) (ht : e.tear.isSome) (hrow : row.resolves = true)
    (hslot : s.slot p.side = none) (hapart : ∀ sl, s.slot (Side.other p.side) = some sl → sl.card ≠ p.card.number)
    (hroom : (s.queue p.side).length < 4) (hfree : 64 ≤ s.free) :
    Admits p (resolveRow p.card.number r row q g s) where
  slot := (slot_of_txu (by simp) _).trans hslot
  apart := by rwa [slot_of_txu (s := s) (by simp)]
  clear e' he' := by
    obtain ⟨e'', he'', hclear, -⟩ := clear_resolveRow r q g hs hrow
    obtain rfl := Option.some.inj (he''.symm.trans he')
    exact hclear
  room := by rwa [queue_of_pcu (s := s) (by simp)]
  free := hfree.trans (free_resolveRow _ r row q g (reserved_of_tear h le_rfl hs ht) (by omega))

theorem balanced_screenTear {e : Sighting} {r : Tear} (h : s.ledger.Balanced none 0 0)
    (hs : s.sighting p.card.number = some e) (ht : e.tear = some r) (hslot : s.slot p.side = none)
    (hapart : ∀ sl, s.slot (Side.other p.side) = some sl → sl.card ≠ p.card.number)
    (hroom : (s.queue p.side).length < 4) (hfree : 64 ≤ s.free) :
    (screenTear p e r s).1.ledger.Balanced none 0 0 := by
  have hsome : e.tear.isSome := by rw [ht]; rfl
  have hfresh : ∀ row : TearRow, row.resolves = true →
      (screenFresh p (resolveRow p.card.number r row p.card.seq p.card.tag s)).1.ledger.Balanced none 0 0 := fun row hrow =>
    balanced_screenFresh (balanced_resolveRow r row _ _ h le_rfl hs hsome)
      (admits_resolveRow r _ _ h hs hsome hrow hslot hapart hroom hfree)
  unfold screenTear
  dsimp only
  split
  · exact balanced_refuseClone _ h
  · exact balanced_refuseClone _ h
  · split
    · exact balanced_tearCompleted h hs hsome hslot hroom
    · exact hfresh _ (by simp_all [TearRow.resolves, TearRow.verdict])
  all_goals exact hfresh _ (by simp_all [TearRow.resolves, TearRow.verdict])

/-- Step 1 passes in these states alone (R34). -/
theorem admitted (h : availability s x = none) : s.effMode ≠ .free ∧ s.svc.reasons.empty = true ∧ s.permits x = true
    ∧ s.slot x = none ∧ (s.queue x).length < 4 := by
  unfold availability at h
  split_ifs at h with hfree hempty hpermits hslot hroom
  have hslot : s.slot x = none := by simpa using hslot
  refine ⟨hfree, by simpa using hempty, by simpa using hpermits, hslot, ?_⟩
  have hclaim : s.claim x = false := by rw [State.claim, hslot]
  simpa [State.room, hclaim] using hroom

theorem free_of_judged (h : s.spaceJudged) (hempty : s.svc.reasons.empty = true) : 64 ≤ s.free := by
  obtain ⟨-, hstop, hreason⟩ := h
  rw [← hreason, journalStop_of_empty hempty] at hstop
  simpa using hstop

theorem balanced_present (x : Side) (im : List Byte) (h : s.ledger.Balanced none 0 0) (hjudged : s.spaceJudged) :
    (present x im s).1.ledger.Balanced none 0 0 := by
  unfold present
  split
  · rw [refuseEarly, ledger_sguRefuse]
    exact h
  next hpass =>
    obtain ⟨-, hempty, -, hslot, hroom⟩ := admitted hpass
    have hfree := free_of_judged hjudged hempty
    dsimp only
    split
    · rw [refuseUnreadable, ledger_sguRefuse]
      exact balanced_writeFree _ h
    split
    · exact balanced_refuseWith _ _ h
    split
    · exact balanced_refuseBlocked h
    split
    · exact balanced_refuseSeen _ _ h
    next hnone =>
      have hapart : ∀ sl, s.slot (Side.other x) = some sl → sl.card ≠ (readCard im).number := by
        intro sl hsl heq
        simp [otherSlotOf, hsl, heq] at hnone
      unfold screenSighting
      split
      next hunseen => exact balanced_screenFresh h ⟨hslot, hapart, by simp [hunseen], hroom, hfree⟩
      next e hs =>
        split
        next r ht => exact balanced_screenTear h hs ht hslot hapart hroom hfree
        next ht =>
          split
          · exact balanced_screenFresh h ⟨hslot, hapart, by simp [hs, ht], hroom, hfree⟩
          · exact balanced_refuseClone _ h

end
end Sys2Proof.Machine
end

section
/-! SUPPORT. The ledger under fares, the clock, the requests, the rows and the starts, and the statement that every step
keeps the books. -/

namespace Sys2Proof.Machine

section
variable {s t : State} {k j : Int}

/-! ## Fares, keys and the clock -/

theorem balanced_swapBanks (r : Reason) (h : s.ledger.Balanced none k j) :
    (swapBanks r s).ledger.Balanced none k j := by
  unfold swapBanks
  dsimp only
  split
  · exact balanced_writeFree _ h
  · rw [setNoFare, ledger_setReasons]
    exact balanced_writeFree _ h

theorem balanced_fruTakes (h : s.ledger.Balanced none k j) : (fruTakes s).ledger.Balanced none k j := by
  unfold fruTakes takeTimedSwitch
  split
  · split
    · split
      · exact balanced_swapBanks _ h
      · exact h
    · exact h
  · exact h

theorem balanced_takeHanded (h : s.ledger.Balanced none 0 0) : (takeHanded s).ledger.Balanced none 0 0 :=
  balanced_tearsTake (balanced_marksTake (balanced_fruTakes h)) le_rfl

theorem ledger_handSecond (s : State) : (handSecond s).ledger = s.ledger := rfl

theorem balanced_secondTaken (h : s.ledger.Balanced none 0 0) : (secondTaken s).ledger.Balanced none 0 0 := by
  have htaken := balanced_takeHanded h
  unfold secondTaken
  generalize takeHanded s = w at htaken ⊢
  dsimp only
  split <;> exact htaken

theorem balanced_clockSet (new : DayTime) (h : s.ledger.Balanced none 0 0) :
    (clockSet new s).ledger.Balanced none 0 0 := by
  have hnoted : (noteStep new (takeHanded s)).ledger.Balanced none 0 0 := by
    unfold noteStep
    split
    · exact balanced_writeFree _ (balanced_takeHanded h)
    · exact balanced_takeHanded h
  refine balanced_takeHanded ?_
  rw [ledger_handSecond, setNoTime, ledger_setReasons]
  exact hnoted

theorem balanced_loadKey (n : Key) (h : s.ledger.Balanced none k j) : (loadKey n s).ledger.Balanced none k j := by
  unfold loadKey
  split
  · exact h
  · rw [setNoKey, ledger_setReasons]
    exact balanced_writeFree _ h

/-! ## Lane restart -/

theorem ledger_resetSignals (s : State) : (resetSignals s).ledger = s.ledger := rfl

theorem ledger_restartLeaves (s : State) : (restartLeaves s).ledger = s.ledger := by
  unfold restartLeaves
  split
  · rfl
  · rw [ledger_commandLeaves, setLeafFault, ledger_setReasons, ledger_chanStop, ledger_chanStop]

theorem balanced_laneRestarted (r : Reason) (h : s.ledger.Balanced none 0 0) :
    (laneRestarted r s).ledger.Balanced none 0 0 := by
  unfold laneRestarted
  dsimp only
  rw [ledger_raiseBoth, ledger_resetSignals, clearHold, setHoldReason, ledger_setReasons]
  refine balanced_settleFree ?_
  rw [ledger_restartLeaves]
  exact balanced_settleLane _ (balanced_writeFree _ h)

/-! ## Requests -/

section
variable (b : List Byte)

theorem balanced_cardPresentRun (h : s.ledger.Balanced none 0 0) (hjudged : s.spaceJudged) :
    (cardPresentRun b s).1.ledger.Balanced none 0 0 := by
  unfold cardPresentRun
  split
  · exact balanced_present _ _ h hjudged
  · exact h

theorem balanced_writeOutcomeRun (h : s.ledger.Balanced none 0 0) :
    (writeOutcomeRun b s).1.ledger.Balanced none 0 0 := by
  unfold writeOutcomeRun
  split
  · exact balanced_takeOutcome _ _ _ h
  · exact h

theorem balanced_staffCredit (d : Side) (h : s.ledger.Balanced none 0 0) (hpass : staffRefusal s d = none) :
    (staffCredit d s).ledger.Balanced none 0 0 := by
  unfold staffRefusal at hpass
  split_ifs at hpass with hpermits hroom hready
  simp only [not_or, not_lt] at hready
  set v := writeFree (s.entry .staffPass .staff (some d)) s
  have hone : 1 ≤ v.free := by
    rw [free_writeFree _ (by omega)]
    omega
  have hreserved := balanced_reserve 1 (balanced_writeFree (s.entry .staffPass .staff (some d)) h) hone
  refine (balanced_createCredit d _ hreserved ?_).congr rfl rfl
  have hqueue : (reserve 1 v).queue d = s.queue d := queue_of_pcu (by simp [v]) d
  have hslot : (reserve 1 v).slot d = s.slot d := slot_of_txu (by simp [v]) d
  rw [kept_none, slot_ledger, hslot, hqueue, ← claim_eq]
  simpa [State.room] using hroom

theorem balanced_staffPassRun (h : s.ledger.Balanced none 0 0) : (staffPassRun b s).1.ledger.Balanced none 0 0 := by
  unfold staffPassRun
  split
  · split
    · exact h
    next hpass => exact balanced_staffCredit _ h hpass
  · exact h

theorem balanced_cueToneRun (h : s.ledger.Balanced none k j) : (cueToneRun b s).1.ledger.Balanced none k j := by
  unfold cueToneRun
  dsimp only
  split
  · exact h
  · rwa [ledger_requestTone]

theorem ledger_setNotices (p : Port) (ns : List Notice) (s : State) : (setNotices p ns s).ledger = s.ledger := by
  cases p <;> rfl

theorem ledger_noticeFetchRun (p : Port) (s : State) : (noticeFetchRun p b s).1.ledger = s.ledger := by
  unfold noticeFetchRun
  split
  · exact ledger_setNotices ..
  · rfl

theorem ledger_noticeMaskRun (p : Port) (s : State) : (noticeMaskRun p b s).1.ledger = s.ledger := by
  unfold noticeMaskRun
  dsimp only
  split
  · exact ledger_setNotices ..
  · rfl

theorem ledger_journalFetchRun (s : State) : (journalFetchRun b s).1.ledger = s.ledger := by
  unfold journalFetchRun
  dsimp only
  split <;> rfl

theorem balanced_journalReleaseRun (h : s.ledger.Balanced none k j) :
    (journalReleaseRun b s).1.ledger.Balanced none k j := by
  unfold journalReleaseRun
  dsimp only
  split
  · exact h
  · exact balanced_releaseEntries _ h

theorem ledger_denyDeltaRun (p : Port) (s : State) : (denyDeltaRun p b s).1.ledger = s.ledger := by
  unfold denyDeltaRun deltaRefused
  split
  · rfl
  · dsimp only
    split <;> rfl

theorem ledger_denyProbeRun (s : State) : (denyProbeRun b s).1.ledger = s.ledger := by
  unfold denyProbeRun
  dsimp only
  split <;> rfl

theorem balanced_sightingRun (h : s.ledger.Balanced none 0 0) : (sightingRun b s).1.ledger.Balanced none 0 0 := by
  unfold sightingRun
  dsimp only
  split
  · split_ifs
    · exact h
    · exact h
    · exact balanced_mergeSighting _ _ h le_rfl
  · exact h

theorem ledger_fareChunkRun (s : State) : (fareChunkRun b s).1.ledger = s.ledger := by
  unfold fareChunkRun
  dsimp only
  split_ifs
  · rfl
  · rfl
  · exact ledger_of_same (by simp) (by simp) (by simp) (by simp) (by simp)

theorem ledger_fareCloseRun (s : State) : (fareCloseRun b s).1.ledger = s.ledger := by
  unfold fareCloseRun
  split
  · exact ledger_of_same (by simp) (by simp) (by simp) (by simp) (by simp)
  · exact ledger_of_same (by simp) (by simp) (by simp) (by simp) (by simp)

theorem balanced_fareSwitchRun (h : s.ledger.Balanced none k j) : (fareSwitchRun b s).1.ledger.Balanced none k j := by
  unfold fareSwitchRun
  dsimp only
  split_ifs
  · exact balanced_swapBanks _ h
  all_goals exact h

theorem balanced_clockSetRun (h : s.ledger.Balanced none 0 0) : (clockSetRun b s).1.ledger.Balanced none 0 0 := by
  unfold clockSetRun
  dsimp only
  split
  · exact balanced_clockSet _ h
  · exact h

theorem balanced_laneModeRun (h : s.ledger.Balanced none 0 0) : (laneModeRun b s).1.ledger.Balanced none 0 0 := by
  unfold laneModeRun
  split
  · exact balanced_takeLaneMode _ h le_rfl
  · exact h

theorem ledger_laneSetupRun (s : State) : (laneSetupRun b s).1.ledger = s.ledger := by
  rw [laneSetupRun, setNoSetup, ledger_setReasons, ledger_setSetup]

theorem balanced_auditSetupRun (h : s.ledger.Balanced none k j) : (auditSetupRun b s).1.ledger.Balanced none k j := by
  unfold auditSetupRun
  split
  next enable _ _ _ =>
    refine h.rephased (p := if !enable && s.ads.phase == .armed .counter then .idle else s.ads.phase)
      (b := s.ads.sample.isSome) ?_ ?_
    · refine Eq.trans h.sample (show s.ads.phase.holdsSample = _ from ?_)
      split
      next hout =>
        simp only [Bool.and_eq_true, beq_iff_eq] at hout
        rw [hout.2]
        rfl
      next => rfl
    · show j - j = _ - if s.ads.phase = .tracking then (1 : Int) else 0
      split
      next hout =>
        simp only [Bool.and_eq_true, beq_iff_eq] at hout
        simp [hout.2]
      next => simp
  · exact h

theorem ledger_auditReadRun (s : State) : (auditReadRun s).1.ledger = s.ledger := by
  unfold auditReadRun
  split <;> rfl

theorem balanced_auditReleaseRun (h : s.ledger.Balanced none k j) : (auditReleaseRun s).1.ledger.Balanced none k j := by
  unfold auditReleaseRun
  split
  next hphase =>
    exact h.rephased (p := .idle) (b := false) rfl (by rw [show s.ledger.phase = .valid from hphase]; simp)
  · exact h

theorem balanced_auditTagRun (h : s.ledger.Balanced none k j) : (auditTagRun s).1.ledger.Balanced none k j := by
  unfold auditTagRun
  split
  next hphase =>
    have hnone : s.ads.sample.isSome = false := h.sample.trans (by rw [show s.ledger.phase = .idle from hphase]; rfl)
    exact h.rephased (p := .armed .station) hnone (by rw [show s.ledger.phase = .idle from hphase]; simp)
  · exact h

end

theorem balanced_run {rq : Request} (hrq : rq ∈ allRequests) (p : Port) (b : List Byte)
    (h : s.ledger.Balanced none 0 0) (hjudged : s.spaceJudged) : (rq.run p b s).1.ledger.Balanced none 0 0 := by
  have hquiet : ∀ u : State, u.ledger = s.ledger → u.ledger.Balanced none 0 0 := fun u hu => hu ▸ h
  simp only [allRequests, List.mem_cons, List.not_mem_nil, or_false] at hrq
  rcases hrq with rfl | rfl | rfl | rfl | rfl | rfl | rfl | rfl | rfl | rfl | rfl | rfl | rfl | rfl | rfl | rfl | rfl
    | rfl | rfl | rfl | rfl | rfl | rfl | rfl | rfl | rfl | rfl | rfl
  · exact balanced_cardPresentRun b h hjudged
  · exact balanced_writeOutcomeRun b h
  · exact hquiet _ (ledger_setReasons ..)
  · exact hquiet _ (ledger_setReasons ..)
  · exact balanced_staffPassRun b h
  · exact balanced_cueToneRun b h
  · exact h
  · exact hquiet _ (ledger_noticeFetchRun b p s)
  · exact hquiet _ (ledger_noticeMaskRun b p s)
  · exact balanced_laneRestarted _ h
  · exact h
  · exact hquiet _ (ledger_journalFetchRun b s)
  · exact balanced_journalReleaseRun b h
  · exact hquiet _ (ledger_denyDeltaRun b p s)
  · exact h
  · exact hquiet _ (ledger_denyProbeRun b s)
  · exact balanced_sightingRun b h
  · exact hquiet _ (ledger_fareChunkRun b s)
  · exact hquiet _ (ledger_fareCloseRun b s)
  · exact balanced_fareSwitchRun b h
  · exact balanced_clockSetRun b h
  · exact balanced_loadKey _ h
  · exact balanced_laneModeRun b h
  · exact hquiet _ (ledger_laneSetupRun b s)
  · exact balanced_auditSetupRun b h
  · exact hquiet _ (ledger_auditReadRun s)
  · exact balanced_auditReleaseRun h
  · exact balanced_auditTagRun h

/-! ## Rows -/

theorem PortsOnly.ledger (h : PortsOnly s t) : t.ledger = s.ledger := by
  obtain ⟨p, x, rfl⟩ := h
  rfl

theorem PortsOnly.spaceJudged (h : PortsOnly s t) : s.spaceJudged → t.spaceJudged := by
  obtain ⟨p, x, rfl⟩ := h
  exact id

theorem Handled.balanced (ht : Handled s t) (h : s.ledger.Balanced none 0 0) (hjudged : s.spaceJudged) :
    t.ledger.Balanced none 0 0 := by
  cases ht with
  | ports hports => exact hports.ledger ▸ h
  | run hrq p b hu hv => exact hv.ledger ▸ balanced_run hrq p b (hu.ledger ▸ h) (hu.spaceJudged hjudged)

theorem ledger_signalEnds (s : State) : (signalEnds s).ledger = s.ledger := by
  unfold signalEnds
  split <;> rfl

theorem Act.balanced {f : State → State} (hf : Act s f) (h : s.ledger.Balanced none 0 0) :
    (f s).ledger.Balanced none 0 0 := by
  cases hf with
  | second => exact balanced_secondTaken h
  | fares => exact balanced_fruTakes h
  | marks => exact balanced_marksTake (balanced_fruTakes h)
  | tears => exact balanced_tearsTake (balanced_fruTakes h) le_rfl
  | emergency v => exact balanced_takeEmerg v (s := pinLevel .emerg v s) h le_rfl
  | beam b v => exact balanced_beamChanged b v (s := pinLevel (.beam b) v s) h le_rfl
  | switch l w v => exact balanced_switchChanged l w v (s := pinLevel (.switch l w) v s) h le_rfl
  | sample n _ => exact balanced_sampleTaken n h le_rfl
  | warning d => simpa using h
  | expiry d => exact balanced_expireHead d (s := takeUnderflow (windowOf d) s) h le_rfl
  | wait x => exact balanced_writeWaitEnds x (s := takeUnderflow (writeOf x) s) h
  | hold => simpa using h
  | move => exact balanced_moveTimeout (s := takeUnderflow .leafMove s) h le_rfl
  | occupied => exact h
  | silence => exact h
  | segment => exact (ledger_signalEnds _).symm ▸ h
  | lapse x => cases x <;> exact h
  | read n => exact h

theorem Effect.balanced (ht : Effect s t) (h : s.ledger.Balanced none 0 0) (hjudged : s.spaceJudged) :
    t.ledger.Balanced none 0 0 := by
  cases ht with
  | quiet hports _ _ => exact hports.ledger ▸ h
  | handled ht =>
    rw [ledger_finish]
    exact ht.balanced h hjudged
  | acted hf =>
    rw [ledger_finish]
    exact hf.balanced h
  | retainedTick => exact h
  | tick => exact h
  | retainedSecond =>
    unfold secondRetained
    dsimp only
    split <;> exact h
  | unpowered => exact h

/-! ## Starts -/

theorem balanced_warmFree (h : s.ledger.Balanced none k j) : (warmFree s).ledger.Balanced none k j := by
  have hclosed := balanced_closeFree h
  unfold warmFree
  dsimp only
  split_ifs
  · rwa [ledger_openFree]
  · exact hclosed
  · rwa [ledger_openFree]
  · exact h

theorem ledger_warmFormed (s : State) : (warmFormed (warmDriven s)).ledger = s.ledger := by
  rw [warmFormed_eq]
  have houtputs : (formAttn (formLamps (raiseBoth .restarted (warmService (warmJudged s))))).ledger
      = (judgeSpace (warmDriven s)).ledger :=
    ledger_of_same (by simp [warmService, warmJudged, forgetSpace]) (by simp [warmService, warmJudged, forgetSpace])
      (by simp [warmService, warmJudged, forgetSpace]) (by simp [warmService, warmJudged, forgetSpace])
      (by simp [warmService, warmJudged, forgetSpace])
  rw [houtputs, ledger_judgeSpace, warmDriven_eq]
  exact ledger_of_same rfl rfl rfl rfl rfl

theorem ledger_warmOpened (a : BitVec 6) (r : BitVec 2) (s : State) : (warmOpened a r s).ledger = s.ledger :=
  ledger_of_same rfl rfl rfl rfl rfl

theorem balanced_warmStarted (a : BitVec 6) (r : BitVec 2) (h : s.ledger.Balanced none 0 0) :
    (warmStarted a r s).ledger.Balanced none 0 0 := by
  have hopened : (warmOpened a r s).ledger.Balanced none 0 0 := ledger_warmOpened a r s ▸ h
  rw [warmStarted_eq, ledger_warmFormed, warmSettled_eq, warmBegun_eq]
  exact balanced_warmFree (balanced_settleLane _ (balanced_writeFree _ hopened))

theorem balanced_coldStarted (a : BitVec 6) (r : BitVec 2) (s : State) :
    (coldStarted a r s).ledger.Balanced none 0 0 := ((books_iff _).mp reset_books).2

theorem Stepped.balanced (ht : Stepped s t) (h : s.ledger.Balanced none 0 0) (hjudged : s.spaceJudged) :
    t.ledger.Balanced none 0 0 := by
  cases ht with
  | idle _ => exact h
  | sensed _ => exact h
  | cold q a r => exact balanced_coldStarted a r _
  | warm q a r => exact balanced_warmStarted a r (s := s.setPending q) h
  | row q ht => exact ht.balanced (s := s.setPending q) h hjudged

/-- Settles O56: the books are a ledger that balances, and each part of a row settles what it takes in hand. -/
theorem stepKeepsBooks : Obligations.StepKeepsBooks := by
  intro s t hbooks hready hstep
  obtain ⟨hjudged, hbalanced⟩ := (books_iff s).mp hbooks
  obtain ⟨-, hjudged', -⟩ := stepKeepsReadiness s t hready hstep
  exact (books_iff t).mpr ⟨hjudged', (step_stepped hstep).balanced hbalanced hjudged⟩

end
end Sys2Proof.Machine
end

section
/-! SUPPORT. The classes of step 8 and the purse tests of step 9 (R42 to R45, R62, R67 to R70). -/

namespace Sys2Proof.Machine

/-! ## Maxima (R62) -/

/-- A number is the greatest of the prices of the 16 zones. -/
def Greatest (n : Nat) (price : Nat → Nat) : Prop := (∀ i, i < 16 → price i ≤ n) ∧ ∃ i, i < 16 ∧ n = price i

theorem foldl_max_mem (price : Nat → Nat) (l : List Nat) (a : Nat) :
    a ≤ l.foldl (fun m d => max m (price d)) a ∧ (∀ i ∈ l, price i ≤ l.foldl (fun m d => max m (price d)) a)
      ∧ (l.foldl (fun m d => max m (price d)) a = a ∨ ∃ i ∈ l, l.foldl (fun m d => max m (price d)) a = price i) := by
  induction l generalizing a with
  | nil => simp
  | cons d l ih =>
    obtain ⟨hle, hall, hmem⟩ := ih (max a (price d))
    simp only [List.foldl_cons, List.mem_cons, forall_eq_or_imp, exists_eq_or_imp]
    refine ⟨le_of_max_le_left hle, ⟨le_of_max_le_right hle, hall⟩, ?_⟩
    rcases hmem with heq | hmem
    · rcases max_choice a (price d) with h | h
      · exact .inl (heq.trans h)
      · exact .inr (.inl (heq.trans h))
    · exact .inr (.inr hmem)

theorem greatest_foldl (price : Nat → Nat) :
    Greatest ((List.range 16).foldl (fun m d => max m (price d)) 0) price := by
  obtain ⟨-, hall, hmem⟩ := foldl_max_mem price (List.range 16) 0
  refine ⟨fun i hi => hall i (List.mem_range.mpr hi), ?_⟩
  rcases hmem with hzero | ⟨i, hi, heq⟩
  · have := hall 0 (by decide)
    exact ⟨0, by decide, by omega⟩
  · exact ⟨i, List.mem_range.mp hi, heq⟩

theorem activeBank_ok {s : State} (h : s.banksOk) : s.activeBank.ok := by
  obtain ⟨hbankA, hbankB, -⟩ := h
  unfold State.activeBank
  cases s.fru.active
  · exact hbankA
  · exact hbankB

theorem maxima_valid {s : State} (h : s.banksOk) (hvalid : s.activeBank.valid = true) : s.maxima = maximaOf s.fares := by
  obtain ⟨-, hfields, -⟩ := activeBank_ok h
  obtain ⟨-, hmaxima⟩ := hfields hvalid
  simp only [State.maxima, hmaxima, State.fares]

theorem greatest_row {s : State} (h : s.banksOk) (hvalid : s.activeBank.valid = true) {z : Nat} (hz : z ≤ 15) :
    Greatest (s.rowMaximum z) fun j => bankZone s.fares z j := by
  have hrow : s.rowMaximum z = rowMax s.fares z := by
    rw [State.rowMaximum, maxima_valid h hvalid]
    simp [maximaOf, List.getD, Nat.lt_succ_of_le hz]
  exact hrow ▸ greatest_foldl _

theorem greatest_column {s : State} (h : s.banksOk) (hvalid : s.activeBank.valid = true) {z : Nat} (hz : z ≤ 15) :
    Greatest (s.colMaximum z) fun i => bankZone s.fares i z := by
  have hcol : s.colMaximum z = colMax s.fares z := by
    rw [State.colMaximum, maxima_valid h hvalid]
    simp [maximaOf, List.getD, Nat.lt_succ_of_le hz]
  exact hcol ▸ greatest_foldl _

/-! ## The purse stage (R77) -/

/-- What the purse stage leaves in a rating: the new balance, and whether it passes. -/
def Rating.Purse (r : Rating) (b : List Byte) (c : Card) : Prop :=
  r.newBalance = c.balance - r.charge
    ∧ (r.passed = true ↔ r.charge = 0 ∨ -(overdraftLimit b : Int) ≤ c.balance - r.charge)

theorem pursePasses_iff (b : List Byte) (balance : Int) (charge : Nat) :
    pursePasses b balance charge = true ↔ charge = 0 ∨ -(overdraftLimit b : Int) ≤ balance - charge := by
  simp only [pursePasses, Bool.not_eq_true', Bool.and_eq_false_iff, decide_eq_false_iff_not]
  omega

theorem flatRating_purse (b : List Byte) (cls : RatingClass) (c : Card) (base transfers : Nat) :
    (flatRating b cls c base transfers).Purse b c := ⟨rfl, pursePasses_iff b c.balance base⟩

theorem penaltyRating_purse (b : List Byte) (cls : RatingClass) (today : Nat) (c : Card) (base transfers : Nat) :
    (penaltyRating b cls today c base transfers).Purse b c := flatRating_purse b cls c base transfers

theorem cappedRating_purse (b : List Byte) (today : Nat) (c : Card) (r : Rating) :
    (cappedRating b today c r).Purse b c := ⟨rfl, pursePasses_iff b c.balance _⟩

/-! ## The classes of step 8 (R42, R44) -/

section
variable {s : State} {c : Card}

theorem classifyEntry_penalty (hopen : c.entryOpen = true) (hstaff : c.isStaff = false) : classifyEntry s c =
    { reason := .incompletePenalty, entryStation := c.entryStation
      rating := penaltyRating s.fares .incompletePenalty s.svc.day c (s.rowMaximum c.entryZone) c.transfers } := by
  simp [classifyEntry, hopen, hstaff]

theorem classifyEntry_plain (h : c.entryOpen = false ∨ c.isStaff = true) : classifyEntry s c =
    { reason := entryReason s c, rating := flatRating s.fares .entry c 0 c.transfers, entryStation := 0 } := by
  rcases h with h | h <;> simp [classifyEntry, h]

theorem classifyEntry_purse : (classifyEntry s c).rating.Purse s.fares c := by
  unfold classifyEntry
  split
  · exact penaltyRating_purse ..
  · exact flatRating_purse ..

theorem classifyEntry_carries : let r := (classifyEntry s c).rating
    (r.spendDay = c.spendDay ∧ r.spendAmount = c.spendAmount) ∧ r.transfers = c.transfers := by
  unfold classifyEntry
  split <;> exact ⟨⟨rfl, rfl⟩, rfl⟩

theorem classifyExit_staff (hstaff : c.isStaff = true) : classifyExit s c =
    { reason := .staff, rating := flatRating s.fares .staff c 0 c.transfers
      entryStation := if c.entryOpen then c.entryStation else 0 } := by
  simp [classifyExit, hstaff]

theorem classifyExit_penalty (hstaff : c.isStaff = false)
    (h : c.entryOpen = false ∨ maxJourneyMinutes s.fares * 60 < entryAge s c) : classifyExit s c =
    { reason := .noEntryPenalty, entryStation := 0
      rating := penaltyRating s.fares .noEntryPenalty s.svc.day c (s.colMaximum s.setup.zone) 0 } := by
  rcases h with h | h <;> simp [classifyExit, hstaff, h]

section
variable (hstaff : c.isStaff = false) (hopen : c.entryOpen = true)
  (hage : entryAge s c ≤ maxJourneyMinutes s.fares * 60)
include hstaff hopen hage

theorem classifyExit_pass (hfrom : c.passCovers s.svc.day c.entryZone = true)
    (hto : c.passCovers s.svc.day s.setup.zone = true) : classifyExit s c =
    { reason := .pass, rating := flatRating s.fares .pass c 0 c.transfers, entryStation := c.entryStation } := by
  simp [classifyExit, hstaff, hopen, hage.not_gt, hfrom, hto]

theorem classifyExit_sameStation
    (hpass : (c.passCovers s.svc.day c.entryZone && c.passCovers s.svc.day s.setup.zone) = false)
    (hsame : c.entryStation = s.setup.stationCode) (hgrace : entryAge s c ≤ sameStationGrace s.fares * 60) :
    classifyExit s c = { reason := .sameStation, rating := sameStationRating s.fares s.svc.day c
                         entryStation := c.entryStation } := by
  simp [classifyExit, hstaff, hopen, hage.not_gt, hpass, hsame, hgrace]

theorem classifyExit_journey
    (hpass : (c.passCovers s.svc.day c.entryZone && c.passCovers s.svc.day s.setup.zone) = false)
    (hother : c.entryStation ≠ s.setup.stationCode ∨ sameStationGrace s.fares * 60 < entryAge s c) :
    classifyExit s c = { reason := .ok, rating := journeyRating s.fares s.svc.day s.setup.zone c
                         entryStation := c.entryStation } := by
  have hnot : ¬(c.entryStation = s.setup.stationCode ∧ entryAge s c ≤ sameStationGrace s.fares * 60) := fun h =>
    hother.elim (fun hne => hne h.1) fun hlt => (h.2.trans_lt hlt).false
  simp [classifyExit, hstaff, hopen, hage.not_gt, hpass, hnot]

end

theorem classifyExit_purse : (classifyExit s c).rating.Purse s.fares c := by
  unfold classifyExit
  split
  · exact flatRating_purse ..
  split
  · exact penaltyRating_purse ..
  split
  · exact flatRating_purse ..
  split <;> exact cappedRating_purse ..

/-- A card with an open entry in time leaves its entry station in the slot. -/
theorem classifyExit_station (hstaff : c.isStaff = false) (hopen : c.entryOpen = true)
    (hage : entryAge s c ≤ maxJourneyMinutes s.fares * 60) : (classifyExit s c).entryStation = c.entryStation := by
  simp only [classifyExit, hstaff, hopen, hage.not_gt, Bool.not_true, Bool.false_or, decide_false, Bool.false_eq_true,
    if_false]
  split
  · rfl
  split <;> rfl

/-! ## Terms of the statement -/

theorem isStaff_iff : c.isStaff = true ↔ c.kindCode = 3 := by simp [Card.isStaff]

theorem isStaff_false_iff : c.isStaff = false ↔ c.kindCode ≠ 3 := by simp [Card.isStaff]

theorem entryOpen_false_iff : c.entryOpen = false ↔ ¬c.flags.getLsbD 0 = true := by simp [Card.entryOpen]

/-- A pass valid on a day covers a zone (R70). -/
def Card.Covers (c : Card) (today zone : Nat) : Prop :=
  c.kindCode = 2 ∧ c.passFirst ≤ today ∧ today ≤ c.passLast ∧ c.passLow ≤ zone ∧ zone ≤ c.passHigh

theorem passCovers_iff (today zone : Nat) : c.passCovers today zone = true ↔ c.Covers today zone := by
  simp [Card.passCovers, Card.isPass, Card.Covers, and_assoc]

theorem passCovers_false_iff (today zone : Nat) : c.passCovers today zone = false ↔ ¬c.Covers today zone := by
  rw [← passCovers_iff, Bool.not_eq_true]

theorem passBoth_false {today a b : Nat} (h : ¬(c.Covers today a ∧ c.Covers today b)) :
    (c.passCovers today a && c.passCovers today b) = false := by
  rw [← passCovers_iff, ← passCovers_iff, ← Bool.and_eq_true] at h
  exact Bool.eq_false_iff.mpr h

/-! ## The purse tests of step 9 (R43) -/

theorem entryPurse_refused {k : Classified} (h : k.rating.passed = false) : entryPurse s c k = some 2 := by
  simp [entryPurse, h]

theorem entryPurse_exempt {k : Classified} (h : k.rating.passed = true)
    (hexempt : c.isStaff = true ∨ c.passCovers s.svc.day s.setup.zone = true
      ∨ (minEntryBalance s.fares : Int) ≤ c.balance - k.rating.charge) : entryPurse s c k = none := by
  rcases hexempt with hexempt | hexempt | hexempt <;> simp [entryPurse, h, hexempt]

theorem entryPurse_short {k : Classified} (h : k.rating.passed = true) (hstaff : c.isStaff = false)
    (hpass : c.passCovers s.svc.day s.setup.zone = false) (hlow : c.balance - k.rating.charge < minEntryBalance s.fares) :
    entryPurse s c k = some 1 := by
  simp [entryPurse, h, hstaff, hpass, hlow]

end

/-- Settles O46: one equation per row of R42 and R44, each with its rating, and the maxima of a VALID bank. -/
theorem fareClassesAreChosen : Obligations.FareClassesAreChosen := by
  intro s c hbanks hvalid hzone
  refine ⟨?_, classifyEntry_purse, classifyEntry_carries.1, classifyEntry_carries.2, fun hopen hstaff => ?_,
    fun hplain => ?_, entryPurse_refused, fun hpassed hexempt => ?_, fun hpassed hstaff hpass hlow => ?_,
    classifyExit_purse, fun hstaff => ?_, fun hstaff hlate => ?_, fun hstaff hopen hage => ?_⟩
  · simp [isPassback, Card.entryOpen, entryAge, ageOf, State.now, passbackMinutes, State.fares, and_assoc]
  · rw [classifyEntry_penalty hopen (isStaff_false_iff.mpr hstaff)]
    exact ⟨rfl, rfl, greatest_row hbanks hvalid⟩
  · rw [classifyEntry_plain (hplain.imp entryOpen_false_iff.mpr isStaff_iff.mpr)]
    refine ⟨rfl, rfl, fun hstaff => ?_, fun hstaff hpass => ?_, fun hstaff hpass => ?_⟩
    · simp [entryReason, isStaff_iff.mpr hstaff]
    · simp [entryReason, isStaff_false_iff.mpr hstaff, (passCovers_iff _ _).mpr hpass]
    · simp [entryReason, isStaff_false_iff.mpr hstaff, (passCovers_false_iff _ _).mpr hpass]
  · exact entryPurse_exempt hpassed (hexempt.imp isStaff_iff.mpr (.imp_left (passCovers_iff _ _).mpr))
  · exact entryPurse_short hpassed (isStaff_false_iff.mpr hstaff) ((passCovers_false_iff _ _).mpr hpass) hlow
  · rw [classifyExit_staff (isStaff_iff.mpr hstaff)]
    exact ⟨rfl, rfl, ⟨rfl, rfl⟩, rfl, rfl⟩
  · rw [classifyExit_penalty (isStaff_false_iff.mpr hstaff) (hlate.imp_left entryOpen_false_iff.mpr)]
    exact ⟨rfl, ⟨rfl, rfl⟩, rfl, rfl, greatest_column hbanks hvalid hzone⟩
  · have hpaid := isStaff_false_iff.mpr hstaff
    refine ⟨classifyExit_station hpaid hopen hage, fun hpass => ?_, fun hpass hsame hgrace => ?_, fun hpass hother => ?_⟩
    · rw [classifyExit_pass hpaid hopen hage ((passCovers_iff _ _).mpr hpass.1) ((passCovers_iff _ _).mpr hpass.2)]
      exact ⟨rfl, rfl, ⟨rfl, rfl⟩, rfl⟩
    · rw [classifyExit_sameStation hpaid hopen hage (passBoth_false hpass) hsame hgrace]
      exact ⟨rfl, rfl, rfl, rfl, rfl, rfl⟩
    · rw [classifyExit_journey hpaid hopen hage (passBoth_false hpass) hother]
      exact ⟨rfl, rfl⟩

end Sys2Proof.Machine
end

section
/-! SUPPORT. Step 1 of a presentation (R34), and how SGU takes a refusal (R147, R148, R151). -/

namespace Sys2Proof.Machine

/-! ## A refusal at SGU -/

section
variable (x : Side) (s : State)

/-- The flash of a refusal changes neither the arbiter nor a channel. -/
theorem sguRefuse_tone : (sguRefuse x s).sgu.tone = (requestTone .refuse 3 s).sgu.tone
    ∧ (sguRefuse x s).sgu.pulses = (requestTone .refuse 3 s).sgu.pulses
    ∧ (sguRefuse x s).ltu = (requestTone .refuse 3 s).ltu := by
  unfold sguRefuse
  dsimp only
  split
  · exact ⟨rfl, rfl, rfl⟩
  · cases x <;> exact ⟨rfl, rfl, rfl⟩

theorem flash_requestTone (p : Tone) (n : Nat) (y : Side) : (requestTone p n s).flash y = s.flash y := by
  unfold requestTone
  split <;> cases y <;> rfl

theorem sguRefuse_flash : (sguRefuse x s).flash x
      = (if s.effMode = .free then s.flash x else some (s.svc.tickCount + 64))
    ∧ (sguRefuse x s).flash (Side.other x) = s.flash (Side.other x) := by
  unfold sguRefuse
  dsimp only
  split
  · exact ⟨flash_requestTone .., flash_requestTone ..⟩
  · rw [← flash_requestTone s .refuse 3 (Side.other x)]
    cases x <;> exact ⟨rfl, rfl⟩

theorem chan_requestTone (p : Tone) (n : Nat) {i : ChanId} (hi : i ≠ .signal) :
    (requestTone p n s).chan i = s.chan i := by
  unfold requestTone
  split
  · obtain ⟨-, -, hchan⟩ := startTone_plays p n s
    rw [hchan, if_neg hi]
  · rfl

theorem sguRefuse_chan {i : ChanId} (hi : i ≠ .signal) : (sguRefuse x s).chan i = s.chan i := by
  obtain ⟨-, -, hltu⟩ := sguRefuse_tone x s
  rw [State.chan, hltu]
  exact chan_requestTone s .refuse 3 hi

end

theorem sguRefuse_starts {x : Side} {s : State} (h : toneStarts s .refuse = true) :
    (sguRefuse x s).sgu.tone = some .refuse ∧ (sguRefuse x s).sgu.pulses = 3
      ∧ (sguRefuse x s).chan .signal = .start 12 6 := by
  obtain ⟨htone, hpulses, hltu⟩ := sguRefuse_tone x s
  rw [requestTone_of_starts 3 h] at htone hpulses hltu
  refine ⟨htone, hpulses, ?_⟩
  rw [State.chan, hltu]
  rfl

theorem sguRefuse_dropped {x : Side} {s : State} (h : toneStarts s .refuse = false) :
    (sguRefuse x s).sgu.tone = s.sgu.tone ∧ (sguRefuse x s).chan .signal = s.chan .signal := by
  obtain ⟨htone, -, hltu⟩ := sguRefuse_tone x s
  rw [requestTone_of_dropped 3 h] at htone hltu
  exact ⟨htone, by rw [State.chan, hltu, State.chan]⟩

/-! ## The five tests (R34) -/

/-- The reason code of the first test that fails; 0 where a card passes. -/
def earlyCode (s : State) (x : Side) : Byte :=
  if s.effMode = .free then 16
  else if s.svc.reasons.empty = false then 17
  else if s.permits x = false then 18
  else if s.slot x ≠ none then 19
  else if 4 ≤ (s.queue x).length + (s.claim x).toNat then 20
  else 0

/-- The model's first failing test is the first of R34's. -/
theorem availability_of_code {s : State} {x : Side} (h : earlyCode s x ≠ 0) :
    ∃ r, availability s x = some r ∧ r.code = earlyCode s x := by
  unfold earlyCode at h ⊢
  unfold availability
  by_cases hfree : s.effMode = .free
  · exact ⟨.laneFree, by simp [hfree], by simp [hfree, Reason.code]⟩
  cases hempty : s.svc.reasons.empty with
  | false => exact ⟨.outOfService, by simp [hfree], by simp [hfree, Reason.code]⟩
  | true =>
    cases hpermits : s.permits x with
    | false => exact ⟨.wrongDirection, by simp [hfree], by simp [hfree, Reason.code]⟩
    | true =>
      cases hslot : s.slot x with
      | some sl => exact ⟨.readerBusy, by simp [hfree], by simp [hfree, Reason.code]⟩
      | none =>
        have hroom : 4 ≤ (s.queue x).length + (s.claim x).toNat := by
          by_contra hlt
          simp [hfree, hempty, hpermits, hslot, hlt] at h
        exact ⟨.laneBusy, by simp [hfree, State.room, hroom], by simp [hfree, hroom, Reason.code]⟩

/-! ## The answer on the lane port -/

/-- Where an owner leaves the lane port as it took the frame and raises no notice, the port's record is the frame's with
the answer. -/
theorem answered_lpt {s u : State} {code : Byte} {body : List Byte} (a : Answer) (hfit : body.length ≤ 250)
    (hlpt : u.lpt = (s.taking code body).lpt) (htouched : u.svc.serviceTouched = false) :
    let t := finish (respond (code + 0x80) a u)
    t.lpt = t.attnOn (s.laneTaken code body a s.lpt) := by
  intro t
  have htold : ∀ ns, (respond (code + 0x80) a u).told ns = ns := fun ns => by
    rw [State.told, respond, setLpt_svc, htouched]
    rfl
  show (finish _).lpt = _
  rw [finish_lpt, htold, respond_lpt (ns := s.lpt.notices) a hfit hlpt]

/-- The arbiter and the channels as the owner of a presentation left them. -/
theorem presented_sgu (r : State × Verdict) : (presented r).sgu.tone = r.1.sgu.tone
    ∧ (presented r).sgu.pulses = r.1.sgu.pulses ∧ (presented r).ltu = r.1.ltu := by
  have hsgu := finish_sgu (respond 0x81 { result := .ok, data := r.2.bytes } r.1)
  refine ⟨?_, ?_, by simp [presented, respond]⟩
  · rw [presented, hsgu]
    rfl
  · rw [presented, hsgu]
    rfl

theorem chan_presented (r : State × Verdict) (i : ChanId) : (presented r).chan i = r.1.chan i := by
  obtain ⟨-, -, hltu⟩ := presented_sgu r
  rw [State.chan, hltu, State.chan]

/-- A presentation that leaves the service unmarked: what its owner changes, and the port and the lamps. -/
theorem presented_quiet {s : State} (x : Side) (image : List Byte) {r : State × Verdict} {ps : List Part}
    (hports : [.lpt, .sgu] ⊆ ps) (h : keepsBut ps (s.shown x image) r.1) (htouched : r.1.svc.serviceTouched = false) :
    keepsBut ps s (presented r) := by
  have hshown : keepsBut ps s (s.shown x image) := (keepsBut_setLpt _ s).mono fun p hp =>
    hports (by simp only [List.mem_singleton] at hp; simp [hp])
  refine (hshown.trans h).trans fun p hp => ?_
  have hsvc : (presented r).svc = r.1.svc := by
    rw [presented, finish_svc, respond, setLpt_svc, ← htouched]
  have hstl : (presented r).stl = r.1.stl := by
    rw [presented, finish_stl, respond, setLpt_stl, State.told, setLpt_svc, htouched]
    rfl
  cases p with
  | svc => exact hsvc
  | stl => exact hstl
  | lpt => exact absurd (hports (by simp)) hp
  | sgu => exact absurd (hports (by simp)) hp
  | _ => exact presented_keeps r _ (by simp)

theorem presented_early {s : State} {x : Side} {image : List Byte} {r : Reason} (hr : availability s x = some r) :
    present x image (s.shown x image) = refuseEarly x r (s.shown x image) := by
  have havail : availability (s.shown x image) x = some r := hr
  rw [present, havail]

/-- A lane request that its owner refuses without a change leaves all but the port. -/
theorem laneRequest_refused {rq : Request} {body : List Byte} {res : Result} {s : State} (hopen : s.laneOpen)
    (hformed : s.formed) (hlen : rq.lengthOk body.length = true) (hfit : body.length ≤ 250)
    (hrun : rq.run .lane body (s.taking rq.code body) = (s.taking rq.code body, refusal res)) :
    let t := laneRequest rq body s
    t.lpt = t.attnOn (s.laneTaken rq.code body (refusal res) s.lpt) ∧ keepsBut [.lpt] s t := by
  obtain ⟨hlamps, -, htouched⟩ := hformed
  dsimp only
  rw [laneRequest_open hopen hlen hfit, hrun]
  refine ⟨answered_lpt _ hfit rfl htouched, ?_⟩
  rw [finish_of_lamps (s := respond _ (refusal res) (s.taking rq.code body)) hlamps htouched]
  exact ((keepsBut_setLpt _ s).trans (keepsBut_setLpt _ _)).trans (keepsBut_setLpt _ _)

/-- A side outside its set is refused by the frame's field check, and nothing but the port changes. -/
theorem badSide_answered {s : State} {b : Byte} (image : List Byte) (hopen : s.laneOpen) (hformed : s.formed)
    (hlen : image.length = 48) (hu : b ≠ 1) (hp : b ≠ 2) : ∃ t, exec (.cardPresent (b :: image)) s = .next t
      ∧ t.lpt = t.attnOn (s.laneTaken 0x01 (b :: image) (refusal .badField) s.lpt) ∧ keepsBut [.lpt] s t := by
  have hside : sideOf b = none := by rw [sideOf, if_neg hu, if_neg hp]
  have hrun : reqCardPresent.run .lane (b :: image) (s.taking 0x01 (b :: image))
      = (s.taking 0x01 (b :: image), refusal .badField) := by
    show cardPresentRun (b :: image) _ = _
    rw [cardPresentRun, show byteAt (b :: image) 0 = b from rfl, hside]
  exact ⟨_, rfl, laneRequest_refused (rq := reqCardPresent) hopen hformed (by simp [reqCardPresent, exactly, hlen])
    (by simp [hlen]) hrun⟩

/-- REFUSE stands above ACCEPT and CUE and below ALARM (R147). -/
theorem toneStarts_refuse (s : State) : toneStarts s .refuse = true
    ↔ s.sgu.tone = none ∨ s.sgu.tone = some .accept ∨ s.sgu.tone = some .cue := by
  unfold toneStarts
  split
  next h => simp [h]
  next p h => cases p <;> simp [h, Tone.priority]

/-- Settles O27: the first test that fails refuses before anything but SGU is told. -/
theorem availabilityRefusesEarly : Obligations.AvailabilityRefusesEarly := by
  intro x image s hopen hformed hlen
  refine ⟨fun ⟨_, hjudged, _⟩ hempty => free_of_judged hjudged hempty,
    fun b hu hp => badSide_answered image hopen hformed hlen hu hp, ?_⟩
  rintro _ rfl hcode
  obtain ⟨r, hr, heq⟩ := availability_of_code hcode
  have hexec := exec_cardPresent (x := x) hopen hlen
  rw [presented_early hr] at hexec
  obtain ⟨hflash, hother⟩ := sguRefuse_flash x (s.shown x image)
  obtain ⟨htone, hpulses, -⟩ := presented_sgu (refuseEarly x r (s.shown x image))
  have hchan := chan_presented (refuseEarly x r (s.shown x image))
  obtain ⟨-, -, htouched⟩ := hformed
  refine ⟨_, hexec, ?_, ?_, (presented_flash ..).trans hflash, (presented_flash ..).trans hother, (finish_formed _).1,
    fun i hi => (hchan i).trans (sguRefuse_chan x (s.shown x image) hi), fun hidle => ?_, fun hplays => ?_⟩
  · refine presented_quiet x image (by simp) ?_ (by simp [refuseEarly]; exact htouched)
    simp [keepsBut, Part.forall_iff, Part.same, refuseEarly]
  · have hlpt := answered_lpt (s := s) (code := 0x01) (u := (refuseEarly x r (s.shown x image)).1)
      (body := sideCode (some x) :: image) { result := .ok, data := verdictBytes 3 r.code 0 0 false [] } (by simp [hlen])
      (by simp [refuseEarly]; rfl) (by simp [refuseEarly]; exact htouched)
    show _ = State.attnOn _ (s.laneTaken 0x01 _ { result := .ok, data := verdictBytes 3 (earlyCode s x) 0 0 false [] } _)
    rw [← heq]
    exact hlpt
  · obtain ⟨hrefuse, hthree, hsignal⟩ := sguRefuse_starts (x := x) ((toneStarts_refuse (s.shown x image)).mpr hidle)
    exact ⟨htone.trans hrefuse, hpulses.trans hthree, (hchan _).trans hsignal⟩
  · have hnot : toneStarts (s.shown x image) .refuse = false := by
      rw [Bool.eq_false_iff, ne_eq, toneStarts_refuse, show (s.shown x image).sgu = s.sgu from rfl]
      rcases hplays with h | h <;> simp [h]
    obtain ⟨hsame, hsignal⟩ := sguRefuse_dropped (x := x) hnot
    exact ⟨htone.trans hsame, (hchan _).trans hsignal⟩

end Sys2Proof.Machine
end

section
/-! SUPPORT. Refusals at steps 4 to 9 of a presentation (R35 to R45, R54, R88, R92, R98). -/

namespace Sys2Proof.Machine

/-! ## What the work of a lane leaves of an entry, a sighting and a verdict -/

section
variable {s t : State}

theorem Works.now (h : Works s t) : t.now = s.now := by
  rw [State.now, h.svc.day, h.svc.secs, State.now]

theorem Works.entry (h : Works s t) (k : EntryKind) (r : Reason) (x : Option Side) : t.entry k r x = s.entry k r x := by
  rw [State.entry, h.now, State.entry]

theorem Works.shows (h : Works s t) (x : Side) (c : Card) (k : EntryKind) (r : Reason) :
    t.shows x c k r = s.shows x c k r := by
  rw [State.shows, h.entry, State.shows]

theorem Works.laneAddr (h : Works s t) : t.laneAddr = s.laneAddr := by
  rw [State.laneAddr, h.link, State.laneAddr]

theorem Works.fares (h : Works s t) : t.fares = s.fares := by
  simp only [State.fares, State.activeBank, h.fru]

theorem Works.lowCue (h : Works s t) (c : Card) (v : Int) : lowCue t c v = lowCue s c v := by
  rw [Machine.lowCue, h.fares, Machine.lowCue]

end

/-! ## A refusal (R39, R41, R151) -/

theorem Presentable.books {s : State} {x : Side} (h : Presentable s x) : s.books := by
  obtain ⟨-, -, hbooks, -⟩ := h
  exact hbooks

/-- A refusal from a state that the screen has worked on. -/
theorem refused_refuseWith {s u : State} {x : Side} {image : List Byte} (e : Entry) (r : Reason) (hmode : s.effMode ≠ .free)
    (hworks : Works (s.shown x image) u) (hkeeps : keepsBut refusalParts (s.shown x image) u) :
    refused s (presented (refuseWith { side := x, card := readCard image } e r u)) x (readCard image) r.code := by
  have hwritten : Works (s.shown x image) (writeFree e u) := works_writeFree e hworks
  refine ⟨presented_frame x image (by simp [refusalParts]) (hkeeps.trans ?_), ?_, ?_⟩
  · simp [keepsBut, Part.forall_iff, Part.same, refusalParts, refuseWith]
  · rw [presented_flash, refuseWith, flash_sguRefuse (hwritten.effMode ▸ hmode), hwritten.svc.tickCount]
    rfl
  · rw [presented_responseSlot, refuseWith, plainVerdict, hworks.lowCue]
    rfl

theorem sightRefusal_keeps (c : Nat) (q g : Word16) (s : State) : keepsBut [.scu] s (sightRefusal c q g s) := by
  simp [keepsBut, Part.forall_iff, Part.same]

/-- The entry of a refusal is its only one, and no reservation moves. -/
theorem journal_refuseWith {s u : State} {p : Shown} {e : Entry} {r : Reason} (hfree : s.free ≠ 0) (hu : u.rjn = s.rjn) :
    (presented (refuseWith p e r u)).rjn.reserved = s.rjn.reserved ∧ onlyEntry e s (presented (refuseWith p e r u)) := by
  have hrjn : (refuseWith p e r u).1.rjn = (writeFree e u).rjn := by simp [refuseWith]
  refine ⟨?_, presented_onlyEntry hfree hu hrjn⟩
  rw [rjn_presented, hrjn, writeFree_reserved, hu]

/-! ## A refusal that SCU records (R98) -/

theorem deny_sightRefusal (c : Nat) (q g : Word16) {s : State} (hplace : HasPlace s.scu.sightings) :
    (sightRefusal c q g s).scu.deny = s.scu.deny := by
  unfold sightRefusal
  split
  · split <;> rfl
  · obtain ⟨l, heq, -⟩ := insertSighting_place (localSighting s c q g .refused) hplace
    rw [heq]
    rfl

theorem refusalSeen_sightRefusal {s t : State} (c : Card) (hplace : HasPlace s.scu.sightings)
    (ht : t.scu = (sightRefusal c.number c.seq c.tag s).scu) : refusalSeen s t c := by
  have hdeny := deny_sightRefusal c.number c.seq c.tag hplace
  unfold refusalSeen
  rw [sighting_of_scu ht, ht]
  unfold sightRefusal at hdeny ⊢
  cases hs : s.sighting c.number with
  | none =>
    simp only [hs] at hdeny ⊢
    obtain ⟨hsame, hlast⟩ := inserted (e := localSighting s c.number c.seq c.tag .refused) (c := c.number) rfl hplace hs
    exact ⟨by rw [hsame, hlast], hdeny, hsame⟩
  | some e =>
    simp only [hs] at hdeny ⊢
    have hcard := card_of_sighting hs
    split
    next h =>
      obtain ⟨hsame, -, hlast⟩ := touched (e := e.setLocal s c.seq c.tag .refused) hcard s
      rw [if_pos h] at hdeny
      exact ⟨by rw [hsame, hlast], hdeny, hsame⟩
    next h =>
      obtain ⟨hsame, -, hlast⟩ := touched (e := e) hcard s
      rw [if_neg h] at hdeny
      exact ⟨by rw [hsame, hlast], hdeny, hsame⟩

/-- A refusal that SCU records, answered on the lane port. -/
theorem answered_refuseSeen {s : State} {x : Side} {image : List Byte} {e : Entry} {r : Reason} (hp : Presentable s x)
    (hlen : image.length = 48) (hpresent : present x image (s.shown x image)
      = refuseSeen { side := x, card := readCard image } e r (s.shown x image)) :
    ∃ t, exec (.cardPresent (sideCode (some x) :: image)) s = .next t ∧ refused s t x (readCard image) r.code
      ∧ refusalSeen s t (readCard image) ∧ t.rjn.reserved = s.rjn.reserved ∧ onlyEntry e s t := by
  have hplace := hasPlace_of_books hp.books
  have hfree : s.free ≠ 0 := by have := hp.free; omega
  obtain ⟨hopen, -, -, -, hmode, -⟩ := hp
  refine ⟨_, exec_cardPresent hopen hlen, ?_⟩
  rw [hpresent]
  refine ⟨refused_refuseWith e r hmode (works_sightRefusal _ _ _ (.refl _))
    (keepsBut.mono (sightRefusal_keeps _ _ _ _) (by simp [refusalParts])), ?_, ?_⟩
  · exact refusalSeen_sightRefusal (s := s.shown x image) (readCard image) hplace
      (by simp [refuseSeen, refuseWith, presented, respond])
  · exact journal_refuseWith hfree (by simp; rfl)

/-! ## Steps 8 and 9 (R42, R43, R45) -/

/-- From the deny list on, for a card that no entry covers. -/
theorem present_allowed {s : State} {x : Side} {image : List Byte} (hp : Presentable s x) (hs : Screened s x image)
    (hallowed : s.allows (readCard image)) : present x image (s.shown x image)
      = match x with
        | .u => entrySteps { side := .u, card := readCard image } (s.shown .u image)
        | .p => exitSteps { side := .p, card := readCard image } (s.shown .p image) := by
  have hmatch : ¬(denyMatch (s.shown x image).scu.deny (readCard image).number).isSome = true := by
    rw [isSome_denyMatch]
    rintro ⟨e, he, hcovers⟩
    exact hallowed e he hcovers
  rw [present_screened hp hs, screenFresh, openMark_screened hs, if_neg (by simp), if_neg hmatch]
  cases x <;> rfl

theorem entrySteps_refused {s : State} {p : Shown} {n : Nat} (hpassback : isPassback s p.card = false)
    (hn : entryPurse s p.card (classifyEntry s p.card) = some n) :
    entrySteps p s = refuseLow p (classifyEntry s p.card).rating.charge n s := by
  simp only [entrySteps, hpassback, Bool.false_eq_true, if_false, hn]

theorem exitSteps_refused {s : State} {p : Shown} (hpassed : (classifyExit s p.card).rating.passed = false) :
    exitSteps p s = refuseLow p (classifyExit s p.card).rating.charge 2 s := by
  simp only [exitSteps, hpassed, Bool.false_eq_true, if_false]

/-- Settles O30: each test of steps 8 and 9 that fails refuses with its one entry, recorded by SCU. -/
theorem chargesRefused : Obligations.ChargesRefused := by
  intro x image s hp hs hallowed
  have hlen := hs.1.1.1
  have hpresent := present_allowed hp hs hallowed
  refine ⟨?_, ?_, ?_⟩
  · rintro rfl hpassback
    exact answered_refuseSeen (r := .passback) hp hlen
      (e := { s.shows .u (readCard image) .refusal .passback with extra := entryAge s (readCard image) })
      (hpresent.trans (if_pos hpassback))
  · rintro rfl hpassback n hn
    refine answered_refuseSeen (r := .lowBalance) hp hlen
      (e := { s.shows .u (readCard image) .refusal .lowBalance with
        amount := (classifyEntry s (readCard image)).rating.charge, extra := n }) (hpresent.trans ?_)
    exact entrySteps_refused (s := s.shown .u image) (p := { side := .u, card := readCard image }) hpassback hn
  · rintro rfl hpassed
    refine answered_refuseSeen (r := .lowBalance) hp hlen
      (e := { s.shows .p (readCard image) .refusal .lowBalance with
        amount := (classifyExit s (readCard image)).rating.charge, extra := 2 }) (hpresent.trans ?_)
    exact exitSteps_refused (s := s.shown .p image) (p := { side := .p, card := readCard image }) hpassed

end Sys2Proof.Machine
end

section
/-! SUPPORT. Steps 4 to 6 of a presentation refuse: BLOCKED, CONCURRENT and CLONE (R35 to R37, R54, R88, R92, R98). -/

namespace Sys2Proof.Machine

/-! ## The local add (R88) -/

/-- The four cases of a local add exclude each other: listed already, room, a full list with and without a LOCAL entry. -/
theorem locallyAdded_localAdd {s t : State} (n : Nat) (hdeny : t.scu.deny = (localAdd n s).1.scu.deny)
    (hlocal : t.scu.denyLocal = (localAdd n s).1.scu.denyLocal) : locallyAdded s t n (localAdd n s).2.code := by
  have hlisted : (∃ d ∈ s.scu.deny, d.base = n ∧ d.width = 0) ↔ (s.scu.deny.any fun e => e.is n 0) = true := by
    simp [DenyEntry.is]
  unfold locallyAdded
  dsimp only
  rw [hlisted, hdeny, hlocal]
  unfold localAdd
  by_cases hany : (s.scu.deny.any fun e => e.is n 0) = true
  · rw [if_pos hany]
    exact ⟨fun _ => ⟨rfl, rfl, rfl⟩, fun h => absurd hany h, fun h => absurd hany h, fun h => absurd hany h⟩
  rw [if_neg hany]
  refine ⟨fun h => absurd h hany, fun _ hroom => ?_, fun _ hfull hnone => ?_, fun _ hfull b rest hfirst => ?_⟩
  · have hplace : denyPlace (localEntry s.now n) s.denyWork
        = some { s.denyWork with entries := denyInsert (localEntry s.now n) s.scu.deny } := if_pos hroom
    rw [hplace]
    exact ⟨rfl, mem_denyInsert .., rfl, fun d hd => mem_denyInsert_iff.mpr (.inr hd)⟩
  · have hplace : denyPlace (localEntry s.now n) s.denyWork = none := by
      rw [denyPlace, if_neg (show ¬s.denyWork.entries.length < 2048 from not_lt.mpr hfull), show s.denyWork.locals = [] from hnone]
    rw [hplace]
    exact ⟨rfl, rfl, rfl⟩
  · have hplace : denyPlace (localEntry s.now n) s.denyWork = some
        { entries := denyInsert (localEntry s.now n) (s.scu.deny.filter fun x => !x.is b 0), locals := rest
          evicted := s.denyWork.evicted + 1 } := by
      rw [denyPlace, if_neg (show ¬s.denyWork.entries.length < 2048 from not_lt.mpr hfull), show s.denyWork.locals = b :: rest from hfirst]
      rfl
    rw [hplace]
    refine ⟨rfl, mem_denyInsert .., rfl, fun d hd hne => mem_denyInsert_iff.mpr (.inr (List.mem_filter.mpr ⟨hd, ?_⟩))⟩
    rcases hne with hne | hne <;> simp [DenyEntry.is, hne]

/-! ## Steps 4 to 6 (R35 to R37) -/

/-- The presentation of a readable image, from step 4 on. -/
theorem present_readable {s : State} {x : Side} {image : List Byte} (hp : Presentable s x) (hr : Readable s image) :
    present x image (s.shown x image) =
      if (readCard image).blocked then refuseBlocked { side := x, card := readCard image } (s.shown x image)
      else match otherSlotOf (s.shown x image) { side := x, card := readCard image } with
        | some other => refuseConcurrent { side := x, card := readCard image } other (s.shown x image)
        | none => screenSighting { side := x, card := readCard image } (s.shown x image) := by
  obtain ⟨-, hform, hpasses⟩ := hr
  have havail : availability (s.shown x image) x = none := availability_none hp
  have hrecord : recordPasses (s.shown x image) image = true := hpasses
  simp only [present, havail, hform, hrecord, Bool.not_true, Bool.false_eq_true, if_false] <;> rfl

theorem present_sound {s : State} {x : Side} {image : List Byte} (hp : Presentable s x) (hs : Sound s x image) :
    present x image (s.shown x image) = screenSighting { side := x, card := readCard image } (s.shown x image) := by
  obtain ⟨hr, hblocked, hother⟩ := hs
  have hclear : (readCard image).blocked = false := hblocked
  have hapart : otherSlotOf (s.shown x image) { side := x, card := readCard image } = none := by
    unfold otherSlotOf
    split
    next sl hsl => exact if_neg (hother sl hsl)
    next => rfl
  rw [present_readable hp hr, hclear, if_neg (by simp), hapart]

/-! ## BLOCKED (R35, R54; log 27) -/

theorem tearOf_of_sighting {s : State} {n : Nat} {e : Sighting} (h : s.sighting n = some e) : s.tearOf n = e.tear := by
  rw [State.tearOf, h]

theorem resolveRow_of_unsettled {row : TearRow} (h : row.verdict = none) (c : Nat) (r : Tear) (q g : Word16) (s : State) :
    resolveRow c r row q g s = s := by
  cases row with
  | cloneEqual => rfl
  | cloneBehind => rfl
  | _ => cases h

/-- With no tear that a row settles, BLOCKED is one refusal recorded by SCU. -/
theorem refuseBlocked_plain {s : State} {p : Shown} (h : ∀ e r, s.sighting p.card.number = some e → e.tear = some r →
    tearVerdict r p.card.seq p.card.tag = none) :
    refuseBlocked p s = refuseSeen p (shownEntry s p .refusal .blocked) .blocked s := by
  unfold refuseBlocked
  cases htear : s.tearOf p.card.number with
  | none => rfl
  | some r =>
    have hrow : (tearRow r p.side p.card.seq p.card.tag).verdict = none := by
      rw [verdict_tearRow]
      cases hs : s.sighting p.card.number with
      | none => simp [State.tearOf, hs] at htear
      | some e => exact h e r hs ((tearOf_of_sighting hs).symm.trans htear)
    dsimp only
    rw [resolveRow_of_unsettled hrow]

theorem refuseBlocked_torn {s : State} {p : Shown} {e : Sighting} {r : Tear} (hs : s.sighting p.card.number = some e)
    (ht : e.tear = some r) : refuseBlocked p s =
      let u := resolveRow p.card.number r (tearRow r p.side p.card.seq p.card.tag) p.card.seq p.card.tag s
      refuseSeen p (shownEntry u p .refusal .blocked) .blocked u := by
  have htear : s.tearOf p.card.number = some r := (tearOf_of_sighting hs).trans ht
  simp only [refuseBlocked, htear]

/-- The entry of a resolution at a presentation. -/
theorem tearResolvedEntry_eq (s : State) (n : Nat) (r : Tear) (w : Bool) :
    tearResolvedEntry s n r (if w then .written else .notWritten) = s.resolution n r w := by
  cases w <;> rfl

/-- A resolution journals its entry from one reservation. -/
theorem rjn_resolveTear_eq {s : State} (n : Nat) (r : Tear) (w : Bool) (h : s.rjn.reserved ≠ 0) :
    (resolveTear n r w s).rjn.journal = s.rjn.journal ++ [{ s.resolution n r w with seq := s.rjn.nextSeq }]
      ∧ (resolveTear n r w s).rjn.reserved = s.rjn.reserved - 1
      ∧ (resolveTear n r w s).rjn.nextSeq = s.rjn.nextSeq + 1 := by
  rw [rjn_resolveTear, tearResolvedEntry_eq, writeReserved_held _ s h]
  exact ⟨rfl, rfl, rfl⟩

/-- A row that settles a tear journals its resolution, and gives up both its reservations. -/
theorem rjn_resolveRow {s : State} {n : Nat} {r : Tear} {row : TearRow} {w : Bool} (q g : Word16)
    (hrow : row.verdict = some w) (h : 2 ≤ s.rjn.reserved) (hfree : 0 < s.free) :
    (resolveRow n r row q g s).rjn.reserved + 2 = s.rjn.reserved
      ∧ (resolveRow n r row q g s).rjn.journal
        = s.rjn.journal ++ [{ s.resolution n r w with seq := s.rjn.nextSeq }] := by
  have hreleased : ∀ u : State, u.rjn = (resolveTear n r w s).rjn → (release1 u).rjn.reserved + 2 = s.rjn.reserved
      ∧ (release1 u).rjn.journal = s.rjn.journal ++ [{ s.resolution n r w with seq := s.rjn.nextSeq }] := by
    intro u hu
    obtain ⟨hjournal, hreserved, -⟩ := rjn_resolveTear_eq n r w (s := s) (by omega)
    have hroom : u.free = s.free := (by rw [State.free, hu]; rfl : u.free = (resolveTear n r w s).free).trans
      (free_resolveTear n r w (by omega))
    obtain ⟨hsame, hone, -⟩ := release1_plain u (by rw [hu, hreserved]; omega) (.inl (by omega))
    exact ⟨by rw [hone, hu, hreserved]; omega, by rw [hsame, hu, hjournal]⟩
  cases row with
  | oldImage => cases hrow; exact hreleased _ rfl
  | newSameSide => cases hrow; exact hreleased _ rfl
  | newOtherSide => cases hrow; exact hreleased _ rfl
  | lostToOther => cases hrow; exact hreleased _ (by simp)
  | writtenAgain => cases hrow; exact hreleased _ rfl
  | cloneEqual => cases hrow
  | cloneBehind => cases hrow

/-- A refusal recorded by SCU leaves the pending-tear of an entry as it was. -/
theorem tear_sightRefusal {s : State} {n : Nat} {e : Sighting} (q g : Word16) (hs : s.sighting n = some e) :
    ∃ e', (sightRefusal n q g s).sighting n = some e' ∧ e'.tear = e.tear := by
  obtain rfl := card_of_sighting hs
  unfold sightRefusal
  rw [hs]
  dsimp only
  split
  · exact ⟨_, sighting_touch_same (e.setLocal s q g .refused) s, rfl⟩
  · exact ⟨_, sighting_touch_same e s, rfl⟩

/-- BLOCKED with a pending-tear that a row settles: its resolution comes before the refusal. -/
theorem blocked_resolves {s : State} {x : Side} {image : List Byte} (hp : Presentable s x) (hr : Readable s image)
    (hblocked : (readCard image).blocked = true) {e : Sighting} {r : Tear} {w : Bool}
    (hs : s.sighting (readCard image).number = some e) (ht : e.tear = some r)
    (hw : tearVerdict r (readCard image).seq (readCard image).tag = some w) :
    let c := readCard image
    ∃ t, exec (.cardPresent (sideCode (some x) :: image)) s = .next t ∧ refused s t x c 23
      ∧ t.rjn.reserved + 2 = s.rjn.reserved ∧ (∃ e', t.sighting c.number = some e' ∧ e'.tear = none)
      ∧ ∃ es q, t.rjn.journal = s.rjn.journal ++ { s.resolution c.number r w with seq := s.rjn.nextSeq } :: es
        ∧ { s.shows x c .refusal .blocked with seq := q } ∈ es := by
  intro c
  have hfree := hp.free
  have htwo := reserved_of_tear ((books_iff s).mp hp.books).2 le_rfl hs (by rw [ht]; rfl)
  set p : Shown := { side := x, card := c }
  set u := resolveRow c.number r (tearRow r x c.seq c.tag) c.seq c.tag (s.shown x image)
  have hrow : (tearRow r x c.seq c.tag).verdict = some w := (verdict_tearRow ..).trans hw
  have hworks : Works (s.shown x image) u := works_resolveRow _ _ _ _ _ (.refl _)
  have hentry : shownEntry u p .refusal .blocked = s.shows x c .refusal .blocked := hworks.shows x c _ _
  have hpresent : present x image (s.shown x image) = refuseSeen p (s.shows x c .refusal .blocked) .blocked u := by
    rw [present_readable hp hr, if_pos hblocked, ← hentry]
    exact refuseBlocked_torn (p := p) (s := s.shown x image) hs ht
  obtain ⟨hreserved, hjournal⟩ := rjn_resolveRow (s := s.shown x image) (n := c.number) (r := r) c.seq c.tag hrow htwo
    (show 0 < s.free by omega)
  have hroom : s.free ≤ u.free := free_resolveRow (s := s.shown x image) _ r _ c.seq c.tag htwo (show 0 < s.free by omega)
  obtain ⟨hopen, -, -, -, hmode, -⟩ := hp
  have hrecorded : (sightRefusal c.number c.seq c.tag u).rjn = u.rjn := by simp
  obtain ⟨hafter, honly⟩ := journal_refuseWith (s := u) (u := sightRefusal c.number c.seq c.tag u) (p := p)
    (e := s.shows x c .refusal .blocked) (r := .blocked) (by omega) hrecorded
  refine ⟨_, exec_cardPresent hopen hr.1, ?_⟩
  rw [hpresent]
  refine ⟨?_, ?_, ?_, [{ s.shows x c .refusal .blocked with seq := u.rjn.nextSeq }], u.rjn.nextSeq, ?_, by simp⟩
  · refine refused_refuseWith _ .blocked hmode (works_sightRefusal _ _ _ hworks) (keepsBut.trans ?_
      (keepsBut.mono (sightRefusal_keeps c.number c.seq c.tag u) (by simp [refusalParts])))
    simp [keepsBut, Part.forall_iff, Part.same, refusalParts, u]
  · exact (congrArg (· + 2) hafter).trans hreserved
  · obtain ⟨e', he', hclear, -⟩ := clear_resolveRow (s := s.shown x image) r c.seq c.tag hs
      (row := tearRow r x c.seq c.tag) (by rw [TearRow.resolves, hrow]; rfl)
    obtain ⟨e'', he'', htear⟩ := tear_sightRefusal c.seq c.tag he'
    refine ⟨e'', (sighting_of_scu (s := sightRefusal c.number c.seq c.tag u) ?_ _).trans he'', htear.trans hclear⟩
    simp [refuseSeen, refuseWith, presented, respond, p]
  · rw [onlyEntry, hjournal, List.append_assoc] at honly
    exact honly

/-! ## CLONE (R37, R54, R88, R92, R98) -/

theorem screenTear_clone {s : State} {p : Shown} {e : Sighting} {r : Tear}
    (hrow : (tearRow r p.side p.card.seq p.card.tag).verdict = none) : screenTear p e r s = refuseClone p e.tag s := by
  unfold screenTear
  generalize tearRow r p.side p.card.seq p.card.tag = row at hrow
  cases row with
  | cloneEqual => rfl
  | cloneBehind => rfl
  | _ => cases hrow

theorem screenSighting_clone {s : State} {p : Shown} {e : Sighting} (hs : s.sighting p.card.number = some e)
    (h : (e.tear = none ∧ ((p.card.seq = e.seq ∧ p.card.tag ≠ e.tag) ∨ seqOrder p.card.seq e.seq = .behind))
      ∨ ∃ r, e.tear = some r ∧ tearVerdict r p.card.seq p.card.tag = none) :
    screenSighting p s = refuseClone p e.tag s := by
  unfold screenSighting
  rw [hs]
  dsimp only
  rcases h with ⟨ht, hnot⟩ | ⟨r, ht, hverdict⟩
  · have hinconsistent : consistent e p.card.seq p.card.tag = false := by
      unfold consistent
      rcases hnot with ⟨hseq, htag⟩ | hbehind
      · simp [hseq, htag, seqOrder]
      · simp [hbehind]
    simp [ht, hinconsistent]
  · have hrow : (tearRow r p.side p.card.seq p.card.tag).verdict = none := (verdict_tearRow ..).trans hverdict
    rw [ht]
    exact screenTear_clone hrow

theorem clone_refuses {s : State} {x : Side} {image : List Byte} (hp : Presentable s x) (hlen : image.length = 48)
    {e : Sighting} (hs : s.sighting (readCard image).number = some e)
    (hpresent : present x image (s.shown x image)
      = refuseClone { side := x, card := readCard image } e.tag (s.shown x image)) :
    let c := readCard image
    ∃ t, exec (.cardPresent (sideCode (some x) :: image)) s = .next t ∧ refused s t x c 25
      ∧ t.rjn.reserved = s.rjn.reserved ∧ t.sighting c.number = some e ∧ t.scu.sightings.getLast? = some e
      ∧ raisedOnce .clone s.stl.notices t.stl.notices
      ∧ ∃ code, locallyAdded s t c.number code
        ∧ onlyEntry { s.shows x c .clone .clone with extra := code * 65536 + e.tag.toNat } s t := by
  intro c
  have hfree : s.free ≠ 0 := by have := hp.free; omega
  obtain ⟨hopen, -, -, -, hmode, -⟩ := hp
  set p : Shown := { side := x, card := c }
  set v := localAdd c.number (s.shown x image) with hv
  set u := sightTouch c.number v.1 with hu
  set entry : Entry := { s.shows x c .clone .clone with extra := v.2.code * 65536 + e.tag.toNat }
  have hworks : Works (s.shown x image) u := works_sightTouch _ (works_localAdd _ (.refl _))
  have hentry : shownEntry u p .clone .clone = s.shows x c .clone .clone := hworks.shows x c _ _
  have hrefused : present x image (s.shown x image) = refuseWith p entry .clone (raiseStation .clone u) := by
    rw [hpresent, refuseClone]
    dsimp only
    rw [hentry]
    rfl
  have hsv : v.1.sighting c.number = some e :=
    (sighting_of_table (s := s.shown x image) (sightings_localAdd c.number (s.shown x image)) _).trans hs
  have htouch : u = touchSighting e v.1 := by rw [hu, sightTouch, hsv]
  obtain ⟨hsame, -, hlast⟩ := touched (card_of_sighting hs) v.1
  obtain ⟨hreserved, honly⟩ := journal_refuseWith (s := s) (u := raiseStation .clone u) (p := p) (e := entry)
    (r := .clone) hfree (by simp [hu, hv]; rfl)
  have hscu : (presented (refuseWith p entry .clone (raiseStation .clone u))).scu = u.scu := by
    simp [refuseWith, presented, respond]
  refine ⟨_, exec_cardPresent hopen hlen, ?_⟩
  rw [hrefused]
  refine ⟨refused_refuseWith entry .clone hmode (works_raiseStation (by decide) hworks) ?_, hreserved, ?_, ?_, ?_,
    v.2.code, locallyAdded_localAdd (s := s.shown x image) c.number ?_ ?_, honly⟩
  · simp [keepsBut, Part.forall_iff, Part.same, refusalParts, hu, hv]
  · rw [sighting_of_scu hscu, htouch]
    exact hsame
  · rw [hscu, htouch]
    exact hlast
  · have hraised : (raiseStation .clone u).stl.Spares .clone
        (presented (refuseWith p entry .clone (raiseStation .clone u))).stl := by
      refine Stl.Spares.trans ?_ (presented_spares (by decide) _)
      simp only [refuseWith, sguRefuse_frame]
      exact spares_writeFree _ (by decide) (Stl.Spares.refl _ _)
    have hbefore : u.stl = s.stl := by simp [hu, hv]; rfl
    exact raisedOnce_of_same (by rw [hbefore]; rfl) hraised.notices
  · rw [hscu, htouch]
    rfl
  · rw [hscu, htouch]
    rfl

/-- Settles O29: BLOCKED and CONCURRENT are refusals that SCU records, and CLONE adds the card to the deny list. -/
theorem screeningRefuses : Obligations.ScreeningRefuses := by
  intro x image s hp hr
  have hlen := hr.1
  refine ⟨fun hblocked hunsettled => ?_, fun hblocked e r w hs ht hw => blocked_resolves hp hr hblocked hs ht hw,
    fun hclear sl hsl hcard => ?_, fun hsound e hs h => ?_⟩
  · refine answered_refuseSeen (r := .blocked) (e := s.shows x (readCard image) .refusal .blocked) hp hlen ?_
    rw [present_readable hp hr, if_pos (show (readCard image).blocked = true from hblocked)]
    exact refuseBlocked_plain (s := s.shown x image) (p := { side := x, card := readCard image }) hunsettled
  · refine answered_refuseSeen (r := .concurrent)
      (e := { s.shows x (readCard image) .cloneSuspect .concurrent with extra := sl.newTag.toNat }) hp hlen ?_
    have hother : otherSlotOf (s.shown x image) { side := x, card := readCard image } = some sl := by
      have hslot : (s.shown x image).slot (Side.other x) = some sl := hsl
      simp only [otherSlotOf, hslot, hcard, if_true]
    rw [present_readable hp hr, if_neg (show ¬(readCard image).blocked = true from hclear), hother]
    rfl
  · refine clone_refuses hp hlen hs ?_
    rw [present_sound hp hsound]
    exact screenSighting_clone (s := s.shown x image) (p := { side := x, card := readCard image }) hs h

end Sys2Proof.Machine
end

section
/-! SUPPORT. WRITE OUTCOME on the lane port (R46), and a NOT_WRITTEN (R50). -/

namespace Sys2Proof.Machine

/-! ## The answer to an outcome that a slot takes (R46) -/

/-- The body of a WRITE OUTCOME that names a slot's new tag (R46). -/
def outcomeBody (x : Side) (code : Byte) (sl : Slot) : List Byte := [sideCode (some x), code] ++ toBE 2 sl.newTag.toNat

/-- A slot's owner answered OK: its state with the response in its slot, at the end of the event. -/
def outcomeTaken (u : State) : State := finish (respond 0x82 (refusal .ok) u)

/-- The state in which an outcome of a slot settles it: the frame recorded, the write wait stopped. -/
def State.settling (s : State) (x : Side) (code : Byte) (sl : Slot) : State :=
  chanStop (writeOf x) (s.taking 0x02 (outcomeBody x code sl))

theorem exec_writeOutcome {s : State} {x : Side} {sl : Slot} {code : Byte} {w : WriteResult} (hopen : s.laneOpen)
    (hsl : s.slot x = some sl) (hw : outcomeOf code = some w) :
    exec (.writeOutcome (outcomeBody x code sl)) s
      = .next (outcomeTaken (settleSlot w x sl (s.taking 0x02 (outcomeBody x code sl)))) := by
  have hside : sideOf (byteAt (outcomeBody x code sl) 0) = some x := by cases x <;> rfl
  have htag : BitVec.ofNat 16 (field (outcomeBody x code sl) 2 2) = sl.newTag := by
    rw [outcomeBody, field_append_skip _ _ (by simp), show 2 - [sideCode (some x), code].length = 0 from rfl,
      field_self (length_toBE ..), fromBE_toBE]
    exact BitVec.eq_of_toNat_eq (by simp; omega)
  have hrun : ∀ u : State, u.slot x = some sl → reqWriteOutcome.run .lane (outcomeBody x code sl) u
      = (settleSlot w x sl u, refusal .ok) := by
    intro u hu
    show writeOutcomeRun _ u = _
    simp only [writeOutcomeRun, hside, show byteAt (outcomeBody x code sl) 1 = code from rfl, hw, htag, takeOutcome, hu,
      if_true]
  show Host.Outcome.next (laneRequest reqWriteOutcome _ s) = _
  rw [laneRequest_open hopen (by simp [reqWriteOutcome, exactly, outcomeBody]) (by simp [outcomeBody])]
  exact congrArg (fun r => Host.Outcome.next (finish (respond 0x82 r.2 r.1))) (hrun (s.taking 0x02 _) hsl)

section
variable (u : State)

theorem outcomeTaken_keeps : keepsBut [.lpt, .stl, .svc, .sgu] u (outcomeTaken u) := by
  simp [keepsBut, Part.forall_iff, Part.same, outcomeTaken, respond]

theorem rjn_outcomeTaken : (outcomeTaken u).rjn = u.rjn := by simp [outcomeTaken, respond]

theorem txu_outcomeTaken : (outcomeTaken u).txu = u.txu := by simp [outcomeTaken, respond]

theorem scu_outcomeTaken : (outcomeTaken u).scu = u.scu := by simp [outcomeTaken, respond]

theorem pcu_outcomeTaken : (outcomeTaken u).pcu = u.pcu := by simp [outcomeTaken, respond]

theorem lfc_outcomeTaken : (outcomeTaken u).lfc = u.lfc := by simp [outcomeTaken, respond]

theorem ads_outcomeTaken : (outcomeTaken u).ads = u.ads := by simp [outcomeTaken, respond]

theorem ltu_outcomeTaken : (outcomeTaken u).ltu = u.ltu := by simp [outcomeTaken, respond]

theorem chan_outcomeTaken (i : ChanId) : (outcomeTaken u).chan i = u.chan i := by
  rw [State.chan, ltu_outcomeTaken, State.chan]

theorem flash_outcomeTaken (x : Side) : (outcomeTaken u).flash x = u.flash x := by
  rw [outcomeTaken, finish_flash]
  rfl

theorem tone_outcomeTaken : (outcomeTaken u).sgu.tone = u.sgu.tone := by
  rw [outcomeTaken, finish_sgu]
  rfl

theorem responseSlot_outcomeTaken :
    (outcomeTaken u).lpt.responseSlot = some { kind := 0x82, body := [0], overrun := false } := by
  rw [outcomeTaken, finish_responseSlot]
  rfl

theorem formed_outcomeTaken : (outcomeTaken u).formed := finish_formed _

end

/-- An outcome's frame: what the owner of the slot changes, and what the port and the end of the event do. -/
theorem outcomeTaken_frame {s u : State} {x : Side} {sl : Slot} {code : Byte} {ps : List Part}
    (hports : [.lpt, .stl, .svc, .sgu, .ltu] ⊆ ps) (h : keepsBut ps (s.settling x code sl) u) :
    keepsBut ps s (outcomeTaken u) := by
  have htaken : keepsBut ps s (s.settling x code sl) := keepsBut.mono (ps := [.lpt, .ltu])
    (by simp [keepsBut, Part.forall_iff, Part.same, State.settling, State.taking, recordTransfer])
    fun p hp => hports (by simp at hp ⊢; rcases hp with rfl | rfl <;> simp)
  exact (htaken.trans h).trans ((outcomeTaken_keeps u).mono fun p hp => hports (by
    simp only [List.mem_cons, List.not_mem_nil, or_false] at hp ⊢
    rcases hp with rfl | rfl | rfl | rfl <;> simp))

/-- The books of a lane with a slot in hand, at its outcome. -/
theorem settling_inHand {s : State} {x : Side} {sl : Slot} (code : Byte) (hbooks : s.books) (hsl : s.slot x = some sl) :
    (s.settling x code sl).ledger.Balanced none 0 0 ∧ (s.settling x code sl).slot x = some sl
      ∧ 3 ≤ s.rjn.reserved := by
  have hbalanced := ((books_iff s).mp hbooks).2
  refine ⟨?_, hsl, ?_⟩
  · rw [State.settling, ledger_chanStop]
    exact hbalanced
  · have hheld := (balanced_inHand hbalanced hsl).held
    rw [show s.ledger.reserved = s.rjn.reserved from rfl] at hheld
    omega

/-! ## The tag of a settled slot (R173, R174) -/

/-- While a slot of the tag waits, the sampler is TRACKING with a sample (R168). -/
theorem sample_of_tagged {s : State} {x : Side} {sl : Slot} (h : s.ledger.Balanced none 0 0) (hsl : s.slot x = some sl)
    (haudit : sl.audit = true) : ∃ m, s.ads.sample = some m := by
  have hphase : s.ads.phase = .tracking := ((balanced_inHand h hsl).congr rfl (by simp [haudit])).tracking
  have hsample : s.ads.sample.isSome = s.ads.phase.holdsSample := h.sample
  rw [hphase] at hsample
  exact Option.isSome_iff_exists.mp hsample

/-- The sample of an outcome that completes it (R172 to R174). -/
def settledSample (r : WriteResult) (o : AuditOutcome) (sl : Slot) (tone : SampleTone) (s : State) (m : Sample) : Sample :=
  { m with
    writeResult := some r, writeTicks := ticksHeld sl.tick s.svc.tickCount, tone := tone
    outcome := some o, doneDay := s.svc.day, doneSecs := s.svc.secs }

/-- The tag of a slot whose outcome gives no credit is completed; an untagged slot leaves the sampler. -/
theorem ads_auditSettled {r : WriteResult} {o : AuditOutcome} {sl : Slot} {tone : SampleTone} {s u t : State}
    (ht : t.ads = (if sl.audit then auditComplete o (auditOutcome sl r tone u) else auditOutcome sl r tone u).ads)
    (hads : u.ads = s.ads) (hsvc : s.svc.Judged u.svc) :
    (sl.audit = true → ∀ m, s.ads.sample = some m →
        t.ads.phase = .valid ∧ t.ads.sample = some (settledSample r o sl tone s m))
      ∧ (sl.audit = false → t.ads = s.ads) := by
  refine ⟨fun haudit m hm => ?_, fun haudit => ?_⟩
  · rw [ht, if_pos haudit, auditOutcome, if_pos haudit]
    exact ⟨rfl, by simp [auditComplete, auditWrite, onSample, settledSample, hads, hm, hsvc.tickCount, hsvc.day, hsvc.secs]⟩
  · rw [ht, auditOutcome, haudit]
    exact hads

/-! ## NOT_WRITTEN (R50) -/

/-- The books of a NOT_WRITTEN: its entry written, the two other reservations given up. -/
def released (x : Side) (sl : Slot) (s : State) : State :=
  release1 (release1 (writeReserved (notWrittenEntry s x sl) s))

/-- A NOT_WRITTEN as SGU hears of it. -/
def voided (x : Side) (sl : Slot) (s : State) : State :=
  let t := auditOutcome sl .notWritten (sampleTone s .refuse) (freeSlot x (sightNotWritten sl.card (released x sl s)))
  if sl.audit then auditComplete .writeFailed t else t

theorem settleNotWritten_eq (x : Side) (sl : Slot) (s : State) : settleNotWritten x sl s = sguRefuse x (voided x sl s) := rfl

section
variable (x : Side) (sl : Slot) (s : State)

theorem voided_frame : (voided x sl s).rjn = (released x sl s).rjn ∧ (voided x sl s).sgu = s.sgu
    ∧ (voided x sl s).ltu = s.ltu ∧ (voided x sl s).scu = (sightNotWritten sl.card (released x sl s)).scu
    ∧ (voided x sl s).txu = (freeSlot x s).txu := by
  have hfreed : ∀ u : State, u.txu = s.txu → (freeSlot x u).txu = (freeSlot x s).txu := by
    intro u hu
    cases x <;> simp [freeSlot, setSlot, hu]
  have htxu := hfreed (sightNotWritten sl.card (released x sl s)) (by simp [released])
  unfold voided
  dsimp only
  split
  · exact ⟨by simp, by simp [released], by simp [released], by simp, by simp [htxu]⟩
  · exact ⟨by simp, by simp [released], by simp [released], by simp, by simp [htxu]⟩

theorem works_voided : Works s (voided x sl s) := by
  have hreleased := works_release1 (works_release1 (works_writeReserved (notWrittenEntry s x sl) (Works.refl s)))
  have hfreed := works_auditOutcome sl .notWritten (sampleTone s .refuse)
    (works_setSlot x none (works_sightNotWritten sl.card hreleased))
  unfold voided
  dsimp only
  split
  · exact works_auditComplete _ hfreed
  · exact hfreed

theorem chan_settleNotWritten {i : ChanId} (hi : i ≠ .signal) : (settleNotWritten x sl s).chan i = s.chan i := by
  obtain ⟨-, -, hltu, -⟩ := voided_frame x sl s
  rw [settleNotWritten_eq, sguRefuse_chan _ _ hi, State.chan, hltu, State.chan]

theorem flash_settleNotWritten : (settleNotWritten x sl s).flash x
    = if s.effMode = .free then s.flash x else some (s.svc.tickCount + 64) := by
  obtain ⟨-, hsgu, -⟩ := voided_frame x sl s
  have hworks := works_voided x sl s
  have hflash : (voided x sl s).flash x = s.flash x := by cases x <;> simp [State.flash, hsgu]
  rw [settleNotWritten_eq, (sguRefuse_flash x _).1, hworks.effMode, hworks.svc.tickCount, hflash]

theorem ads_settleNotWritten :
    (sl.audit = true → ∀ m, s.ads.sample = some m → (settleNotWritten x sl s).ads.phase = .valid
        ∧ (settleNotWritten x sl s).ads.sample = some (settledSample .notWritten .writeFailed sl (sampleTone s .refuse) s m))
      ∧ (sl.audit = false → (settleNotWritten x sl s).ads = s.ads) := by
  have hworks : Works s (freeSlot x (sightNotWritten sl.card (released x sl s))) := works_setSlot x none
    (works_sightNotWritten sl.card (works_release1 (works_release1 (works_writeReserved _ (.refl s)))))
  exact ads_auditSettled (u := freeSlot x (sightNotWritten sl.card (released x sl s)))
    (by simp [settleNotWritten_eq, voided]) (by simp [released]) hworks.svc

theorem journal_settleNotWritten {s : State} (h : 3 ≤ s.rjn.reserved) :
    (settleNotWritten x sl s).rjn.reserved + 3 = s.rjn.reserved
      ∧ firstEntry (notWrittenEntry s x sl) s (settleNotWritten x sl s) := by
  obtain ⟨hrjn, -⟩ := voided_frame x sl s
  have hwritten := writeReserved_held (notWrittenEntry s x sl) s (by omega)
  obtain ⟨es, hes, -⟩ : (writeReserved (notWrittenEntry s x sl) s).rjn.Grows (settleNotWritten x sl s).rjn := by
    simp only [settleNotWritten_eq, sguRefuse_frame, hrjn, released]
    exact grows_release1 (grows_release1 (.refl _))
  refine ⟨?_, es, ?_⟩
  · simp only [settleNotWritten_eq, sguRefuse_frame, hrjn, released, reserved_release1, hwritten]
    omega
  · rw [hes, hwritten, List.append_assoc]
    rfl

end

/-- The entry of a card whose write was not made (R96). -/
theorem sighting_settleNotWritten {x : Side} {sl : Slot} {s : State} {e : Sighting} (hs : s.sighting sl.card = some e) :
    (settleNotWritten x sl s).sighting sl.card = some { e with inFlight := none, event := .refused } := by
  obtain ⟨-, -, -, hscu, -⟩ := voided_frame x sl s
  have hreleased : (released x sl s).sighting sl.card = some e := (sighting_of_scu (by simp [released]) _).trans hs
  rw [settleNotWritten_eq, sighting_of_scu (s := sightNotWritten sl.card (released x sl s)) (by simp [hscu]),
    sightNotWritten, hreleased]
  have hcard : e.card = sl.card := card_of_sighting hs
  exact (touched (e := { e with inFlight := none, event := .refused }) hcard _).1

/-- Settles O36: the first reservation takes the entry, the others go, and the sighting keeps its sequence and tag. -/
theorem notWrittenVoidsCharge : Obligations.NotWrittenVoidsCharge := by
  intro x sl s hopen hformed hbooks hsl
  obtain ⟨hbalanced, hslot, hthree⟩ := settling_inHand 2 hbooks hsl
  set u := s.settling x 2 sl
  have hwait : writeOf x ≠ .signal := by cases x <;> decide
  obtain ⟨hreserved, hfirst⟩ := journal_settleNotWritten x sl (s := u) hthree
  obtain ⟨htagged, huntagged⟩ := ads_settleNotWritten x sl u
  obtain ⟨-, -, -, -, htxu⟩ := voided_frame x sl u
  have hslots : ∀ y, (outcomeTaken (settleNotWritten x sl u)).slot y = if x = y then none else s.slot y := by
    intro y
    rw [slot_of_txu (s := freeSlot x u) ((txu_outcomeTaken _).trans (by simp [settleNotWritten_eq, htxu])), freeSlot,
      slot_setSlot]
    rfl
  refine ⟨outcomeTaken (settleNotWritten x sl u), exec_writeOutcome (w := .notWritten) hopen hsl rfl, ?_, ?_, ?_, responseSlot_outcomeTaken _, ?_, ?_, ?_,
    ?_, ?_, ?_, ?_⟩
  · refine outcomeTaken_frame (code := 2) (x := x) (sl := sl) (by simp) (show keepsBut _ u (settleNotWritten x sl u) from ?_)
    simp [keepsBut, Part.forall_iff, Part.same]
  · exact (hslots x).trans (if_pos rfl)
  · exact (hslots _).trans (if_neg (by cases x <;> decide))
  · rw [chan_outcomeTaken]
    exact (congrArg Channel.state (chan_settleNotWritten x sl u hwait)).trans (stopped_self _ _)
  · rw [rjn_outcomeTaken]
    exact hreserved
  · rw [firstEntry, rjn_outcomeTaken]
    exact hfirst
  · intro e he
    rw [sighting_of_scu (scu_outcomeTaken _)]
    exact sighting_settleNotWritten (s := u) he
  · rw [flash_outcomeTaken]
    exact flash_settleNotWritten x sl u
  · intro haudit
    obtain ⟨m, hm⟩ := sample_of_tagged hbalanced hslot haudit
    obtain ⟨hphase, hsample⟩ := htagged haudit m hm
    rw [ads_outcomeTaken]
    exact ⟨hphase, _, hsample, rfl, rfl⟩
  · intro haudit
    rw [ads_outcomeTaken]
    exact huntagged haudit

end Sys2Proof.Machine
end

section
/-! SUPPORT. A credit that joins its queue (R48, R110, R112, R133, R148, R172): what the leaves' work leaves of the
arbiter, the write waits and the sampler. -/

namespace Sys2Proof.Machine

variable {s t : State}

/-! ## What a grant leaves of the sampler (R172) -/

/-- Only the creation-to-grant field of a sample under construction can differ, and the tick of the grant. -/
structure Ads.Granted (a b : Ads) : Prop where
  phase : b.phase = a.phase
  counter : b.counter = a.counter
  sample : ∀ m, a.sample = some m → ∃ v, b.sample = some { m with toGrant := v }
  untracked : a.phase ≠ .tracking → b = a

theorem Ads.Granted.refl (a : Ads) : a.Granted a := ⟨rfl, rfl, fun m hm => ⟨m.toGrant, hm⟩, fun _ => rfl⟩

theorem Ads.Granted.trans {a b c : Ads} (h : a.Granted b) (h' : b.Granted c) : a.Granted c where
  phase := h'.phase.trans h.phase
  counter := h'.counter.trans h.counter
  sample := fun m hm => by
    obtain ⟨v, hv⟩ := h.sample m hm
    obtain ⟨w, hw⟩ := h'.sample _ hv
    exact ⟨w, hw⟩
  untracked := fun hne => (h'.untracked (by rwa [h.phase])).trans (h.untracked hne)

theorem granted_auditGrant (s : State) : s.ads.Granted (auditGrant s).ads := by
  unfold auditGrant
  split
  next h =>
    have htracking : s.ads.phase = .tracking := by simpa [auditTracking] using (Bool.and_eq_true_iff.mp h).1
    split
    next c hc =>
      exact ⟨rfl, rfl, fun m hm => ⟨some (ticksHeld c.tick s.svc.tickCount), by simp [onSample, hm]⟩,
        fun hne => absurd htracking hne⟩
    · exact Ads.Granted.refl _
  · exact Ads.Granted.refl _

/-! ## The work of the leaves (R129 to R136) -/

/-- The leaves, their timers and windows worked: the arbiter's pattern and the write waits as they were. -/
structure LeafWork (s t : State) : Prop where
  tone : t.sgu.tone = s.sgu.tone
  waits : ∀ y, t.chan (writeOf y) = s.chan (writeOf y)
  ads : s.ads.Granted t.ads

theorem LeafWork.refl (s : State) : LeafWork s s := ⟨rfl, fun _ => rfl, Ads.Granted.refl _⟩

theorem LeafWork.trans {u : State} (h : LeafWork s t) (h' : LeafWork t u) : LeafWork s u :=
  ⟨h'.tone.trans h.tone, fun y => (h'.waits y).trans (h.waits y), h.ads.trans h'.ads⟩

theorem LeafWork.setLfc (l : Lfc) (h : LeafWork s t) : LeafWork s (t.setLfc l) := ⟨h.tone, h.waits, h.ads⟩

theorem LeafWork.setChan {i : ChanId} (c : Channel) (hi : ∀ y, i ≠ writeOf y) (h : LeafWork s t) :
    LeafWork s (setChan i c t) :=
  ⟨h.tone, fun y => by rw [chan_setChan, if_neg (hi y)]; exact h.waits y, h.ads⟩

theorem LeafWork.setHurry (d : Side) (b : Bool) (h : LeafWork s t) : LeafWork s (setHurry d b t) := by
  cases d <;> exact ⟨h.tone, h.waits, h.ads⟩

theorem leafTimer_ne (y : Side) : ChanId.leafMove ≠ writeOf y ∧ ChanId.leafHold ≠ writeOf y := by
  cases y <;> decide

theorem window_ne (d y : Side) : windowOf d ≠ writeOf y := by cases d <;> cases y <;> decide

theorem leafWork_auditGrant (s : State) : LeafWork s (auditGrant s) :=
  ⟨by simp, fun y => by rw [State.chan, State.chan]; simp, granted_auditGrant s⟩

theorem leafWork_startWindow (d : Side) (h : LeafWork s t) : LeafWork s (startWindow d t) := by
  unfold startWindow
  dsimp only
  split
  · exact (h.setHurry d false).setChan _ (window_ne d)
  · exact (h.setHurry d false).setChan _ (window_ne d)

theorem leafWork_stopWindow (d : Side) (h : LeafWork s t) : LeafWork s (stopWindow d t) :=
  (h.setHurry d false).setChan _ (window_ne d)

theorem leafWork_headWindow (d : Side) (h : LeafWork s t) : LeafWork s (headWindow d t) := by
  unfold headWindow
  split
  · exact leafWork_startWindow d h
  · exact h

theorem leafWork_openCheck (d : Side) (h : LeafWork s t) : LeafWork s (openCheck d t) := by
  have hhold := fun y => (leafTimer_ne y).2
  unfold openCheck
  split
  · exact h.setChan _ hhold
  · split
    · exact h
    · exact h.setChan _ hhold

theorem leafWork_enterOpen (d : Side) (h : LeafWork s t) : LeafWork s (enterOpen d t) :=
  leafWork_openCheck d (leafWork_headWindow d ((h.setChan _ fun y => (leafTimer_ne y).1).setLfc _))

theorem leafWork_beginOpening (d : Side) (r : Bool) (h : LeafWork s t) : LeafWork s (beginOpening d r t) := by
  have hmoved := (h.setLfc { t.lfc.drives .openSw (openSwing d) with
    leaf := .opening d, reversal := r, paused := false, openSide := some (openSideOf d) }).setChan
    (Channel.start 96 0) fun y => (leafTimer_ne y).1
  unfold beginOpening
  dsimp only
  split
  · exact leafWork_enterOpen d hmoved
  · exact hmoved

theorem leafWork_grantLeaves (d : Side) (h : LeafWork s t) : LeafWork s (grantLeaves d t) :=
  leafWork_beginOpening d false ((h.setLfc _).trans (leafWork_auditGrant _))

theorem leafWork_enterClosed (h : LeafWork s t) : LeafWork s (enterClosed t) := by
  have hstopped : LeafWork s (chanStop .leafHold (chanStop .leafMove t)) :=
    (h.setChan _ fun y => (leafTimer_ne y).1).setChan _ fun y => (leafTimer_ne y).2
  unfold enterClosed
  dsimp only
  split
  · exact leafWork_grantLeaves _ (hstopped.setLfc _)
  · exact hstopped.setLfc _

theorem leafWork_driveClosed (h : LeafWork s t) : LeafWork s (driveClosed t) := by
  have hmoved := fun l => (h.setLfc l).setChan (Channel.start 96 0) fun y => (leafTimer_ne y).1
  unfold driveClosed
  dsimp only
  split
  · exact leafWork_enterClosed (hmoved _)
  · exact hmoved _

theorem leafWork_beginClosing (g : Option Side) (n : Nat) (h : LeafWork s t) : LeafWork s (beginClosing g n t) := by
  have hleft : LeafWork s (leaveOpen t) := by
    unfold leaveOpen
    split
    · exact leafWork_stopWindow _ h
    · exact h
  exact leafWork_driveClosed (hleft.setLfc _)

theorem leafWork_lfcQueue (h : LeafWork s t) : LeafWork s (lfcQueue t) := by
  unfold lfcQueue
  split
  · split
    · exact leafWork_grantLeaves _ h
    · exact h
  · split
    · exact leafWork_beginClosing _ _ h
    · exact h
  · exact leafWork_openCheck _ h
  all_goals exact h

/-! ## A credit created (R110, R112, R133) -/

theorem leafWork_createCredit (d : Side) (c : Credit) (s : State) : LeafWork s (createCredit d c s) := by
  have hqueued : LeafWork s (setQueue d (s.queue d ++ [c]) s) := by
    cases d <;> exact ⟨rfl, fun _ => rfl, Ads.Granted.refl _⟩
  have hjoined := hqueued.trans (leafWork_auditGrant _)
  unfold createCredit
  dsimp only
  split
  · exact leafWork_lfcQueue (leafWork_headWindow d hjoined)
  · exact leafWork_lfcQueue hjoined

theorem pcu_createCredit (d : Side) (c : Credit) (s : State) :
    (createCredit d c s).pcu = (setQueue d (s.queue d ++ [c]) s).pcu := by
  unfold createCredit
  dsimp only
  split <;> simp

theorem queue_createCredit (d : Side) (c : Credit) (s : State) :
    (createCredit d c s).queue d = s.queue d ++ [c]
      ∧ (createCredit d c s).queue (Side.other d) = s.queue (Side.other d) := by
  rw [queue_of_pcu (pcu_createCredit d c s), queue_of_pcu (pcu_createCredit d c s), queue_setQueue, queue_setQueue]
  exact ⟨if_pos rfl, if_neg (by cases d <;> decide)⟩

theorem beginOpening_towards (d : Side) (r : Bool) (s : State) :
    (beginOpening d r s).lfc.grant = s.lfc.grant ∧ (beginOpening d r s).lfc.leaf.towards d = true := by
  unfold beginOpening
  dsimp only
  split
  · have hopen : ∀ u : State, (enterOpen d u).lfc = { u.lfc with leaf := .opened d } := fun u => by
      simp [enterOpen]
    rw [hopen]
    exact ⟨rfl, by simp [LeafState.towards]⟩
  · exact ⟨rfl, by simp [startMove, LeafState.towards]⟩

/-- From CLOSED, the credit of an empty lane has the leaves granted to its direction (R132, R133). -/
theorem createCredit_grants (d : Side) (c : Credit) (hleaf : s.lfc.leaf = .closed) (hchoice : choice s = none) :
    (createCredit d c s).lfc.grant = some d ∧ (createCredit d c s).lfc.leaf.towards d = true := by
  have hempty : s.pcu.queueUp = [] ∧ s.pcu.queuePu = [] := by
    unfold choice at hchoice
    split at hchoice
    next hup hpu => exact ⟨hup, hpu⟩
    · cases hchoice
    · cases hchoice
    · split at hchoice <;> cases hchoice
  obtain ⟨hup, hpu⟩ := hempty
  have hgranted : ∀ u : State, u.lfc = s.lfc → u.pcu = (setQueue d (s.queue d ++ [c]) s).pcu →
      (lfcQueue u).lfc.grant = some d ∧ (lfcQueue u).lfc.leaf.towards d = true := by
    intro u hlfc hpcu
    have hchosen : choice u = some d := by
      rw [choice, hpcu]
      cases d <;> simp [setQueue, State.queue, hup, hpu]
    have hqueue : lfcQueue u = grantLeaves d u := by
      unfold lfcQueue
      rw [hlfc, hleaf]
      simp only [hchosen]
    rw [hqueue, grantLeaves]
    obtain ⟨hgrant, htowards⟩ := beginOpening_towards d false
      (auditGrant (u.setLfc { u.lfc with grant := some d, reversalCount := 0 }))
    exact ⟨hgrant.trans (by simp), htowards⟩
  unfold createCredit
  dsimp only
  split
  · exact hgranted _ (by simp) (by simp)
  · exact hgranted _ (by simp) (by simp)

/-! ## The ACCEPT tone (R145, R148) -/

theorem toneAccept_plays (h : toneStarts s .accept = true) :
    (toneAccept s).sgu.tone = some .accept ∧ (toneAccept s).chan .signal = .start 16 6 := by
  rw [toneAccept, requestTone_of_starts 1 h]
  exact ⟨rfl, by rw [startTone, chan_chanStart]; rfl⟩

theorem chan_toneAccept {i : ChanId} (hi : i ≠ .signal) : (toneAccept s).chan i = s.chan i :=
  chan_requestTone s .accept 1 hi

theorem toneStarts_of_tone {p : Tone} (h : t.sgu.tone = s.sgu.tone) : toneStarts t p = toneStarts s p := by
  rw [toneStarts, toneStarts, h]

/-- A credit created with the ACCEPT tone: the queues, the grant, the tone and the write waits. -/
structure CreditStands (d : Side) (c : Credit) (s t : State) : Prop where
  queue : t.queue d = s.queue d ++ [c]
  other : t.queue (Side.other d) = s.queue (Side.other d)
  grant : s.lfc.leaf = .closed → choice s = none → t.lfc.grant = some d ∧ t.lfc.leaf.towards d = true
  tone : toneStarts s .accept = true → t.sgu.tone = some .accept ∧ t.chan .signal = .start 16 6
  waits : ∀ y, t.chan (writeOf y) = s.chan (writeOf y)

/-- What a credit finds does not hang on the journal, the sightings or the sampler. -/
theorem CreditStands.rebase {d : Side} {c : Credit} {u : State} (h : CreditStands d c u t) (hpcu : u.pcu = s.pcu)
    (hlfc : u.lfc = s.lfc) (hltu : u.ltu = s.ltu) (hsgu : u.sgu = s.sgu) : CreditStands d c s t where
  queue := (queue_of_pcu hpcu d).symm ▸ h.queue
  other := h.other.trans (queue_of_pcu hpcu _)
  grant := fun hleaf hchoice => h.grant (hlfc ▸ hleaf) (by rwa [choice, hpcu])
  tone := fun hstarts => h.tone ((toneStarts_of_tone (congrArg Sgu.tone hsgu)).trans hstarts)
  waits := fun y => (h.waits y).trans (by rw [State.chan, State.chan, hltu])

theorem creditStands_accept (d : Side) (c : Credit) (s : State) :
    CreditStands d c s (toneAccept (createCredit d c s)) := by
  have hwork := leafWork_createCredit d c s
  obtain ⟨hqueue, hother⟩ := queue_createCredit d c s
  have hpcu : (toneAccept (createCredit d c s)).pcu = (createCredit d c s).pcu := by simp
  refine ⟨(queue_of_pcu hpcu d).trans hqueue, (queue_of_pcu hpcu _).trans hother, fun hleaf hchoice => ?_,
    fun hstarts => toneAccept_plays ((toneStarts_of_tone hwork.tone).trans hstarts), fun y => ?_⟩
  · have hlfc : (toneAccept (createCredit d c s)).lfc = (createCredit d c s).lfc := by simp
    rw [hlfc]
    exact createCredit_grants d c hleaf hchoice
  · rw [chan_toneAccept (by cases y <;> decide)]
    exact hwork.waits y

theorem granted_accept (d : Side) (c : Credit) (s : State) :
    s.ads.Granted (toneAccept (createCredit d c s)).ads := by
  simpa using (leafWork_createCredit d c s).ads

end Sys2Proof.Machine
end

section
/-! SUPPORT. A DONE: its entry, its credit or the credit's cancellation, and its sighting (R48, R49, R96). -/

namespace Sys2Proof.Machine

/-! ## The sighting of a card whose write is settled (R94, R96) -/

theorem sighting_dropMark {s : State} {c : Nat} {e : Sighting} (n : Nat) (hs : s.sighting c = some e) :
    ∃ v, (dropMark n s).sighting c = some { e with mark := v } := by
  rw [sighting_map (s := s) (f := fun e => if e.card = n then { e with mark := none } else e)
    (fun x => by split <;> rfl) rfl, hs]
  by_cases he : e.card = n
  · exact ⟨none, by simp [he]⟩
  · exact ⟨e.mark, by simp [he]⟩

/-- A mark set on a card's entry changes nothing else of it (R94). -/
theorem sighting_setMark {s : State} {c : Nat} {e : Sighting} (d : Side) (hs : s.sighting c = some e) :
    ∃ v, (setMark c d s).sighting c = some { e with mark := v } := by
  have hplaced : ∀ (m : Mark) (u : State) (v : Option Mark), u.sighting c = some { e with mark := v } →
      (placeMark c m u).sighting c = some { e with mark := some m } := by
    intro m u v hu
    rw [placeMark, hu]
    have hcard : e.card = c := card_of_sighting hs
    exact (touched (e := { e with mark := some m }) hcard u).1
  unfold setMark
  rw [hs]
  dsimp only
  split
  · exact ⟨_, hplaced _ s e.mark hs⟩
  · unfold dropNinthMark
    split
    · exact ⟨_, hplaced _ s e.mark hs⟩
    · split
      · exact ⟨_, hplaced _ s e.mark hs⟩
      next n _ _ =>
        obtain ⟨v, hv⟩ := sighting_dropMark n hs
        exact ⟨_, hplaced _ _ v hv⟩

theorem sighting_cancelCredit {s : State} {c : Credit} {n : Nat} {e : Sighting} (d : Side) (r : Reason)
    (hcard : c.card = some n) (hs : s.sighting n = some e) :
    ∃ v, (cancelCredit d r c s).sighting n = some { e with mark := v } := by
  obtain ⟨v, hv⟩ := sighting_setMark (s := writeReserved (creditEntry s .creditCancelled r d c) s) d
    ((sighting_of_scu (by simp) n).trans hs)
  refine ⟨v, (sighting_of_scu ?_ n).trans hv⟩
  rw [scu_cancelCredit, markCredit, hcard]

/-- A DONE settles its card's entry: no write is under way, and the old image gives way to the new one (R96). -/
theorem sighting_sightDone {s : State} {c : Nat} {e : Sighting} (x : Side) (q g q' g' : Word16)
    (hs : s.sighting c = some e) : ∃ e', (sightDone c x q g q' g' s).sighting c = some e' ∧ e'.inFlight = none
      ∧ (e.seq = q → e.tag = g → e'.seq = q' ∧ e'.tag = g') := by
  have hcard : e.card = c := card_of_sighting hs
  unfold sightDone
  rw [hs]
  dsimp only
  split
  · exact ⟨_, (touched (e := { e with inFlight := none, seq := q', tag := g' }) hcard s).1, rfl, fun _ _ => ⟨rfl, rfl⟩⟩
  next hold =>
    have hnot : ¬(e.seq = q ∧ e.tag = g) := fun h => hold (.inl h)
    have htouched := (touched (e := { e with inFlight := none }) hcard s).1
    split
    · exact ⟨_, (sighting_of_table (sightings_cloneEvidence ..) c).trans htouched, rfl, fun hq hg => absurd ⟨hq, hg⟩ hnot⟩
    · exact ⟨_, htouched, rfl, fun hq hg => absurd ⟨hq, hg⟩ hnot⟩

theorem reserved_sightDone (c : Nat) (x : Side) (q g q' g' : Word16) (s : State) :
    (sightDone c x q g q' g' s).rjn.reserved = s.rjn.reserved := by
  unfold sightDone
  split
  · rfl
  · dsimp only
    split
    · rfl
    · split
      · simp [cloneEvidence, writeFree_reserved]
      · rfl

/-! ## The credit of a DONE (R48, R49) -/

/-- The credit a DONE makes (R110). -/
def paidCredit (sl : Slot) (w : Word32) (s : State) : Credit :=
  { kind := .paid, card := some sl.card, creator := w, tick := s.svc.tickCount, audit := sl.audit }

theorem doneCredit_stands {x : Side} {s : State} (sl : Slot) (w : Word32) (hpermits : s.permits x = true)
    (hleaf : s.lfc.leaf ≠ .fault) : doneCredit x sl w s
      = toneAccept (createCredit x (paidCredit sl w s) (auditOutcome sl .done (sampleTone s .accept) s)) := by
  have hmode : s.effMode ≠ .free := fun h => by simp [permits_free h] at hpermits
  have hnone : cancelAtDone s x = none := by simp [cancelAtDone, hmode, hpermits, hleaf]
  rw [doneCredit, hnone]
  rfl

/-- Why a credit does not stand: FREE before the mode, the mode before the leaves (R49). -/
def cancelReason (s : State) (x : Side) : Reason :=
  if s.effMode = .free then .free else if s.permits x = false then .mode else .fault

theorem doneCredit_cancelled {x : Side} {s : State} (sl : Slot) (w : Word32)
    (h : s.permits x = false ∨ s.lfc.leaf = .fault) : doneCredit x sl w s
      = cancelCredit x (cancelReason s x) (paidCredit sl w s) (auditOutcome sl .done .absent s) := by
  have hsome : cancelAtDone s x = some (cancelReason s x) := by
    unfold cancelAtDone cancelReason
    split
    · rfl
    · cases hpermits : s.permits x with
      | false => rfl
      | true =>
        have hleaf : s.lfc.leaf = .fault := h.resolve_left (by simp [hpermits])
        simp [hleaf]
  rw [doneCredit, hsome]
  rfl

/-! ## A DONE settled (R48) -/

/-- A DONE as SCU hears of it: the entry written, and the credit made, cancelled or not due. -/
def doneLeft (x : Side) (sl : Slot) (s : State) : State :=
  let t := writeReserved (doneEntry s x sl) s
  if sl.kind = .accept then doneCredit x sl s.rjn.nextSeq t else release1 t

theorem settleDone_eq (x : Side) (sl : Slot) (s : State) : settleDone x sl s
    = freeSlot x (release1 (sightDone sl.card x sl.oldSeq sl.oldTag sl.newSeq sl.newTag (doneLeft x sl s))) := rfl

section
variable (x : Side) (sl : Slot) (s : State)

/-- After the credit, only the sighting, the deny list, the journal and the slot move. -/
theorem settleDone_left : (settleDone x sl s).ltu = (doneLeft x sl s).ltu ∧ (settleDone x sl s).pcu = (doneLeft x sl s).pcu
    ∧ (settleDone x sl s).lfc = (doneLeft x sl s).lfc ∧ (settleDone x sl s).sgu = (doneLeft x sl s).sgu := by
  simp [settleDone_eq]

theorem rjn_settleDone : (settleDone x sl s).rjn
    = (release1 (sightDone sl.card x sl.oldSeq sl.oldTag sl.newSeq sl.newTag (doneLeft x sl s))).rjn := by
  simp [settleDone_eq]

theorem reserved_settleDone : (settleDone x sl s).rjn.reserved = (doneLeft x sl s).rjn.reserved - 1 := by
  rw [rjn_settleDone, reserved_release1, reserved_sightDone]

theorem slot_settleDone (y : Side) : (settleDone x sl s).slot y = if x = y then none else s.slot y := by
  have htxu : (doneLeft x sl s).txu = s.txu := by
    unfold doneLeft
    dsimp only
    split <;> simp
  rw [settleDone_eq, freeSlot, slot_setSlot, slot_of_txu (s := s) (by simp [htxu])]

theorem grows_doneLeft : (doneLeft x sl s).rjn.Grows (settleDone x sl s).rjn := by
  rw [rjn_settleDone]
  exact grows_release1 (grows_sightDone _ _ _ _ _ _ (.refl _))

theorem firstEntry_settleDone (h : s.rjn.reserved ≠ 0) : firstEntry (doneEntry s x sl) s (settleDone x sl s) := by
  have hleft : (writeReserved (doneEntry s x sl) s).rjn.Grows (doneLeft x sl s).rjn := by
    unfold doneLeft
    dsimp only
    split
    · exact grows_doneCredit _ _ _ (.refl _)
    · exact grows_release1 (.refl _)
  obtain ⟨es, hes, -⟩ := hleft.trans (grows_doneLeft x sl s)
  rw [writeReserved_held _ s h, List.append_assoc] at hes
  exact ⟨es, hes⟩

end

/-- A DONE of a REFUSE_AND_WRITE makes no credit: the other reservations are given up. -/
theorem doneLeft_refused {x : Side} {sl : Slot} (s : State) (h : sl.kind = .refuseAndWrite) :
    doneLeft x sl s = release1 (writeReserved (doneEntry s x sl) s) := by
  rw [doneLeft, if_neg (by simp [h])]

/-- A credit of a DONE that stands. -/
theorem doneLeft_stands {x : Side} {sl : Slot} {s : State} (h : sl.kind = .accept) (hpermits : s.permits x = true)
    (hleaf : s.lfc.leaf ≠ .fault) : CreditStands x (paidCredit sl s.rjn.nextSeq s) s (doneLeft x sl s)
      ∧ (doneLeft x sl s).rjn.reserved = s.rjn.reserved - 1 ∧ (doneLeft x sl s).scu = s.scu := by
  set t := writeReserved (doneEntry s x sl) s with ht
  have hworks : Works s t := works_writeReserved _ (.refl s)
  have hcredit : paidCredit sl s.rjn.nextSeq t = paidCredit sl s.rjn.nextSeq s := by
    rw [paidCredit, hworks.svc.tickCount, paidCredit]
  have heq : doneLeft x sl s = toneAccept (createCredit x (paidCredit sl s.rjn.nextSeq s)
      (auditOutcome sl .done (sampleTone t .accept) t)) := by
    rw [doneLeft, if_pos h, ← ht, doneCredit_stands sl _ (by rwa [State.permits, hworks.effMode]) (by simpa [ht] using hleaf),
      hcredit]
  rw [heq]
  refine ⟨(creditStands_accept ..).rebase (by simp [ht]) (by simp [ht]) (by simp [ht]) (by simp [ht]), ?_, by simp [ht]⟩
  rw [(by simp : (toneAccept (createCredit ..)).rjn = t.rjn), ht, reserved_writeReserved]

/-- A credit of a DONE cancelled at its creation. -/
theorem doneLeft_cancelled {x : Side} {sl : Slot} {s : State} (h : sl.kind = .accept)
    (hnot : s.permits x = false ∨ s.lfc.leaf = .fault) :
    doneLeft x sl s = cancelCredit x (cancelReason s x) (paidCredit sl s.rjn.nextSeq s)
      (auditOutcome sl .done .absent (writeReserved (doneEntry s x sl) s)) := by
  have hworks : Works s (writeReserved (doneEntry s x sl) s) := works_writeReserved _ (.refl s)
  have hpermits : (writeReserved (doneEntry s x sl) s).permits x = s.permits x := by
    rw [State.permits, hworks.effMode, State.permits]
  have hreason : cancelReason (writeReserved (doneEntry s x sl) s) x = cancelReason s x := by
    rw [cancelReason, hworks.effMode, hpermits, cancelReason]
  have hcredit : paidCredit sl s.rjn.nextSeq (writeReserved (doneEntry s x sl) s) = paidCredit sl s.rjn.nextSeq s := by
    rw [paidCredit, hworks.svc.tickCount, paidCredit]
  rw [doneLeft, if_pos h, doneCredit_cancelled sl _ (by simpa [hpermits] using hnot), hreason, hcredit]

/-- The credit of a DONE, or its cancellation, changes nothing of its card's entry but its mark. -/
theorem sighting_doneLeft {s : State} {sl : Slot} {e : Sighting} (x : Side) (hs : s.sighting sl.card = some e) :
    ∃ v, (doneLeft x sl s).sighting sl.card = some { e with mark := v } := by
  have hsame : (doneLeft x sl s).scu = s.scu → ∃ v, (doneLeft x sl s).sighting sl.card = some { e with mark := v } :=
    fun h => ⟨e.mark, (sighting_of_scu h _).trans hs⟩
  cases hkind : sl.kind with
  | refuseAndWrite => exact hsame (by rw [doneLeft_refused s hkind]; simp)
  | accept =>
    by_cases hstands : s.permits x = true ∧ s.lfc.leaf ≠ .fault
    · obtain ⟨hpermits, hleaf⟩ := hstands
      exact hsame (doneLeft_stands hkind hpermits hleaf).2.2
    · have hnot : s.permits x = false ∨ s.lfc.leaf = .fault := by
        rw [not_and_or, not_ne_iff, Bool.not_eq_true] at hstands
        exact hstands
      rw [doneLeft_cancelled hkind hnot]
      exact sighting_cancelCredit x _ rfl ((sighting_of_scu (by simp) _).trans hs)

theorem sighting_settleDone {s : State} {sl : Slot} {e : Sighting} (x : Side) (hs : s.sighting sl.card = some e) :
    ∃ e', (settleDone x sl s).sighting sl.card = some e' ∧ e'.inFlight = none
      ∧ (e.seq = sl.oldSeq → e.tag = sl.oldTag → e'.seq = sl.newSeq ∧ e'.tag = sl.newTag) := by
  obtain ⟨v, hv⟩ := sighting_doneLeft x hs
  obtain ⟨e', he', hflight, hnew⟩ := sighting_sightDone x sl.oldSeq sl.oldTag sl.newSeq sl.newTag hv
  exact ⟨e', (sighting_of_scu (by simp [settleDone_eq]) _).trans he', hflight, hnew⟩

/-- A credit cancelled at its creation leaves its entry, and gives up what it would have held (R49, R116). -/
theorem settleDone_cancelled {x : Side} {sl : Slot} {s : State} (hthree : 3 ≤ s.rjn.reserved) (h : sl.kind = .accept)
    (hnot : s.permits x = false ∨ s.lfc.leaf = .fault) : (settleDone x sl s).rjn.reserved + 3 = s.rjn.reserved
      ∧ (settleDone x sl s).sgu = s.sgu ∧ ∃ e ∈ (settleDone x sl s).rjn.journal, e.kind = .creditCancelled
        ∧ e.card = sl.card ∧ e.side = some x ∧ e.reason = cancelReason s x ∧ e.extra = s.rjn.nextSeq.toNat := by
  set t := auditOutcome sl .done .absent (writeReserved (doneEntry s x sl) s) with ht
  set entry := creditEntry t .creditCancelled (cancelReason s x) x (paidCredit sl s.rjn.nextSeq s)
  have hrjn : (doneLeft x sl s).rjn = (writeReserved entry t).rjn := by
    rw [doneLeft_cancelled h hnot, rjn_cancelCredit]
  have htwo : t.rjn.reserved = s.rjn.reserved - 1 := by
    rw [(by simp [ht] : t.rjn = (writeReserved (doneEntry s x sl) s).rjn), reserved_writeReserved]
  have hheld := writeReserved_held entry t (by omega)
  refine ⟨?_, ?_, { entry with seq := t.rjn.nextSeq }, mem_of_grows (grows_doneLeft x sl s) ?_, rfl, rfl, rfl, rfl, rfl⟩
  · rw [reserved_settleDone, hrjn, hheld]
    dsimp only
    omega
  · obtain ⟨-, -, -, hsgu⟩ := settleDone_left x sl s
    rw [hsgu, doneLeft_cancelled h hnot]
    simp
  · rw [hrjn, hheld]
    simp

/-- The queues and the timers of a DONE that makes no credit. -/
theorem settleDone_plain {x : Side} {sl : Slot} {s : State}
    (h : sl.kind = .refuseAndWrite ∨ s.permits x = false ∨ s.lfc.leaf = .fault) :
    (settleDone x sl s).pcu = s.pcu ∧ (settleDone x sl s).ltu = s.ltu := by
  obtain ⟨hltu, hpcu, -⟩ := settleDone_left x sl s
  rw [hltu, hpcu]
  cases hkind : sl.kind with
  | refuseAndWrite =>
    rw [doneLeft_refused s hkind]
    simp
  | accept =>
    rw [doneLeft_cancelled hkind (h.resolve_left (by simp [hkind]))]
    simp

/-- A credit that stands, after the sighting is settled. -/
theorem settleDone_stands {x : Side} {sl : Slot} {s : State} (h : sl.kind = .accept) (hpermits : s.permits x = true)
    (hleaf : s.lfc.leaf ≠ .fault) : CreditStands x (paidCredit sl s.rjn.nextSeq s) s (settleDone x sl s) := by
  obtain ⟨hltu, hpcu, hlfc, hsgu⟩ := settleDone_left x sl s
  obtain ⟨⟨hqueue, hother, hgrant, htone, hwaits⟩, -⟩ := doneLeft_stands h hpermits hleaf
  have hchan : ∀ i, (settleDone x sl s).chan i = (doneLeft x sl s).chan i := fun i => by rw [State.chan, hltu, State.chan]
  exact ⟨(queue_of_pcu hpcu x).trans hqueue, (queue_of_pcu hpcu _).trans hother, by rwa [hlfc],
    by rwa [hsgu, hchan], fun y => (hchan _).trans (hwaits y)⟩

/-- Whatever the DONE, the other queue and the write waits stay. -/
theorem settleDone_leaves (x : Side) (sl : Slot) (s : State) :
    (settleDone x sl s).queue (Side.other x) = s.queue (Side.other x)
      ∧ (settleDone x sl s).chan (writeOf x) = s.chan (writeOf x) := by
  by_cases h : sl.kind = .refuseAndWrite ∨ s.permits x = false ∨ s.lfc.leaf = .fault
  · obtain ⟨hpcu, hltu⟩ := settleDone_plain h
    exact ⟨queue_of_pcu hpcu _, by rw [State.chan, hltu, State.chan]⟩
  · rw [not_or, not_or, Bool.not_eq_false] at h
    obtain ⟨hkind, hpermits, hleaf⟩ := h
    have haccept : sl.kind = .accept := by
      cases hk : sl.kind with
      | accept => rfl
      | refuseAndWrite => exact absurd hk hkind
    have hstands := settleDone_stands haccept hpermits hleaf
    exact ⟨hstands.other, hstands.waits x⟩

/-- A change of the slots set apart from the rest of a frame. -/
theorem keepsBut_txu {ps : List Part} {s t : State} (h : keepsBut (.txu :: ps) s t) :
    keepsBut ps { s with txu := t.txu } t := by
  intro p hp
  by_cases hptx : p = .txu
  · subst hptx
    exact rfl
  · have hsame := h p (by simp [hptx, hp])
    cases p with
    | txu => exact absurd rfl hptx
    | _ => exact hsame

theorem doneEntry_eq (s : State) (x : Side) (sl : Slot) : doneEntry s x sl =
    { s.entry (if sl.kind = .refuseAndWrite then .blockWritten else if x = .u then .entry else .exit) sl.reason (some x) with
      card := sl.card, amount := sl.charge, balance := sl.newBalance, cardSeq := sl.newSeq, tag := sl.newTag
      extra := if sl.kind = .accept then sl.entryStation else 0 } := by
  unfold doneEntry
  cases hkind : sl.kind with
  | refuseAndWrite => simp
  | accept => cases x <;> simp

/-- Settles O35: the entry comes first, then the credit or its cancellation, then the sighting. -/
theorem doneMakesCredit : Obligations.DoneMakesCredit := by
  intro x sl s hopen hformed hbooks hsl
  obtain ⟨hbalanced, hslot, hthree⟩ := settling_inHand 1 hbooks hsl
  set u := s.settling x 1 sl
  have hthree' : 3 ≤ u.rjn.reserved := hthree
  obtain ⟨hother, hwait⟩ := settleDone_leaves x sl u
  have hslots := slot_settleDone x sl u
  have htxu := txu_outcomeTaken (settleDone x sl u)
  have hpcu := pcu_outcomeTaken (settleDone x sl u)
  obtain ⟨e, he, hcard, -⟩ := hbalanced.seen x sl (by rw [kept_none, slot_ledger]; exact hslot)
  have hseen : u.sighting sl.card = some e := (sighting_iff_mem hbalanced.keyed).mpr ⟨he, hcard⟩
  refine ⟨outcomeTaken (settleDone x sl u), exec_writeOutcome (w := .done) hopen hsl rfl, ?_, ?_, ?_,
    responseSlot_outcomeTaken _, ?_, ?_, ?_, ?_, ?_, ?_, ?_, ?_⟩
  · refine keepsBut_txu (outcomeTaken_frame (code := 1) (x := x) (sl := sl) (by simp [leafParts])
      (show keepsBut _ u (settleDone x sl u) from ?_))
    simp [keepsBut, Part.forall_iff, Part.same, leafParts]
  · exact (slot_of_txu htxu x).trans ((hslots x).trans (if_pos rfl))
  · exact (slot_of_txu htxu _).trans ((hslots _).trans (if_neg (by cases x <;> decide)))
  · rw [chan_outcomeTaken]
    exact (congrArg Channel.state hwait).trans (stopped_self _ _)
  · exact (queue_of_pcu hpcu _).trans hother
  · rw [firstEntry, rjn_outcomeTaken, ← doneEntry_eq]
    exact firstEntry_settleDone x sl u (by omega)
  · obtain ⟨e', he', hflight, -⟩ := sighting_settleDone x hseen
    exact ⟨e', (sighting_of_scu (scu_outcomeTaken _) _).trans he', hflight⟩
  · intro e'' he'' hseq htag
    obtain ⟨e', he', -, hnew⟩ := sighting_settleDone (s := u) x he''
    exact ⟨e', (sighting_of_scu (scu_outcomeTaken _) _).trans he', hnew hseq htag⟩
  · intro hkind
    obtain ⟨hsame, -⟩ := settleDone_plain (x := x) (s := u) (.inl hkind)
    refine ⟨(queue_of_pcu hpcu x).trans (queue_of_pcu hsame x), ?_⟩
    rw [rjn_outcomeTaken, reserved_settleDone, doneLeft_refused u hkind, reserved_release1, reserved_writeReserved]
    change u.rjn.reserved - 1 - 1 - 1 + 3 = u.rjn.reserved
    omega
  · intro hkind hpermits hleaf
    have hstands := settleDone_stands (s := u) hkind hpermits hleaf
    obtain ⟨-, hreserved, -⟩ := doneLeft_stands (s := u) hkind hpermits hleaf
    refine ⟨?_, (queue_of_pcu hpcu x).trans hstands.queue, fun hstarts => ?_, fun hclosed hchoice => ?_⟩
    · rw [rjn_outcomeTaken, reserved_settleDone, hreserved]
      change u.rjn.reserved - 1 - 1 + 2 = u.rjn.reserved
      omega
    · rw [tone_outcomeTaken, chan_outcomeTaken]
      exact hstands.tone hstarts
    · rw [lfc_outcomeTaken]
      exact hstands.grant hclosed hchoice
  · intro hkind hnot
    obtain ⟨hsame, -⟩ := settleDone_plain (x := x) (sl := sl) (s := u) (.inr hnot)
    obtain ⟨hreserved, hsgu, hentry⟩ := settleDone_cancelled (s := u) hthree' hkind hnot
    rw [rjn_outcomeTaken, tone_outcomeTaken, hsgu]
    exact ⟨(queue_of_pcu hpcu x).trans (queue_of_pcu hsame x), hreserved, rfl, hentry⟩

end Sys2Proof.Machine
end

section
/-! SUPPORT. ACCEPT_NO_WRITE: its credit, its offer to ADS and its answer (R40, R41, R110, R170 to R172), and a
re-open (R93, R97). -/

namespace Sys2Proof.Machine

/-! ## The offer and the credit -/

/-- A sample's verdict part hangs on the clock, the banks and nothing else that a presentation works on. -/
theorem Works.verdictPart {s u : State} (h : Works s u) (c : Card) (x : Side) (k : VerdictKind) (r : Reason) (g : Rating) :
    verdictPart u c x k r g = verdictPart s c x k r g := by
  simp only [Machine.verdictPart, State.activeBank, h.fru, h.svc.day, h.svc.secs]

/-- The offer of a verdict without a write: its sample bears the verdict part, whatever its write part and the grant
add (R171, R172). -/
theorem auditOffered_of_noWrite {s t u : State} (p : Shown) (r : Reason) (hworks : Works s u) (hu : u.ads = s.ads)
    (ht : (auditOffer (noWriteSample u p r) u).ads.Granted t.ads) :
    auditOffered s t p.card p.side .acceptNoWrite r .nothing (auditArmed s) := by
  obtain ⟨hphase, hcounter, hsample, huntracked⟩ := ht
  have hpart := hworks.verdictPart p.card p.side .acceptNoWrite r .nothing
  unfold auditOffer at hphase hcounter hsample huntracked
  rw [hu] at hphase hcounter hsample huntracked
  unfold auditOffered auditArmed
  cases hp : s.ads.phase with
  | idle =>
    cases hen : s.ads.enable with
    | false =>
      simp only [hp, hen] at hphase hcounter huntracked
      have hsame := huntracked (by simp [hu, hp])
      simp [hsame, hu, hp]
    | true =>
      simp only [hp, hen, if_true] at huntracked
      have hsame := huntracked (by simp only [auditCount]; split <;> simp)
      simp [hsame, auditCount, hu]
  | armed b =>
    simp only [hp] at hphase hcounter hsample
    obtain ⟨v, hv⟩ := hsample _ rfl
    refine ⟨by simp, fun _ => ⟨hphase, hcounter, _, hv, ?_⟩, nofun, nofun⟩
    rw [noWriteSample, hpart]
    simp [Machine.verdictPart]
  | tracking =>
    simp only [hp] at hphase hcounter
    exact ⟨by simp, nofun, nofun, fun _ _ => ⟨by rw [hphase, hu, hp], by rw [hcounter, hu], fun hne => absurd rfl hne⟩⟩
  | closing =>
    simp only [hp] at huntracked
    have hsame := huntracked (by simp [hu, hp])
    simp [hsame, hu, hp]
  | valid =>
    simp only [hp] at huntracked
    have hsame := huntracked (by simp [hu, hp])
    simp [hsame, hu, hp]

/-- The credit of an ACCEPT_NO_WRITE (R110, R170). -/
def noWriteCredit (p : Shown) (kind : CreditKind) (w : Word32) (s : State) : Credit :=
  { kind := kind, card := some p.card.number, creator := w, tick := s.svc.tickCount, audit := auditArmed s }

theorem acceptNoWrite_stands (p : Shown) (kind : CreditKind) (r : Reason) (w : Word32) (s : State) :
    CreditStands p.side (noWriteCredit p kind w s) s (acceptNoWrite p kind r w s) :=
  (creditStands_accept p.side (noWriteCredit p kind w s) (auditOffer (noWriteSample s p r) s)).rebase
    (by simp) (by simp) (by simp) (by simp)

/-- A state that differs from a presentation's in the journal, the sightings and the notices alone. -/
structure Unmoved (s u : State) : Prop where
  works : Works s u
  pcu : u.pcu = s.pcu
  lfc : u.lfc = s.lfc
  ltu : u.ltu = s.ltu
  sgu : u.sgu = s.sgu
  ads : u.ads = s.ads
  txu : u.txu = s.txu
  rck : u.rck = s.rck
  power : u.powered = s.powered ∧ u.pending = s.pending

/-- An ACCEPT_NO_WRITE answered: its frame, its verdict, its credit and its offer. -/
theorem noWrite_presented {s u : State} {x : Side} {image : List Byte} (kind : CreditKind) (r : Reason) (w : Word32)
    (h : Unmoved (s.shown x image) u) :
    let c := readCard image
    let p : Shown := { side := x, card := c }
    let t := presented (acceptNoWrite p kind r w u, noWriteVerdict p r (s.shown x image))
    keepsBut [.lpt, .sgu, .ltu, .rjn, .stl, .svc, .scu, .pcu, .lfc, .ads] s t
      ∧ t.lpt.responseSlot = some { kind := 0x81, overrun := false
                                    body := 0 :: verdictBytes 2 r.code 0 c.balance (lowCue s c c.balance) [] }
      ∧ CreditStands x { kind := kind, card := some c.number, creator := w, tick := s.svc.tickCount
                         audit := auditArmed s } s t
      ∧ auditOffered s t c x .acceptNoWrite r .nothing (auditArmed s)
      ∧ t.rjn = u.rjn ∧ t.scu = u.scu := by
  intro c p t
  obtain ⟨hworks, hpcu, hlfc, hltu, hsgu, hads, htxu, hrck, hpower, hpending⟩ := h
  have htads : t.ads = (acceptNoWrite p kind r w u).ads := presented_keeps _ .ads (by simp)
  have htpcu : t.pcu = (acceptNoWrite p kind r w u).pcu := presented_keeps _ .pcu (by simp)
  have htlfc : t.lfc = (acceptNoWrite p kind r w u).lfc := presented_keeps _ .lfc (by simp)
  have htscu : t.scu = (acceptNoWrite p kind r w u).scu := presented_keeps _ .scu (by simp)
  obtain ⟨httone, -, -⟩ := presented_sgu (acceptNoWrite p kind r w u, noWriteVerdict p r (s.shown x image))
  have hchan := chan_presented (acceptNoWrite p kind r w u, noWriteVerdict p r (s.shown x image))
  refine ⟨?_, presented_responseSlot _, ?_, ?_, (rjn_presented _).trans (by simp), htscu.trans (by simp)⟩
  · refine presented_frame x image (by simp) ?_
    simp [keepsBut, Part.forall_iff, Part.same, hworks.setup, hworks.fru, hworks.inp, htxu, hrck, hpower, hpending]
  · have hcredit : noWriteCredit p kind w u = { kind := kind, card := some c.number, creator := w
                                                tick := s.svc.tickCount, audit := auditArmed s } := by
      rw [noWriteCredit, hworks.svc.tickCount, armed_of_ads hads]
      rfl
    obtain ⟨hqueue, hother, hgrant, htone, hwaits⟩ := (acceptNoWrite_stands p kind r w u).rebase hpcu hlfc hltu hsgu
    rw [hcredit] at hqueue
    exact ⟨(queue_of_pcu htpcu x).trans hqueue, (queue_of_pcu htpcu _).trans hother, htlfc ▸ hgrant,
      fun hstarts => ⟨httone.trans (htone hstarts).1, (hchan _).trans (htone hstarts).2⟩,
      fun y => (hchan _).trans (hwaits y)⟩
  · have hgranted := granted_accept x (noWriteCredit p kind w u) (auditOffer (noWriteSample u p r) u)
    exact auditOffered_of_noWrite (s := s.shown x image) p r hworks hads (htads ▸ hgranted)

/-! ## A re-open (R93, R97) -/

theorem consistent_of {c : Card} {e : Sighting} (h : Consistent c e) : consistent e c.seq c.tag = true := by
  unfold consistent
  rcases h with ⟨hseq, htag⟩ | hahead
  · simp [hseq, htag, seqOrder]
  · simp [hahead]

theorem screenSighting_consistent {s : State} {p : Shown} {e : Sighting} (hs : s.sighting p.card.number = some e)
    (ht : e.tear = none) (hc : Consistent p.card e) : screenSighting p s = screenFresh p s := by
  unfold screenSighting
  rw [hs]
  simp only [ht, consistent_of hc, if_true]

theorem openMark_open {s : State} {n : Nat} {x : Side} {e : Sighting} {m : Mark} (hs : s.sighting n = some e)
    (hm : e.mark = some m) (hdir : m.dir = x) (hreached : s.reached m.deadline = false) : openMark s n x = true := by
  rw [openMark, hs]
  simp [hm, hdir, hreached]

/-- A re-open keeps its card's sequence and tag, takes its mark, and names this lane and now (R93, R97). -/
theorem scu_sightReopen {s : State} {p : Shown} {e : Sighting} (hs : s.sighting p.card.number = some e) :
    (sightReopen p s).sighting p.card.number = some { e with
        mark := none, event := acceptEvent p.side, day := s.svc.day, secs := s.svc.secs
        station := s.setup.stationCode, lane := s.laneAddr, origin := .localOrigin }
      ∧ (sightReopen p s).scu.markOrder = s.scu.markOrder.filter (· != p.card.number)
      ∧ (sightReopen p s).scu.deny = s.scu.deny := by
  have hcard : e.card = p.card.number := card_of_sighting hs
  have hdropped : (dropMark p.card.number s).sighting p.card.number = some { e with mark := none } := by
    rw [sighting_map (s := s) (f := fun e => if e.card = p.card.number then { e with mark := none } else e)
      (fun y => by split <;> rfl) rfl, hs]
    simp [hcard]
  unfold sightReopen
  dsimp only
  rw [hdropped]
  dsimp only
  exact ⟨(touched (e := Sighting.setLocal { e with mark := none } (dropMark p.card.number s) e.seq e.tag
    (acceptEvent p.side)) hcard _).1, rfl, rfl⟩

/-- Settles O33: the entry comes before the credit, and the mark is consumed with the sighting kept. -/
theorem reopenAccepts : Obligations.ReopenAccepts := by
  intro x image s hp hs e m he htear hconsistent hmark hdir hreached c
  have hlen := hs.1.1
  have hfree := hp.free
  set p : Shown := { side := x, card := c }
  set v := sightReopen p (s.shown x image) with hv
  set w := writeFree (shownEntry v p .reopen .reopen) v with hw
  have hworks : Works (s.shown x image) v := works_sightReopen p (.refl _)
  have hentry : shownEntry v p .reopen .reopen = s.shows x c .reopen .reopen := hworks.shows x c _ _
  have hunmoved : Unmoved (s.shown x image) (reserve 1 w) :=
    ⟨works_reserve 1 (works_writeFree _ hworks), by simp [hw, hv], by simp [hw, hv], by simp [hw, hv], by simp [hw, hv],
      by simp [hw, hv], by simp [hw, hv], by simp [hw, hv], by simp [hw, hv], by simp [hw, hv]⟩
  have hpresent : present x image (s.shown x image) = (acceptNoWrite p .reopen .reopen s.rjn.nextSeq (reserve 1 w),
      noWriteVerdict p .reopen (s.shown x image)) := by
    have hnext : v.rjn.nextSeq = s.rjn.nextSeq := by
      rw [hv]
      simp
      rfl
    have hopen : openMark (s.shown x image) p.card.number p.side = true := openMark_open (s := s.shown x image) he hmark hdir hreached
    rw [present_sound hp hs, screenSighting_consistent (s := s.shown x image) (p := p) he htear hconsistent, screenFresh,
      if_pos hopen, ← hnext]
    rfl
  obtain ⟨hkeeps, hresponse, hstands, hoffered, hrjn, hscu⟩ := noWrite_presented (x := x) .reopen .reopen s.rjn.nextSeq hunmoved
  have hvrjn : v.rjn = s.rjn := by
    rw [hv]
    simp
    rfl
  have hvfree : v.free = s.free := by rw [State.free, hvrjn, State.free]
  have hwrjn := writeFree_room (shownEntry v p .reopen .reopen) v (by omega)
  have hwfree := free_writeFree (shownEntry v p .reopen .reopen) (s := v) (by omega)
  have hwreserved : w.rjn.reserved = s.rjn.reserved := (writeFree_reserved ..).trans (congrArg Rjn.reserved hvrjn)
  obtain ⟨hjournal, hreserved, -⟩ := reserve_rjn 1 w
  obtain ⟨hsighting, hmarks, hdeny⟩ := scu_sightReopen (s := s.shown x image) (p := p) he
  have hscuv : (reserve 1 w).scu = v.scu := by simp [hw]
  refine ⟨presented (present x image (s.shown x image)), auditArmed s, exec_cardPresent hp.1 hlen, ?_⟩
  rw [hpresent]
  refine ⟨hkeeps, hresponse, ?_, ?_, hstands.queue, hstands.other, hstands.grant, hstands.tone, hoffered, ?_, ?_, ?_⟩
  · rw [onlyEntry, hrjn, hjournal, hw, hwrjn, hentry, hvrjn]
  · rw [hrjn, hreserved, hwreserved, hw, hwfree, hvfree, Nat.min_eq_left (show 1 ≤ s.free - 1 by omega)]
  · rw [sighting_of_scu (hscu.trans hscuv)]
    refine hsighting.trans ?_
    cases x <;> rfl
  · rw [hscu, hscuv]
    exact hmarks
  · rw [hscu, hscuv]
    exact hdeny

end Sys2Proof.Machine
end

section
/-! SUPPORT. The tear rows of a presentation: a row that resolves and screens afresh, and TEAR_COMPLETED (R54, R55). -/

namespace Sys2Proof.Machine

/-! ## What a resolution leaves for the screen -/

section
variable {s t : State}

theorem Works.entryAge (h : Works s t) (c : Card) : entryAge t c = entryAge s c := by
  rw [Machine.entryAge, h.now, Machine.entryAge]

theorem Works.isPassback (h : Works s t) (c : Card) : isPassback t c = isPassback s c := by
  rw [Machine.isPassback, h.setup, h.entryAge, h.fares, Machine.isPassback]

theorem Works.classifyEntry (h : Works s t) (c : Card) : classifyEntry t c = classifyEntry s c := by
  simp only [Machine.classifyEntry, entryReason, State.rowMaximum, State.maxima, State.activeBank, h.setup, h.fares, h.fru,
    h.svc.day]

theorem Works.entryPurse (h : Works s t) (c : Card) (k : Classified) : entryPurse t c k = entryPurse s c k := by
  simp only [Machine.entryPurse, h.setup, h.fares, h.svc.day]

theorem Works.classifyExit (h : Works s t) (c : Card) : classifyExit t c = classifyExit s c := by
  have hcol : t.colMaximum s.setup.zone = s.colMaximum s.setup.zone := by
    simp only [State.colMaximum, State.maxima, State.activeBank, h.fru]
  rw [Machine.classifyExit, h.setup, h.fares, h.entryAge, h.svc.day, hcol, Machine.classifyExit]

end

theorem deny_resolveRow (n : Nat) (r : Tear) (row : TearRow) (q g : Word16) (s : State) :
    (resolveRow n r row q g s).scu.deny = s.scu.deny := by
  have hresolved : ∀ w, (resolveTear n r w s).scu.deny = s.scu.deny := fun w => by
    unfold resolveTear
    dsimp only
    split
    · show (writeReserved _ s).scu.deny = _
      simp
    · simp
  cases row with
  | lostToOther =>
    have hlost : ∀ u : State, (sightLost n q g u).scu.deny = u.scu.deny := fun u => by
      unfold sightLost
      split <;> rfl
    simp [resolveRow, hlost, hresolved]
  | cloneEqual => rfl
  | cloneBehind => rfl
  | _ => simp [resolveRow, hresolved]

/-! ## The sighting of a card screened afresh (R93, R96, R98) -/

theorem sighting_issue_clear {s : State} {e : Sighting} (p : Shown) (i : Issue) (hs : s.sighting p.card.number = some e)
    (ht : e.tear = none) : ∃ e', (issue p i s).sighting p.card.number = some e' ∧ e'.tear = none
      ∧ e'.inFlight.isSome = true := by
  have hcard : e.card = p.card.number := card_of_sighting hs
  have hseen : (awaitState p i s).sighting p.card.number = some e := (sighting_of_scu (by simp [awaitState]) _).trans hs
  rw [issue_eq, sightIssue, hseen]
  dsimp only
  exact ⟨_, (touched (e := { e.setLocal (awaitState p i s) (i.flight p s).oldSeq (i.flight p s).oldTag i.event with
    inFlight := some (i.flight p s) }) hcard _).1, ht, rfl⟩

theorem scu_refuseSeen (p : Shown) (e : Entry) (r : Reason) (s : State) :
    (refuseSeen p e r s).1.scu = (sightRefusal p.card.number p.card.seq p.card.tag s).scu := by
  simp [refuseSeen, refuseWith]

theorem scu_accept (p : Shown) (k : Classified) (s : State) :
    (accept p k s).1.scu = (issue p (acceptIssue p k s) s).scu := by simp [accept]

theorem scu_refuseAndWrite (p : Shown) (s : State) :
    (refuseAndWrite p s).1.scu = (issue p (deniedIssue p) s).scu := by simp [refuseAndWrite]

theorem screenFresh_clear {s : State} {p : Shown} {e : Sighting} (hs : s.sighting p.card.number = some e)
    (ht : e.tear = none) : ∃ e', (screenFresh p s).1.sighting p.card.number = some e' ∧ e'.tear = none := by
  have hrefused : ∀ d r, ∃ e', (refuseSeen p d r s).1.sighting p.card.number = some e' ∧ e'.tear = none := fun d r => by
    obtain ⟨e', he', hclear⟩ := tear_sightRefusal p.card.seq p.card.tag hs
    exact ⟨e', (sighting_of_scu (scu_refuseSeen p d r s) _).trans he', hclear.trans ht⟩
  have hissued : ∀ (i : Issue) (u : State), u.scu = (issue p i s).scu →
      ∃ e', u.sighting p.card.number = some e' ∧ e'.tear = none := fun i u hu => by
    obtain ⟨e', he', hclear, -⟩ := sighting_issue_clear p i hs ht
    exact ⟨e', (sighting_of_scu hu _).trans he', hclear⟩
  unfold screenFresh
  split
  · obtain ⟨hsighting, -⟩ := scu_sightReopen hs
    exact ⟨_, (sighting_of_scu (s := sightReopen p s) (by simp [reopen]) _).trans hsighting, ht⟩
  split
  · exact hissued _ _ (scu_refuseAndWrite p s)
  split
  · unfold entrySteps
    split
    · exact hrefused _ _
    · dsimp only
      split
      · exact hrefused _ _
      · exact hissued _ _ (scu_accept p _ s)
  · unfold exitSteps
    dsimp only
    split
    · exact hissued _ _ (scu_accept p _ s)
    · exact hrefused _ _

/-- A verdict that issues an image after a resolution: its slot, its in-flight record and its reservations. -/
theorem issued_afresh {v t : State} {p : Shown} {e : Sighting} {i : Issue} (htxu : t.txu = (issue p i v).txu)
    (hscu : t.scu = (issue p i v).scu) (hrjn : t.rjn = (issue p i v).rjn) (hs : v.sighting p.card.number = some e)
    (ht : e.tear = none) (hfree : 64 ≤ v.free) : t.slot p.side = some (i.slot p v)
      ∧ (∀ e', t.sighting p.card.number = some e' → e'.inFlight.isSome = true)
      ∧ t.rjn.reserved = v.rjn.reserved + 3 := by
  refine ⟨(slot_of_txu htxu _).trans ((slot_issue ..).trans (if_pos rfl)), fun e' he' => ?_, ?_⟩
  · obtain ⟨e'', he'', -, hflight⟩ := sighting_issue_clear p i hs ht
    obtain rfl := Option.some.inj (he'.symm.trans ((sighting_of_scu hscu _).trans he''))
    exact hflight
  · obtain ⟨-, hreserved, -⟩ := reserve_rjn 3 v
    rw [hrjn, rjn_issue, hreserved, Nat.min_eq_left (by omega)]

/-! ## The rows that resolve (R54, R55; log 28) -/

/-- Row 2 of R54 alone is the new image at the side of the tear. -/
theorem tearRow_newSameSide {r : Tear} {x : Side} {q g : Word16} (h : tearRow r x q g = .newSameSide) :
    q = r.newSeq ∧ g = r.newTag ∧ ¬(q = r.oldSeq ∧ g = r.oldTag) ∧ x = r.side := by
  unfold tearRow at h
  split_ifs at h with hold hnew hside
  exact ⟨hnew.1, hnew.2, hold, hside⟩

theorem screenTear_fresh {s : State} {p : Shown} {e : Sighting} {r : Tear} {w : Bool}
    (hrow : (tearRow r p.side p.card.seq p.card.tag).verdict = some w)
    (hnot : tearRow r p.side p.card.seq p.card.tag = .newSameSide → r.kind ≠ .accept) : screenTear p e r s
      = screenFresh p (resolveRow p.card.number r (tearRow r p.side p.card.seq p.card.tag) p.card.seq p.card.tag s) := by
  unfold screenTear
  generalize tearRow r p.side p.card.seq p.card.tag = row at hrow hnot
  cases row with
  | newSameSide => exact if_neg (hnot rfl)
  | cloneEqual => cases hrow
  | cloneBehind => cases hrow
  | _ => rfl

theorem screenSighting_torn {s : State} {p : Shown} {e : Sighting} {r : Tear} (hs : s.sighting p.card.number = some e)
    (ht : e.tear = some r) : screenSighting p s = screenTear p e r s := by
  unfold screenSighting
  rw [hs]
  simp only [ht]

theorem openMark_none {s : State} {n : Nat} {e : Sighting} (x : Side) (hs : s.sighting n = some e) (hm : e.mark = none) :
    openMark s n x = false := by
  rw [openMark, hs]
  simp [hm]

/-- What a row that resolves leaves for the screen: the tear gone, its other reservation given up, the first entry
written. -/
structure Resolved (s : State) (x : Side) (c : Card) (e : Sighting) (r : Tear) (w : Bool) (v : State) : Prop where
  works : Works s v
  entry : v.rjn.journal = s.rjn.journal ++ [{ s.resolution c.number r w with seq := s.rjn.nextSeq }]
  reserved : v.rjn.reserved + 2 = s.rjn.reserved
  free : 64 ≤ v.free
  txu : v.txu = s.txu
  rck : v.rck = s.rck
  deny : v.scu.deny = s.scu.deny
  clear : ∃ e', v.sighting c.number = some e' ∧ e'.tear = none ∧ e'.mark = e.mark

theorem resolved_resolveRow {s : State} {x : Side} {c : Card} {e : Sighting} {r : Tear} {w : Bool}
    (hbalanced : s.ledger.Balanced none 0 0) (hfree : 64 ≤ s.free) (hs : s.sighting c.number = some e)
    (ht : e.tear = some r) (hw : tearVerdict r c.seq c.tag = some w) :
    Resolved s x c e r w (resolveRow c.number r (tearRow r x c.seq c.tag) c.seq c.tag s) := by
  have htwo := reserved_of_tear hbalanced le_rfl hs (by rw [ht]; rfl)
  have hrow : (tearRow r x c.seq c.tag).verdict = some w := (verdict_tearRow ..).trans hw
  obtain ⟨hreserved, hjournal⟩ := rjn_resolveRow (n := c.number) c.seq c.tag hrow htwo (by omega)
  exact ⟨works_resolveRow _ _ _ _ _ (.refl s), hjournal, hreserved,
    hfree.trans (free_resolveRow _ r _ c.seq c.tag htwo (by omega)), by simp, by simp, deny_resolveRow ..,
    clear_resolveRow r c.seq c.tag hs (by rw [TearRow.resolves, hrow]; rfl)⟩

section
variable {s v : State} {x : Side} {c : Card} {e : Sighting} {r : Tear} {w : Bool}

/-- The parts of a presentation's state that its verdict fixes. -/
theorem presented_parts (o : State × Verdict) :
    (presented o).txu = o.1.txu ∧ (presented o).scu = o.1.scu ∧ (presented o).rck = o.1.rck :=
  ⟨presented_keeps o .txu (by simp), presented_keeps o .scu (by simp), presented_keeps o .rck (by simp)⟩

/-- The resolution is the first entry, and the card's entry holds no pending-tear, whatever the screen answers. -/
theorem Resolved.screened (h : Resolved s x c e r w v) :
    let t := presented (screenFresh { side := x, card := c } v)
    firstEntry (s.resolution c.number r w) s t ∧ ∃ e', t.sighting c.number = some e' ∧ e'.tear = none := by
  intro t
  obtain ⟨e₁, he₁, hclear, -⟩ := h.clear
  obtain ⟨-, hscu, -⟩ := presented_parts (screenFresh { side := x, card := c } v)
  obtain ⟨e', he', htear⟩ := screenFresh_clear (p := { side := x, card := c }) he₁ hclear
  obtain ⟨es, hes, -⟩ : v.rjn.Grows t.rjn := by
    rw [rjn_presented]
    exact grows_screenFresh _ (.refl _)
  refine ⟨⟨es, ?_⟩, e', (sighting_of_scu hscu _).trans he', htear⟩
  rw [hes, h.entry, List.append_assoc]
  rfl

/-- A card that the list covers is denied after the resolution. -/
theorem Resolved.denied (h : Resolved s x c e r w v) (hmark : e.mark = none) (hlisted : ¬s.allows c) :
    let t := presented (screenFresh { side := x, card := c } v)
    ∃ sl, t.slot x = some sl ∧ sl.card = c.number ∧ sl.kind = .refuseAndWrite ∧ sl.oldSeq = c.seq
      ∧ (∀ e', t.sighting c.number = some e' → e'.inFlight.isSome = true) ∧ t.rjn.reserved = s.rjn.reserved + 1 := by
  intro t
  obtain ⟨e₁, he₁, hclear, hsame⟩ := h.clear
  set p : Shown := { side := x, card := c }
  have hmatch : (denyMatch v.scu.deny c.number).isSome = true := by
    rw [isSome_denyMatch, h.deny]
    by_contra hnone
    exact hlisted fun d hd hcovers => hnone ⟨d, hd, hcovers⟩
  have hfresh : screenFresh p v = refuseAndWrite p v := by
    rw [screenFresh, openMark_none x he₁ (hsame.trans hmark), if_neg (by simp), if_pos hmatch]
  obtain ⟨htxu, hscu, -⟩ := presented_parts (refuseAndWrite p v)
  obtain ⟨hslot, hflight, hreserved⟩ := issued_afresh (t := presented (refuseAndWrite p v)) (p := p) (i := deniedIssue p) (v := v)
    (htxu.trans (by simp [refuseAndWrite])) (hscu.trans (scu_refuseAndWrite p v))
    ((rjn_presented _).trans (by simp [refuseAndWrite])) he₁ hclear h.free
  have hheld := h.reserved
  rw [show t = presented (refuseAndWrite p v) from congrArg presented hfresh]
  exact ⟨_, hslot, rfl, rfl, rfl, hflight, by omega⟩

/-- A card that no entry covers and whose charge passes is accepted after the resolution. -/
theorem Resolved.accepted (h : Resolved s x c e r w v) (hmark : e.mark = none) (hallowed : s.allows c)
    (hentry : x = .u → isPassback s c = false ∧ entryPurse s c (classifyEntry s c) = none)
    (hexit : x = .p → (classifyExit s c).rating.passed = true) :
    let t := presented (screenFresh { side := x, card := c } v)
    ∃ sl, t.slot x = some sl ∧ sl.card = c.number ∧ sl.kind = .accept ∧ sl.oldSeq = c.seq
      ∧ (∀ e', t.sighting c.number = some e' → e'.inFlight.isSome = true) ∧ t.rjn.reserved = s.rjn.reserved + 1 := by
  intro t
  obtain ⟨e₁, he₁, hclear, hsame⟩ := h.clear
  set p : Shown := { side := x, card := c }
  set k := if x = .u then classifyEntry v c else classifyExit v c
  have hfresh : screenFresh p v = accept p k v := screenFresh_accepts (openMark_none x he₁ (hsame.trans hmark))
    (by rwa [State.allows, h.deny])
    (by rwa [h.works.isPassback, h.works.classifyEntry, h.works.entryPurse]) (by rwa [h.works.classifyExit])
  obtain ⟨htxu, hscu, -⟩ := presented_parts (accept p k v)
  obtain ⟨hslot, hflight, hreserved⟩ := issued_afresh (t := presented (accept p k v)) (p := p) (i := acceptIssue p k v) (v := v)
    (htxu.trans (by simp [accept])) (hscu.trans (scu_accept p k v))
    ((rjn_presented _).trans (by simp [accept])) he₁ hclear h.free
  have hheld := h.reserved
  rw [show t = presented (accept p k v) from congrArg presented hfresh]
  exact ⟨_, hslot, rfl, rfl, rfl, hflight, by omega⟩

/-- PASSBACK after the resolution issues nothing. -/
theorem Resolved.passback (h : Resolved s .u c e r w v) (hmark : e.mark = none) (hallowed : s.allows c)
    (hpassback : isPassback s c = true) :
    let t := presented (screenFresh { side := .u, card := c } v)
    t.slot .u = s.slot .u ∧ t.rck = s.rck ∧ t.rjn.reserved + 2 = s.rjn.reserved := by
  intro t
  obtain ⟨e₁, he₁, hclear, hsame⟩ := h.clear
  set p : Shown := { side := .u, card := c }
  have hmatch : ¬(denyMatch v.scu.deny c.number).isSome = true := by
    rw [isSome_denyMatch, h.deny]
    rintro ⟨d, hd, hcovers⟩
    exact hallowed d hd hcovers
  have hfresh : screenFresh p v = refusePassback p v := by
    rw [screenFresh, openMark_none .u he₁ (hsame.trans hmark), if_neg (by simp), if_neg hmatch]
    exact if_pos ((h.works.isPassback c).trans hpassback)
  obtain ⟨htxu, -, hrck⟩ := presented_parts (screenFresh p v)
  refine ⟨slot_of_txu (htxu.trans ?_) .u, hrck.trans ?_, ?_⟩
  · rw [hfresh]
    simp [refusePassback, h.txu]
  · rw [hfresh]
    simp [refusePassback, h.rck]
  · have hrjn : (refusePassback p v).1.rjn.reserved = v.rjn.reserved := by
      simp [refusePassback, refuseSeen, refuseWith, writeFree_reserved]
    rw [rjn_presented, hfresh, hrjn]
    exact h.reserved

end

/-! ## TEAR_COMPLETED (R40, R55, R97; logs 20, 43) -/

theorem tearRow_completes {r : Tear} {x : Side} {q g : Word16} (hseq : q = r.newSeq) (htag : g = r.newTag)
    (hnot : ¬(q = r.oldSeq ∧ g = r.oldTag)) (hside : x = r.side) : tearRow r x q g = .newSameSide := by
  rw [tearRow, if_neg hnot, if_pos ⟨hseq, htag⟩, if_pos hside]

/-- The card's entry at the new image, with the event and the moment of its completion (R97). -/
theorem sighting_sightCompleted {s : State} {p : Shown} {e : Sighting} (r : Tear) (hs : s.sighting p.card.number = some e) :
    (sightCompleted p (resolveTear p.card.number r true s)).sighting p.card.number = some { e with
      seq := r.newSeq, tag := r.newTag, tear := none, event := acceptEvent p.side, day := s.svc.day, secs := s.svc.secs } := by
  have hcard : e.card = p.card.number := card_of_sighting hs
  have hworks : Works s (resolveTear p.card.number r true s) := works_resolveTear _ _ _ (.refl s)
  have hresolved := sighting_resolveTear r true hs
  rw [if_pos rfl] at hresolved
  rw [sightCompleted, hresolved]
  dsimp only
  rw [hworks.svc.day, hworks.svc.secs]
  exact (touched (e := { e with
    seq := r.newSeq, tag := r.newTag, tear := none, event := acceptEvent p.side, day := s.svc.day, secs := s.svc.secs })
    hcard _).1

/-- A TEAR_COMPLETED as its credit finds it: both entries written, the sighting at the new image. -/
def completedState (p : Shown) (r : Tear) (s : State) : State :=
  let t := sightCompleted p (resolveTear p.card.number r true s)
  writeFree { shownEntry t p .tearCompleted .tearCompleted with extra := r.tearSeq.toNat } t

theorem unmoved_completedState (p : Shown) (r : Tear) (s : State) : Unmoved s (completedState p r s) :=
  ⟨works_writeFree _ (works_sightCompleted p (works_resolveTear _ _ _ (.refl s))), by simp [completedState],
    by simp [completedState], by simp [completedState], by simp [completedState], by simp [completedState],
    by simp [completedState], by simp [completedState], by simp [completedState], by simp [completedState]⟩

theorem rjn_completedState {s : State} (x : Side) (c : Card) (r : Tear) (hone : s.rjn.reserved ≠ 0) (hfree : s.free ≠ 0) :
    (completedState { side := x, card := c } r s).rjn.journal = s.rjn.journal
        ++ [{ s.resolution c.number r true with seq := s.rjn.nextSeq },
            { s.shows x c .tearCompleted .tearCompleted with extra := r.tearSeq.toNat, seq := s.rjn.nextSeq + 1 }]
      ∧ (completedState { side := x, card := c } r s).rjn.reserved = s.rjn.reserved - 1 := by
  set p : Shown := { side := x, card := c }
  set t := sightCompleted p (resolveTear c.number r true s) with ht
  have hrjn : t.rjn = (resolveTear c.number r true s).rjn := by rw [ht]; simp
  have hroom : t.free = s.free := by
    rw [State.free, hrjn]
    exact free_resolveTear c.number r true hone
  have hworks : Works s t := works_sightCompleted p (works_resolveTear _ _ _ (.refl s))
  obtain ⟨hjournal, hreserved, hnext⟩ := rjn_resolveTear_eq c.number r true hone
  have hentry : shownEntry t p .tearCompleted .tearCompleted = s.shows x c .tearCompleted .tearCompleted := hworks.shows x c _ _
  rw [completedState, ← ht, hentry, writeFree_room _ t (by omega), hrjn]
  dsimp only
  rw [hjournal, hreserved, hnext, List.append_assoc]
  exact ⟨rfl, rfl⟩

theorem tear_completes {s : State} {x : Side} {image : List Byte} (hp : Presentable s x) (hs : Sound s x image)
    {e : Sighting} {r : Tear} (he : s.sighting (readCard image).number = some e) (htear : e.tear = some r)
    (hrow : tearRow r x (readCard image).seq (readCard image).tag = .newSameSide) (hkind : r.kind = .accept) :
    present x image (s.shown x image) = (acceptNoWrite { side := x, card := readCard image } .tearCompleted .tearCompleted
        (s.rjn.nextSeq + 1) (completedState { side := x, card := readCard image } r (s.shown x image)),
      noWriteVerdict { side := x, card := readCard image } .tearCompleted (s.shown x image)) := by
  have htwo := reserved_of_tear ((books_iff s).mp hp.books).2 le_rfl he (by rw [htear]; rfl)
  set p : Shown := { side := x, card := readCard image }
  obtain ⟨-, -, hnext⟩ := rjn_resolveTear_eq (s := s.shown x image) (readCard image).number r true
    (show s.rjn.reserved ≠ 0 by omega)
  have hseq : (sightCompleted p (resolveTear p.card.number r true (s.shown x image))).rjn.nextSeq = s.rjn.nextSeq + 1 := by
    rw [(by simp : (sightCompleted p (resolveTear p.card.number r true (s.shown x image))).rjn
      = (resolveTear p.card.number r true (s.shown x image)).rjn)]
    exact hnext
  rw [present_sound hp hs, screenSighting_torn (s := s.shown x image) (p := p) he htear, screenTear, hrow]
  dsimp only
  rw [if_pos hkind, tearCompleted, hseq]
  rfl

/-- Settles O34: a row that resolves writes its entry before the screen goes on; row 2 of an ACCEPT tear writes both
entries before its credit. -/
theorem tearRowsScreen : Obligations.TearRowsScreen := by
  intro x image s hp hs e r he htear c completes
  have hfree := hp.free
  have hlen := hs.1.1
  have hbalanced := ((books_iff s).mp hp.books).2
  refine ⟨fun hnot w hw => ?_, ?_⟩
  · have hrow : (tearRow r x c.seq c.tag).verdict = some w := (verdict_tearRow ..).trans hw
    have hresolved := resolved_resolveRow (s := s.shown x image) (x := x) hbalanced hfree he htear hw
    set v := resolveRow c.number r (tearRow r x c.seq c.tag) c.seq c.tag (s.shown x image) with hv
    have hpresent : present x image (s.shown x image) = screenFresh { side := x, card := c } v := by
      rw [present_sound hp hs, screenSighting_torn (s := s.shown x image) (p := { side := x, card := c }) he htear]
      refine screenTear_fresh hrow fun hsame hkind => hnot ?_
      obtain ⟨hseq, htag, hold, hside⟩ := tearRow_newSameSide hsame
      exact ⟨hseq, htag, hold, hside, hkind⟩
    obtain ⟨hfirst, e', he', hclear⟩ := hresolved.screened
    refine ⟨_, e', exec_cardPresent hp.1 hlen, ?_⟩
    rw [hpresent]
    refine ⟨hfirst, he', hclear, fun hmark hlisted => ?_, fun hmark hallowed hentry hexit => ?_, ?_⟩
    · obtain ⟨sl, hslot, hcard, hkind, hseq, hflight, hreserved⟩ := hresolved.denied hmark hlisted
      exact ⟨sl, hslot, hcard, hkind, hseq, hflight e' he', hreserved⟩
    · obtain ⟨sl, hslot, hcard, hkind, hseq, hflight, hreserved⟩ := hresolved.accepted hmark hallowed hentry hexit
      exact ⟨sl, hslot, hcard, hkind, hseq, hflight e' he', hreserved⟩
    · rintro hmark hallowed rfl hpassback
      obtain ⟨hslot, hrck, hreserved⟩ := hresolved.passback hmark hallowed hpassback
      obtain ⟨-, -, -, -, -, -, -, hempty, -⟩ := hp
      exact ⟨hslot.trans hempty, hrck, hreserved⟩
  · rintro ⟨hseq, htag, hold, hside, hkind⟩
    have htwo := reserved_of_tear hbalanced le_rfl he (by rw [htear]; rfl)
    have hpresent := tear_completes hp hs he htear (tearRow_completes hseq htag hold hside) hkind
    set p : Shown := { side := x, card := c }
    obtain ⟨hkeeps, hresponse, hstands, hoffered, hrjn, hscu⟩ := noWrite_presented .tearCompleted .tearCompleted
      (s.rjn.nextSeq + 1) (unmoved_completedState p r (s.shown x image))
    obtain ⟨hjournal, hreserved⟩ := rjn_completedState (s := s.shown x image) x c r (show s.rjn.reserved ≠ 0 by omega)
      (show s.free ≠ 0 by omega)
    refine ⟨_, auditArmed s, exec_cardPresent hp.1 hlen, ?_⟩
    rw [hpresent]
    refine ⟨hkeeps, hresponse, ?_, ?_, hstands.queue, hstands.other, hstands.tone, hoffered, ?_⟩
    · rw [hrjn]
      exact hjournal
    · rw [hrjn]
      exact (congrArg (· + 1) hreserved).trans (Nat.sub_add_cancel (show 1 ≤ s.rjn.reserved by omega))
    · have hcompleted : (completedState p r (s.shown x image)).scu
          = (sightCompleted p (resolveTear c.number r true (s.shown x image))).scu := by simp [completedState, p]
      rw [sighting_of_scu (hscu.trans hcompleted)]
      refine (sighting_sightCompleted (s := s.shown x image) (p := p) r he).trans ?_
      cases x <;> rfl

end Sys2Proof.Machine
end

section
/-! SUPPORT. Pending-tears: the earliest of some, and one resolved UNRESOLVED (R52, R53). -/

namespace Sys2Proof.Machine

/-! ## The earliest pending-tear (R52, R155) -/

theorem stampLater_iff {a b : Word32} : stampLater a b = true ↔ (b - a).toNat ≠ 0 ∧ (b - a).toNat ≤ 2147483647 := by
  rw [stampLater, Bool.and_eq_true, decide_eq_true_iff, decide_eq_true_iff]
  rfl

/-- Of two stamps at most one is the later. -/
theorem stampLater_asymm {a b : Word32} (h : stampLater a b = true) : stampLater b a = false := by
  rw [Bool.eq_false_iff]
  intro h'
  rw [stampLater_iff, BitVec.toNat_sub] at h h'
  omega

theorem earlierTear_left {y z : Nat × Tear} (h : stampLater y.2.tearSeq z.2.tearSeq = true) : earlierTear y z = y := by
  rw [earlierTear, stampLater_asymm h, if_neg (by simp)]

theorem earlierTear_right {y z : Nat × Tear} (h : stampLater y.2.tearSeq z.2.tearSeq = true) : earlierTear z y = y :=
  if_pos h

theorem earlierTear_cases (a b : Nat × Tear) : earlierTear a b = a ∨ earlierTear a b = b := by
  unfold earlierTear
  split
  · exact .inr rfl
  · exact .inl rfl

theorem earlierTear_self (y : Nat × Tear) : earlierTear y y = y := by simp [earlierTear]

theorem foldl_earlierTear {y : Nat × Tear} (l : List (Nat × Tear)) {a : Nat × Tear} (hy : y = a ∨ y ∈ l)
    (h : ∀ z ∈ a :: l, z ≠ y → stampLater y.2.tearSeq z.2.tearSeq = true) : l.foldl earlierTear a = y := by
  induction l generalizing a with
  | nil => exact (hy.resolve_right List.not_mem_nil).symm
  | cons b l ih =>
    rw [List.foldl_cons]
    have hfirst : ∀ z ∈ [a, b], z ≠ y → stampLater y.2.tearSeq z.2.tearSeq = true := fun z hz =>
      h z (by simp at hz ⊢; tauto)
    have hkept : earlierTear a b = y ∨ (earlierTear a b ≠ y ∧ a ≠ y ∧ b ≠ y) := by
      by_cases ha : a = y
      · by_cases hb : b = y
        · exact .inl (by rw [ha, hb, earlierTear_self])
        · exact .inl (by rw [ha, earlierTear_left (hfirst b (by simp) hb)])
      · by_cases hb : b = y
        · exact .inl (by rw [hb, earlierTear_right (hfirst a (by simp) ha)])
        · exact .inr ⟨by rcases earlierTear_cases a b with heq | heq <;> rwa [heq], ha, hb⟩
    have hrest : ∀ z ∈ earlierTear a b :: l, z ≠ y → stampLater y.2.tearSeq z.2.tearSeq = true := by
      intro z hz hne
      rcases List.mem_cons.mp hz with rfl | hz
      · exact hfirst _ (by rcases earlierTear_cases a b with heq | heq <;> simp [heq]) hne
      · exact h z (List.mem_cons_of_mem _ (List.mem_cons_of_mem _ hz)) hne
    refine ih ?_ hrest
    rcases hkept with heq | ⟨-, ha, hb⟩
    · exact .inl heq.symm
    · rcases hy with rfl | hy
      · exact absurd rfl ha
      · exact .inr ((List.mem_cons.mp hy).resolve_left fun h => hb h.symm)

theorem earliestTear_eq {l : List (Nat × Tear)} {y : Nat × Tear} (hy : y ∈ l)
    (h : ∀ z ∈ l, z ≠ y → stampLater y.2.tearSeq z.2.tearSeq = true) : earliestTear l = some y := by
  cases l with
  | nil => cases hy
  | cons a l => exact congrArg some (foldl_earlierTear l (List.mem_cons.mp hy) h)

/-! ## A pending-tear resolved UNRESOLVED (R53) -/

theorem rjn_unresolveTear {s : State} (c : Nat) (r : Tear) (h : s.rjn.reserved ≠ 0) :
    (unresolveTear c r s).rjn.reserved = s.rjn.reserved - 2
      ∧ ∃ es, (unresolveTear c r s).rjn.journal
        = s.rjn.journal ++ { tearResolvedEntry s c r .unresolved with seq := s.rjn.nextSeq } :: es := by
  have hwritten := writeReserved_held (tearResolvedEntry s c r .unresolved) s h
  set v := dropTear c (writeReserved (tearResolvedEntry s c r .unresolved) s) with hv
  have hrjn : v.rjn = (writeReserved (tearResolvedEntry s c r .unresolved) s).rjn := by simp [hv, dropTear]
  obtain ⟨es, hes, -⟩ : v.rjn.Grows (release1 v).rjn := grows_release1 (.refl _)
  refine ⟨?_, es, ?_⟩
  · rw [unresolveTear, reserved_release1, ← hv, hrjn, hwritten]
    rfl
  · rw [unresolveTear, ← hv, hes, hrjn, hwritten, List.append_assoc]
    rfl

/-! ## A slot torn (R51, R52) -/

section
variable {x : Side} {sl : Slot} {s : State}

theorem displaceTear_room (h : s.tears.length < 32) : displaceTear s = s := if_pos h

/-- Where 32 stand, the earliest is resolved first (log 33). -/
theorem displaceTear_full {y : Nat × Tear} (h : s.tears.length = 32) (hfirst : earliestTear s.tears = some y) :
    displaceTear s = unresolveTear y.1 y.2 s := by
  rw [displaceTear, if_neg (by omega), hfirst]

/-- The card of a slot in hand shows an entry without a pending-tear (R89, R90). -/
theorem sighting_inHand (h : s.ledger.Balanced none 0 0) (hsl : s.slot x = some sl) :
    ∃ e, s.sighting sl.card = some e ∧ e.tear = none := by
  obtain ⟨e, he, hcard, -, hclear⟩ := h.seen x sl (by rw [kept_none, slot_ledger]; exact hsl)
  exact ⟨e, (sighting_iff_mem h.keyed).mpr ⟨he, hcard⟩, hclear⟩

/-- A slot torn, told from the state after the oldest tear has gone. -/
theorem settleUncertain_torn {e : Sighting} (o : AuditOutcome) (h : (displaceTear s).sighting sl.card = some e) :
    (settleUncertain o x sl s).rjn = (writeReserved (tearEntry (displaceTear s) x sl) (displaceTear s)).rjn
      ∧ (settleUncertain o x sl s).scu = (tornState x sl e (displaceTear s)).scu
      ∧ (∀ y, (settleUncertain o x sl s).slot y = if x = y then none else s.slot y)
      ∧ (sl.audit = true → ∀ m, s.ads.sample = some m → (settleUncertain o x sl s).ads.phase = .valid
          ∧ (settleUncertain o x sl s).ads.sample = some (settledSample .uncertain o sl .absent s m))
      ∧ (sl.audit = false → (settleUncertain o x sl s).ads = s.ads) := by
  have hworks : Works s (displaceTear s) := works_displaceTear (.refl s)
  have htorn : Works s (tornState x sl e (displaceTear s)) := works_setSlot x none
    ((works_writeReserved _ hworks).trans (works_putSighting _ (.refl _)))
  have htable : (tornState x sl e (displaceTear s)).rjn
      = (writeReserved (tearEntry (displaceTear s) x sl) (displaceTear s)).rjn := by simp [tornState, putSighting]
  have hparts : (settleUncertain o x sl s).rjn = (tornState x sl e (displaceTear s)).rjn
      ∧ (settleUncertain o x sl s).scu = (tornState x sl e (displaceTear s)).scu
      ∧ (settleUncertain o x sl s).txu = (tornState x sl e (displaceTear s)).txu := by
    rw [settleUncertain_eq o h]
    split <;> simp
  obtain ⟨hrjn, hscu, hslots⟩ := hparts
  refine ⟨hrjn.trans htable, hscu, fun y => ?_, ?_⟩
  · rw [slot_of_txu hslots, slot_tornState, slot_of_txu (by simp : (displaceTear s).txu = s.txu)]
  · exact ads_auditSettled (u := tornState x sl e (displaceTear s)) (congrArg State.ads (settleUncertain_eq o h))
      (by simp [tornState, putSighting]) htorn.svc

/-- The torn card's entry, and the entries of the others. -/
theorem sighting_tornState {e : Sighting} (h : s.sighting sl.card = some e) :
    (tornState x sl e s).sighting sl.card = some (tornEntry x sl e s)
      ∧ ∀ n, n ≠ sl.card → (tornState x sl e s).sighting n = s.sighting n := by
  have hcard : e.card = sl.card := card_of_sighting h
  have hkeeps : ∀ y : Sighting, (if y.card = e.card then tornEntry x sl e s else y).card = y.card := fun y => by
    split
    next hy => exact hy.symm
    next => rfl
  have hmap := sighting_map hkeeps (congrArg Scu.sightings (sightings_tornState x sl e s))
  refine ⟨?_, fun n hn => ?_⟩
  · rw [hmap, h]
    simp
  · rw [hmap]
    cases hs : s.sighting n with
    | none => rfl
    | some y =>
      have hy : y.card = n := card_of_sighting hs
      simp [hy, hcard, hn]

/-- With room for another pending-tear (R51, R52). -/
theorem settleUncertain_room {e : Sighting} (o : AuditOutcome) (hthree : 3 ≤ s.rjn.reserved) (hroom : s.tears.length < 32)
    (h : s.sighting sl.card = some e) : onlyEntry (tearEntry s x sl) s (settleUncertain o x sl s)
      ∧ (settleUncertain o x sl s).rjn.reserved + 1 = s.rjn.reserved
      ∧ (settleUncertain o x sl s).sighting sl.card = some (tornEntry x sl e s) := by
  have hsame := displaceTear_room hroom
  obtain ⟨hrjn, hscu, -⟩ := settleUncertain_torn (x := x) o ((congrArg (State.sighting · sl.card) hsame).trans h)
  rw [hsame] at hrjn hscu
  rw [writeReserved_held _ s (by omega)] at hrjn
  refine ⟨congrArg Rjn.journal hrjn, ?_, (sighting_of_scu hscu _).trans (sighting_tornState h).1⟩
  rw [hrjn]
  dsimp only
  omega

theorem reserved_of_balanced (h : s.ledger.Balanced none 0 0) : s.rjn.reserved = s.held := by
  have hheld : (s.rjn.reserved : Int) = s.ledger.held none + 0 := h.held
  rw [held_ledger] at hheld
  omega

/-- A tear that comes where another goes leaves as many as stood: the books leave no other way (R52, R159). -/
theorem length_tears_settleUncertain (o : AuditOutcome) (h : s.ledger.Balanced none 0 0) (hsl : s.slot x = some sl)
    (hreserved : (settleUncertain o x sl s).rjn.reserved + 3 = s.rjn.reserved)
    (hslots : ∀ y, (settleUncertain o x sl s).slot y = if x = y then none else s.slot y) :
    (settleUncertain o x sl s).tears.length = s.tears.length := by
  have hbefore := reserved_of_balanced h
  have hafter := reserved_of_balanced (balanced_settleUncertain o h hsl)
  have hqueues := queue_of_pcu (by simp : (settleUncertain o x sl s).pcu = s.pcu)
  rw [held_eq] at hbefore hafter
  rw [hqueues, hqueues, hslots, hslots] at hafter
  rw [length_tears, length_tears]
  cases x with
  | u =>
    rw [hsl] at hbefore
    simp [slotHeld, slotReservations] at hbefore hafter
    omega
  | p =>
    rw [hsl] at hbefore
    simp [slotHeld, slotReservations] at hbefore hafter
    omega

/-- Where 32 stand: the earliest gives way, with its entry before the TEAR entry (log 33). -/
theorem settleUncertain_full {y : Nat × Tear} {e : Sighting} (o : AuditOutcome) (h : s.ledger.Balanced none 0 0)
    (hsl : s.slot x = some sl) (hfull : s.tears.length = 32) (hfirst : earliestTear s.tears = some y) (hs : s.sighting sl.card = some e)
    (hclear : e.tear = none) : let t := settleUncertain o x sl s
    t.tears.length = 32 ∧ t.rjn.reserved + 3 = s.rjn.reserved
      ∧ (∀ e', t.sighting y.1 = some e' → e'.tear = none)
      ∧ ∃ es q, t.rjn.journal = s.rjn.journal
          ++ { tearResolvedEntry s y.1 y.2 .unresolved with seq := s.rjn.nextSeq } :: es
        ∧ { tearEntry s x sl with seq := q } ∈ es
        ∧ t.sighting sl.card = some { e with inFlight := none, tear := some { tearRecord s x sl with tearSeq := q } } := by
  intro t
  obtain ⟨e₀, hs₀, htear₀⟩ := sighting_of_tears h.keyed (c := y.1) (r := y.2) (mem_earliestTear hfirst)
  have hapart : y.1 ≠ sl.card := by
    intro heq
    rw [heq, hs] at hs₀
    obtain rfl := Option.some.inj hs₀
    rw [hclear] at htear₀
    cases htear₀
  have hdisplaced := displaceTear_full hfull hfirst
  set d := displaceTear s with hd
  have hworks : Works s d := works_displaceTear (.refl s)
  have hsightings := sighting_map (card_untorn y.1) ((congrArg (·.scu.sightings) hdisplaced).trans
    (sightings_unresolveTear y.1 y.2 s))
  have hkept : d.sighting sl.card = some e := by
    rw [hsightings, hs]
    have hcard : e.card = sl.card := card_of_sighting hs
    simp [untorn, hcard, hapart.symm]
  have htwo := reserved_of_tear h le_rfl hs₀ (by rw [htear₀]; rfl)
  obtain ⟨hdreserved, es, hdjournal⟩ := rjn_unresolveTear y.1 y.2 (s := s) (by omega)
  rw [← hdisplaced] at hdreserved hdjournal
  have hdheld := (balanced_inHand (balanced_displaceTear h le_rfl) ((slot_of_txu (by simp) x).trans hsl)).held
  rw [← hd, show d.ledger.reserved = d.rjn.reserved from rfl] at hdheld
  obtain ⟨hrjn, hscu, hslots, -⟩ := settleUncertain_torn (x := x) o hkept
  rw [← hd, writeReserved_held _ d (by omega)] at hrjn
  have hreserved : t.rjn.reserved + 3 = s.rjn.reserved := by
    rw [hrjn]
    dsimp only
    omega
  have hentry : tearEntry d x sl = tearEntry s x sl := by rw [tearEntry, hworks.entry, tearEntry]
  have hrecord : tearRecord d x sl = { tearRecord s x sl with tearSeq := d.rjn.nextSeq } := by
    rw [tearRecord, hworks.now, hworks.setup, tearRecord]
  obtain ⟨htorn, hothers⟩ := sighting_tornState (x := x) hkept
  refine ⟨(length_tears_settleUncertain o h hsl hreserved hslots).trans hfull, hreserved, fun e' he' => ?_,
    es ++ [{ tearEntry s x sl with seq := d.rjn.nextSeq }], d.rjn.nextSeq, ?_, by simp, ?_⟩
  · rw [sighting_of_scu hscu, hothers _ hapart, hsightings, hs₀] at he'
    obtain rfl := Option.some.inj he'
    have hcard : e₀.card = y.1 := card_of_sighting hs₀
    simp [untorn, hcard]
  · rw [hrjn, hentry]
    dsimp only
    rw [hdjournal, List.append_assoc]
    rfl
  · rw [sighting_of_scu hscu, htorn, tornEntry, hrecord]

end

end Sys2Proof.Machine
end

section
/-! SUPPORT. An UNCERTAIN by outcome and by underflow, and outcomes that no slot answers for (R46, R47, R51, R52). -/

namespace Sys2Proof.Machine

/-! ## Outcomes refused (R46) -/

theorem outcomeOf_none {o : Byte} (h : o ≠ 1 ∧ o ≠ 2 ∧ o ≠ 3) : outcomeOf o = none := by
  obtain ⟨hdone, hnot, huncertain⟩ := h
  unfold outcomeOf
  split
  next heq => exact absurd (BitVec.eq_of_toNat_eq heq) hdone
  next heq => exact absurd (BitVec.eq_of_toNat_eq heq) hnot
  next heq => exact absurd (BitVec.eq_of_toNat_eq heq) huncertain
  next => rfl

theorem outcomeRefused {s : State} {b o h l : Byte} {res : Result} (hopen : s.laneOpen) (hformed : s.formed)
    (hrun : ∀ u : State, (∀ x, u.slot x = s.slot x) → writeOutcomeRun [b, o, h, l] u = (u, refusal res)) :
    ∃ t, exec (.writeOutcome [b, o, h, l]) s = .next t
      ∧ t.lpt = t.attnOn (s.laneTaken 0x02 [b, o, h, l] (refusal res) s.lpt) ∧ keepsBut [.lpt] s t :=
  ⟨_, rfl, laneRequest_refused (rq := reqWriteOutcome) hopen hformed rfl (by simp) (hrun _ fun _ => rfl)⟩

theorem writeOutcomeRun_badField {b o h l : Byte} (hbad : (b ≠ 1 ∧ b ≠ 2) ∨ (o ≠ 1 ∧ o ≠ 2 ∧ o ≠ 3)) (u : State) :
    writeOutcomeRun [b, o, h, l] u = (u, refusal .badField) := by
  unfold writeOutcomeRun
  rw [show byteAt [b, o, h, l] 0 = b from rfl, show byteAt [b, o, h, l] 1 = o from rfl]
  rcases hbad with ⟨hu, hp⟩ | ho
  · rw [show sideOf b = none by rw [sideOf, if_neg hu, if_neg hp]]
  · rw [outcomeOf_none ho]
    cases sideOf b <;> rfl

theorem writeOutcomeRun_noTransaction {x : Side} {o h l : Byte} {u : State} (ho : o = 1 ∨ o = 2 ∨ o = 3)
    (hslot : ∀ sl, u.slot x = some sl → sl.newTag.toNat ≠ h.toNat * 256 + l.toNat) :
    writeOutcomeRun [sideCode (some x), o, h, l] u = (u, refusal .noTransaction) := by
  obtain ⟨w, hw⟩ : ∃ w, outcomeOf o = some w := by
    rcases ho with rfl | rfl | rfl
    · exact ⟨_, rfl⟩
    · exact ⟨_, rfl⟩
    · exact ⟨_, rfl⟩
  have hfield : field [sideCode (some x), o, h, l] 2 2 = h.toNat * 256 + l.toNat := by
    simp [field, slice, fromBE]
  have hrefused : takeOutcome x w (BitVec.ofNat 16 (field [sideCode (some x), o, h, l] 2 2)) u = (u, .noTransaction) := by
    unfold takeOutcome
    split
    next sl hsl =>
      refine if_neg fun htag => hslot sl hsl ?_
      have hh := h.isLt
      have hl := l.isLt
      rw [htag, hfield, BitVec.toNat_ofNat]
      omega
    next => rfl
  have hside : sideOf (byteAt [sideCode (some x), o, h, l] 0) = some x := by cases x <;> rfl
  unfold writeOutcomeRun
  rw [hside, show byteAt [sideCode (some x), o, h, l] 1 = o from rfl, hw]
  dsimp only
  rw [hrefused]

/-! ## UNCERTAIN (R47, R51, R52) -/

theorem exec_writeWaitUnderflow {x : Side} {s : State} (hpowered : s.powered = true)
    (hdue : (s.chan (writeOf x)).underflowDue = true) : exec (.writeWaitUnderflow x) s
      = .next (finish (writeWaitEnds x (takeUnderflow (writeOf x) s))) := by
  have hunder : underflowDue (writeOf x) s = true := by rw [underflowDue, hpowered, hdue]; rfl
  show Host.Outcome.next (if underflowDue (writeOf x) s then _ else s) = _
  rw [if_pos hunder]

theorem chan_takeUnderflow (i j : ChanId) (s : State) : (takeUnderflow i s).chan j
    = if i = j then { s.chan i with underflowDue := false } else s.chan j := chan_setChan ..

theorem due_stop (c : Channel) : c.stop.underflowDue = false := by
  unfold Channel.stop
  split <;> rfl

/-- The parts that an UNCERTAIN can change. -/
def tornParts : List Part := [.txu, .rjn, .scu, .ltu, .ads, .stl, .svc, .lpt, .sgu]

/-- An event's state whose owner found the lane as it was but for the timers and the port, and tore a slot. -/
structure EndsTorn (x : Side) (sl : Slot) (s t : State) : Prop where
  keeps : keepsBut tornParts s t
  formed : t.formed
  slots : ∀ y, t.slot y = if x = y then none else s.slot y
  room : s.tears.length < 32 → onlyEntry (tearEntry s x sl) s t ∧ t.rjn.reserved + 1 = s.rjn.reserved
    ∧ ∀ e, s.sighting sl.card = some e → t.sighting sl.card = some (tornEntry x sl e s)
  full : s.tears.length = 32 → t.tears.length = 32 ∧ t.rjn.reserved + 3 = s.rjn.reserved
    ∧ ∀ y ∈ s.tears, (∀ z ∈ s.tears, z ≠ y → stampLater y.2.tearSeq z.2.tearSeq = true) →
      (∀ e', t.sighting y.1 = some e' → e'.tear = none)
      ∧ ∃ es q, t.rjn.journal = s.rjn.journal
          ++ { tearResolvedEntry s y.1 y.2 .unresolved with seq := s.rjn.nextSeq } :: es
        ∧ { tearEntry s x sl with seq := q } ∈ es
        ∧ ∀ e, s.sighting sl.card = some e →
          t.sighting sl.card = some { e with inFlight := none, tear := some { tearRecord s x sl with tearSeq := q } }
  tagged : sl.audit = true → t.ads.phase = .valid
    ∧ ∃ m, t.ads.sample = some m ∧ m.outcome = some .tear ∧ m.writeResult = some .uncertain
      ∧ m.writeTicks = min 65535 (s.svc.tickCount - sl.tick).toNat
  untagged : sl.audit = false → t.ads = s.ads

/-- An UNCERTAIN at the end of its event, from a state that differs from the event's in the timers and the port. -/
theorem endsTorn_settleUncertain {x : Side} {sl : Slot} {s t : State} (l : Ltu) (p : Lpt) (hbooks : s.books)
    (hsl : s.slot x = some sl)
    (ht : keepsBut [.lpt, .stl, .svc, .sgu] (settleUncertain .tear x sl { s with ltu := l, lpt := p }) t)
    (hformed : t.formed) : EndsTorn x sl s t := by
  set u : State := { s with ltu := l, lpt := p } with hu
  have hbalanced : u.ledger.Balanced none 0 0 := ((books_iff s).mp hbooks).2
  have husl : u.slot x = some sl := hsl
  have hrjn : t.rjn = (settleUncertain .tear x sl u).rjn := ht .rjn (by simp)
  have hscu : t.scu = (settleUncertain .tear x sl u).scu := ht .scu (by simp)
  have htxu : t.txu = (settleUncertain .tear x sl u).txu := ht .txu (by simp)
  have hads : t.ads = (settleUncertain .tear x sl u).ads := ht .ads (by simp)
  obtain ⟨e₀, hs₀, hclear₀⟩ := sighting_inHand hbalanced husl
  obtain ⟨e₁, hs₁, -⟩ := sighting_inHand (balanced_displaceTear hbalanced le_rfl)
    ((slot_of_txu (by simp : (displaceTear u).txu = u.txu) x).trans husl)
  obtain ⟨-, -, hslots, htagged, huntagged⟩ := settleUncertain_torn (x := x) .tear hs₁
  have hthree : 3 ≤ u.rjn.reserved := by
    have hheld := (balanced_inHand hbalanced husl).held
    rw [show u.ledger.reserved = u.rjn.reserved from rfl] at hheld
    omega
  refine ⟨?_, hformed, fun y => (slot_of_txu htxu y).trans (hslots y), fun hroom => ?_, fun hfull => ?_, fun haudit => ?_,
    fun haudit => hads.trans (huntagged haudit)⟩
  · have hchanged : keepsBut tornParts s u := by simp [keepsBut, Part.forall_iff, Part.same, tornParts, u]
    refine hchanged.trans (keepsBut.trans ?_ (ht.mono (by simp [tornParts])))
    simp [keepsBut, Part.forall_iff, Part.same, tornParts]
  · obtain ⟨honly, hreserved, hsight⟩ := settleUncertain_room (x := x) (s := u) .tear hthree hroom hs₀
    rw [onlyEntry, hrjn]
    refine ⟨honly, hreserved, fun e he => ?_⟩
    obtain rfl := Option.some.inj (he.symm.trans hs₀)
    exact (sighting_of_scu hscu _).trans hsight
  · have hat : ∀ y, earliestTear s.tears = some y → _ := fun y hy =>
      settleUncertain_full (s := u) (x := x) (sl := sl) (y := y) .tear hbalanced husl hfull hy hs₀ hclear₀
    have hsome : ∃ y, earliestTear s.tears = some y := by
      cases hl : s.tears with
      | nil => simp [hl] at hfull
      | cons a l => exact ⟨_, rfl⟩
    obtain ⟨y₀, hy₀⟩ := hsome
    obtain ⟨hlength, hreserved, -⟩ := hat y₀ hy₀
    refine ⟨(congrArg List.length (by rw [State.tears, hscu, State.tears])).trans hlength, by rw [hrjn]; exact hreserved,
      fun y hy hfirst => ?_⟩
    obtain ⟨-, -, hclear, es, q, hjournal, hmem, hsight⟩ := hat y (earliestTear_eq hy hfirst)
    refine ⟨fun e' he' => hclear e' ((sighting_of_scu hscu _).symm.trans he'), es, q, by rw [hrjn]; exact hjournal, hmem,
      fun e he => ?_⟩
    obtain rfl := Option.some.inj (he.symm.trans hs₀)
    exact (sighting_of_scu hscu _).trans hsight
  · obtain ⟨m, hm⟩ := sample_of_tagged hbalanced husl haudit
    obtain ⟨hphase, hsample⟩ := htagged haudit m hm
    exact ⟨hads ▸ hphase, _, hads ▸ hsample, rfl, rfl, rfl⟩

/-- Settles O26: an outcome no slot answers for changes the port alone, and an UNCERTAIN tears its slot whichever
event reports it. -/
theorem uncertainMakesTear : Obligations.UncertainMakesTear := by
  refine ⟨fun b o h l s hopen hformed => ⟨fun hbad => ?_, ?_⟩, fun x s hformed hbooks =>
    ⟨fun hpowered hdue hnone => ?_, fun sl hsl => ?_⟩⟩
  · exact outcomeRefused hopen hformed fun u _ => writeOutcomeRun_badField hbad u
  · rintro x rfl ho hslot
    exact outcomeRefused hopen hformed fun u hu => writeOutcomeRun_noTransaction ho (hu x ▸ hslot)
  · have hends : writeWaitEnds x (takeUnderflow (writeOf x) s) = takeUnderflow (writeOf x) s := by
      have hslot : (takeUnderflow (writeOf x) s).slot x = none := hnone
      rw [writeWaitEnds, hslot]
    have hchan := fun i => chan_takeUnderflow (writeOf x) i s
    refine ⟨takeUnderflow (writeOf x) s, ?_, by simp [keepsBut, Part.forall_iff, Part.same],
      fun i hi => (hchan i).trans (if_neg hi.symm), (hchan _).trans (if_pos rfl)⟩
    rw [exec_writeWaitUnderflow hpowered hdue, hends, finish_of_formed (show (takeUnderflow _ s).formed from hformed)]
  · intro torn entry settled
    have hsettled : ∀ t, EndsTorn x sl s t → (∀ i, i ≠ writeOf x → t.chan i = s.chan i) →
        (t.chan (writeOf x)).underflowDue = false → settled t := by
      rintro t ⟨hkeeps, htformed, hslots, hroom, hfull, htagged, huntagged⟩ hother hdue
      exact ⟨hkeeps, htformed, (hslots x).trans (if_pos rfl), (hslots _).trans (if_neg (by cases x <;> decide)), hother,
        hdue, hroom, hfull, htagged, huntagged⟩
    refine ⟨fun hpowered hdue => ?_, fun hopen => ?_⟩
    · set u := takeUnderflow (writeOf x) s with hu
      have hends : writeWaitEnds x u = settleUncertain .tear x sl u := by
        have hslot : u.slot x = some sl := hsl
        rw [writeWaitEnds, hslot]
      have hchan : ∀ i, (finish (settleUncertain .tear x sl u)).chan i = u.chan i := fun i => by
        rw [State.chan, State.chan]
        simp
      refine ⟨finish (settleUncertain .tear x sl u), ?_, hsettled _
        (endsTorn_settleUncertain u.ltu u.lpt hbooks hsl ?_ (finish_formed _)) (fun i hi => ?_) ?_⟩
      · rw [exec_writeWaitUnderflow hpowered hdue, ← hu, hends]
      · show keepsBut _ (settleUncertain .tear x sl u) _
        simp [keepsBut, Part.forall_iff, Part.same]
      · rw [hchan, hu, chan_takeUnderflow, if_neg hi.symm]
      · rw [hchan, hu, chan_takeUnderflow, if_pos rfl]
    · set u := s.settling x 3 sl with hu
      have hchan : ∀ i, (outcomeTaken (settleUncertain .tear x sl u)).chan i
          = if writeOf x = i then (s.chan (writeOf x)).stop else s.chan i := fun i => by
        have hltu : (settleUncertain .tear x sl u).ltu = u.ltu := by simp
        rw [chan_outcomeTaken, State.chan, hltu]
        exact chan_chanStop (writeOf x) i (s.taking 0x02 (outcomeBody x 3 sl))
      refine ⟨outcomeTaken (settleUncertain .tear x sl u), exec_writeOutcome (w := .uncertain) hopen hsl rfl, hsettled _
        (endsTorn_settleUncertain u.ltu u.lpt hbooks hsl (outcomeTaken_keeps _) (formed_outcomeTaken _)) (fun i hi => ?_) ?_,
        ?_, responseSlot_outcomeTaken _⟩
      · rw [hchan, if_neg hi.symm]
      · rw [hchan, if_pos rfl]
        exact due_stop _
      · rw [hchan, if_pos rfl]
        exact state_stop _

end Sys2Proof.Machine
end

section
/-! SUPPORT. What a second handed on takes: the timed switch, the marks and the pending-tears that are due (R53, R64,
R65, R94, R95). -/

namespace Sys2Proof.Machine

/-! ## A bank switch (R65) -/

/-- The banks exchanged, and nothing told of it yet. -/
def switched (s : State) : State := s.setFru { s.fru with active := s.fru.active.other }

/-- The entry of a bank switch written. -/
def switchEntered (r : Reason) (s : State) : State :=
  writeFree { s.entry .fareSwitched r none with card := s.activeBank.imageId, extra := s.standbyBank.imageId } (switched s)

theorem swapBanks_eq (r : Reason) (s : State) : swapBanks r s = if s.activeBank.valid
    then raiseBoth .fareSwitched (switchEntered r s) else setNoFare false (raiseBoth .fareSwitched (switchEntered r s)) := rfl

theorem works_switchEntered (r : Reason) (s : State) : Works (switched s) (switchEntered r s) := works_writeFree _ (.refl _)

theorem swapBanks_ports (r : Reason) (s : State) :
    (swapBanks r s).lpt = { (switchEntered r s).lpt with notices := raiseIn .fareSwitched (switchEntered r s).lpt.notices }
      ∧ (swapBanks r s).stl.notices = raiseIn .fareSwitched (switchEntered r s).stl.notices := by
  rw [swapBanks_eq]
  split
  · exact ⟨rfl, rfl⟩
  · have hports : ∀ u, (setNoFare false u).lpt = u.lpt ∧ (setNoFare false u).stl = u.stl := fun u => by simp
    obtain ⟨hlpt, hstl⟩ := hports (raiseBoth .fareSwitched (switchEntered r s))
    rw [hlpt, hstl]
    exact ⟨rfl, rfl⟩

/-- Both masters hear of a switch once, and the lane port is otherwise as it was. -/
theorem swapBanks_raised (r : Reason) (s : State) : (∃ ns, (swapBanks r s).lpt = { s.lpt with notices := ns })
    ∧ raisedOnce .fareSwitched s.lpt.notices (swapBanks r s).lpt.notices
    ∧ raisedOnce .fareSwitched s.stl.notices (swapBanks r s).stl.notices := by
  obtain ⟨hlpt, hstl⟩ := swapBanks_ports r s
  have hworks := works_switchEntered r s
  rw [hlpt, hstl]
  refine ⟨⟨raiseIn .fareSwitched (switchEntered r s).lpt.notices, ?_⟩,
    raisedOnce_of_same (hworks.laneSet .fareSwitched (by decide)) rfl,
    raisedOnce_of_same (hworks.linkSet .fareSwitched (by decide)) rfl⟩
  rw [hworks.lane]
  rfl

/-- A switch takes NO_FARE away where it stood for a bank that was not VALID. -/
theorem noFare_swapBanks (r : Reason) (s : State) :
    (swapBanks r s).svc.reasons.noFare = (s.svc.reasons.noFare && s.activeBank.valid) := by
  have hkept : (raiseBoth .fareSwitched (switchEntered r s)).svc.reasons.noFare = s.svc.reasons.noFare := by
    show (switchEntered r s).svc.reasons.noFare = _
    rw [show (switchEntered r s).svc = _ from (works_switchEntered r s).svc]
    rfl
  rw [swapBanks_eq]
  cases hvalid : s.activeBank.valid with
  | true => rw [if_pos rfl, hkept, Bool.and_true]
  | false => rw [if_neg (by simp), setNoFare, setReasons_reasons, Bool.and_false]

/-! ## Marks that are due (R94, R95) -/

/-- An entry without its mark where its card is among some. -/
def unmarkedIn (l : List Nat) (e : Sighting) : Sighting := if e.card ∈ l then { e with mark := none } else e

theorem dropMarks_scu (l : List Nat) (s : State) : (l.foldl (fun t c => dropMark c t) s).scu
    = { s.scu with
        sightings := s.scu.sightings.map (unmarkedIn l)
        markOrder := (l.foldl (fun t c => dropMark c t) s).scu.markOrder } := by
  induction l generalizing s with
  | nil =>
    have hsame : unmarkedIn [] = id := by
      funext e
      simp [unmarkedIn]
    simp [hsame]
  | cons c l ih =>
    have hboth : ∀ e : Sighting, unmarkedIn l (if e.card = c then { e with mark := none } else e) = unmarkedIn (c :: l) e := by
      intro e
      by_cases hc : e.card = c
      · simp [unmarkedIn, hc]
      · simp [unmarkedIn, hc]
    rw [List.foldl_cons, ih]
    simp only [dropMark, setScu_scu, List.map_map]
    congr 1
    exact List.map_congr_left fun e _ => hboth e

/-- The marks that the clock has reached go, and only those. -/
theorem expireMarks_scu {s : State} (hkeyed : Keyed s.scu.sightings) : (expireMarks s).scu = { s.scu with
    sightings := s.scu.sightings.map fun e => { e with mark := e.mark.filter fun m => !s.reached m.deadline }
    markOrder := (expireMarks s).scu.markOrder } := by
  have hscu := dropMarks_scu ((s.scu.sightings.filter (markDue s)).map Sighting.card) s
  have hone : ∀ e ∈ s.scu.sightings, unmarkedIn ((s.scu.sightings.filter (markDue s)).map Sighting.card) e
      = { e with mark := e.mark.filter fun m => !s.reached m.deadline } := by
    intro e he
    have hmem : e.card ∈ (s.scu.sightings.filter (markDue s)).map Sighting.card ↔ markDue s e = true := by
      rw [List.mem_map]
      refine ⟨fun ⟨e', he', hcard⟩ => ?_, fun hdue => ⟨e, List.mem_filter.mpr ⟨he, hdue⟩, rfl⟩⟩
      obtain ⟨hmem, hdue⟩ := List.mem_filter.mp he'
      exact eq_of_card hkeyed hmem he hcard.symm ▸ hdue
    have hfilter : (e.mark.filter fun m => !s.reached m.deadline) = if markDue s e then none else e.mark := by
      unfold markDue
      cases e.mark with
      | none => rfl
      | some m => cases hreached : s.reached m.deadline <;> simp [hreached]
    rw [unmarkedIn, hfilter]
    simp only [hmem]
    split <;> rfl
  rw [List.map_congr_left hone] at hscu
  exact hscu

/-! ## Pending-tears that are due (R53, R95) -/

/-- An entry without its pending-tear where the clock has reached it. -/
def Sighting.untornAt (s : State) (e : Sighting) : Sighting :=
  { e with tear := e.tear.filter fun r => !s.reached r.deadline }

/-- The pending-tears of a table that the clock has reached. -/
def State.dueTears (s : State) : List (Nat × Tear) := s.tears.filter fun p => s.reached p.2.deadline

/-- The TEAR_RESOLVED entry of a pending-tear that is not resolved by a presentation (R53). -/
def unresolvedEntry (p : Nat × Tear) (e : Entry) : Prop :=
  e.kind = .tearResolved ∧ e.reason = .unresolved ∧ e.card = p.1 ∧ e.amount = p.2.charge ∧ e.balance = p.2.newBalance
    ∧ e.cardSeq = p.2.newSeq ∧ e.tag = p.2.newTag ∧ e.extra = p.2.tearSeq.toNat ∧ e.side = some p.2.side

theorem untornAt_of_none {s : State} {e : Sighting} (he : e ∈ s.scu.sightings) (hnone : s.dueTears = []) :
    e.untornAt s = e := by
  have hkept : (e.tear.filter fun r => !s.reached r.deadline) = e.tear := by
    cases ht : e.tear with
    | none => rfl
    | some r =>
      have hreached : s.reached r.deadline = false := by
        simpa using List.filter_eq_nil_iff.mp hnone _ (mem_tears he ht)
      simp [hreached]
  rw [Sighting.untornAt, hkept]

theorem scu_of_none {s : State} (hnone : s.dueTears = []) :
    s.scu = { s.scu with sightings := s.scu.sightings.map (Sighting.untornAt s) } := by
  have hsame : s.scu.sightings.map (Sighting.untornAt s) = s.scu.sightings :=
    (List.map_congr_left fun e he => untornAt_of_none he hnone).trans (List.map_id _)
  rw [hsame]

theorem scu_unresolveTear (c : Nat) (r : Tear) (s : State) : (unresolveTear c r s).scu
    = { s.scu with sightings := s.scu.sightings.map (untorn c) } := by
  simp only [unresolveTear, dropTear, release1_frame, setScu_scu, writeReserved_frame]
  rfl

theorem unresolvedEntry_tearResolved (s : State) (c : Nat) (r : Tear) (q : Word32) :
    unresolvedEntry (c, r) { tearResolvedEntry s c r .unresolved with seq := q } :=
  ⟨rfl, rfl, rfl, rfl, rfl, rfl, rfl, rfl, rfl⟩

/-- The one due pending-tear of a card goes, and the rest are judged as before. -/
theorem untornAt_untorn {s : State} {c : Nat} {r : Tear} (hkeyed : Keyed s.scu.sightings) (hr : (c, r) ∈ s.dueTears)
    {e : Sighting} (he : e ∈ s.scu.sightings) : (untorn c e).untornAt s = e.untornAt s := by
  obtain ⟨hmem, hreached⟩ := List.mem_filter.mp hr
  obtain ⟨e₀, hs₀, htear⟩ := sighting_of_tears hkeyed hmem
  unfold untorn
  split
  next hcard =>
    obtain rfl := eq_of_card hkeyed (mem_of_sighting hs₀) he (hcard.trans (card_of_sighting hs₀).symm)
    have hdropped : (some r).filter (fun r => !s.reached r.deadline) = none := by
      simpa [Option.filter] using hreached
    rw [Sighting.untornAt, Sighting.untornAt, htear, hdropped]
    rfl
  next => rfl

/-- Every round takes the earliest of the pending-tears that are due, until none is (R95). -/
theorem expireTearsN_takes {n : Nat} {s : State} (h : s.ledger.Balanced none 0 0) (hn : s.tears.length ≤ n) :
    (expireTearsN n s).scu = { s.scu with sightings := s.scu.sightings.map (Sighting.untornAt s) }
      ∧ ∀ p ∈ s.dueTears, ∃ e ∈ (expireTearsN n s).rjn.journal, unresolvedEntry p e := by
  induction n generalizing s with
  | zero =>
    have hempty : s.tears = [] := List.length_eq_zero_iff.mp (Nat.le_zero.mp hn)
    have hnone : s.dueTears = [] := by rw [State.dueTears, hempty]; rfl
    exact ⟨scu_of_none hnone, fun p hp => by rw [hnone] at hp; cases hp⟩
  | succ n ih =>
    unfold expireTearsN
    split
    next c r hearliest =>
      have hdue : (c, r) ∈ s.dueTears := mem_earliestTear hearliest
      obtain ⟨hmem, -⟩ := List.mem_filter.mp hdue
      obtain ⟨e₀, hs₀, htear₀⟩ := sighting_of_tears h.keyed hmem
      have hshorter := tears_shorter hmem
      have hreached := (unresolveTear_regarded c r s).reached
      have htwo := reserved_of_tear h le_rfl hs₀ (by rw [htear₀]; rfl)
      obtain ⟨hscu, hentries⟩ := ih (balanced_unresolveTear h le_rfl hmem) (by omega)
      refine ⟨?_, fun p hp => ?_⟩
      · have hboth : ∀ e ∈ s.scu.sightings, (untorn c e).untornAt (unresolveTear c r s) = e.untornAt s := fun e he => by
          rw [← untornAt_untorn h.keyed hdue he, Sighting.untornAt, Sighting.untornAt]
          simp only [hreached]
        rw [hscu, scu_unresolveTear]
        simp only [List.map_map]
        congr 1
        exact List.map_congr_left hboth
      · by_cases hcard : p.1 = c
        · obtain ⟨e₁, hs₁, htear₁⟩ := sighting_of_tears h.keyed (c := p.1) (r := p.2) (List.mem_filter.mp hp).1
          rw [hcard, hs₀] at hs₁
          obtain rfl := Option.some.inj hs₁
          obtain rfl : p = (c, r) := Prod.ext hcard (Option.some.inj (htear₁.symm.trans htear₀))
          obtain ⟨-, es, hes⟩ := rjn_unresolveTear c r (s := s) (by omega)
          refine ⟨_, mem_of_grows (grows_expireTearsN n (.refl (unresolveTear c r s).rjn)) ?_,
            unresolvedEntry_tearResolved s c r s.rjn.nextSeq⟩
          rw [hes]
          simp
        · refine hentries p ?_
          obtain ⟨hpmem, hpreached⟩ := List.mem_filter.mp hp
          refine List.mem_filter.mpr ⟨?_, by rwa [hreached]⟩
          rw [tears_unresolveTear]
          exact List.mem_filter.mpr ⟨hpmem, by simpa using hcard⟩
    next hearliest =>
      have hnone : s.dueTears = [] := earliestTear_none hearliest
      exact ⟨scu_of_none hnone, fun p hp => by rw [hnone] at hp; cases hp⟩

/-- What stands after the due pending-tears have gone. -/
theorem tears_untornAt {s t : State} (h : t.scu.sightings = s.scu.sightings.map (Sighting.untornAt s)) :
    t.tears = s.tears.filter fun p => !s.reached p.2.deadline := by
  rw [State.tears, h, State.tears, List.filterMap_map, List.filter_filterMap]
  refine List.filterMap_congr fun e _ => ?_
  simp only [Function.comp, Sighting.untornAt]
  cases htear : e.tear with
  | none => rfl
  | some r => cases hreached : s.reached r.deadline <;> simp [Option.filter, hreached]

/-- The reservations of the due pending-tears are given up: nothing else of the books moves (R53, R159). -/
theorem reserved_expireTears {s : State} (h : s.ledger.Balanced none 0 0) :
    (expireTears s).rjn.reserved + 2 * s.dueTears.length = s.rjn.reserved := by
  have hbefore := reserved_of_balanced h
  have hafter := reserved_of_balanced (balanced_expireTearsN s.tears.length h le_rfl)
  have hqueues := queue_of_pcu (by simp : (expireTears s).pcu = s.pcu)
  have hslots := slot_of_txu (by simp : (expireTears s).txu = s.txu)
  have htears := tears_untornAt (congrArg Scu.sightings (expireTearsN_takes h le_rfl).1)
  have hsplit := List.length_eq_length_filter_add (l := s.tears) fun p => s.reached p.2.deadline
  change (expireTears s).rjn.reserved = (expireTears s).held at hafter
  rw [held_eq, ← length_tears] at hbefore hafter
  rw [hqueues, hqueues, hslots, hslots, show (expireTears s).tears = _ from htears] at hafter
  rw [State.dueTears]
  omega

end Sys2Proof.Machine
end

section
/-! SUPPORT. The rows by which FRU and SCU take a second handed on (R19, R53, R64, R65, R94, R95). -/

namespace Sys2Proof.Machine

theorem exec_timedFareSwitch {s : State} (hpowered : s.powered = true) (hhanded : s.fru.secondHanded = true) :
    exec .timedFareSwitch s = .next (finish (fruTakes s)) := by
  show Host.Outcome.next (if s.fru.secondHanded then event fruTakes s else s) = _
  rw [if_pos hhanded, event, if_pos hpowered]

/-- FRU takes nothing more where it has taken its own second. -/
theorem fruTakes_idle {s : State} (h : s.fru.secondHanded = false) : fruTakes s = s := by
  rw [fruTakes, h]
  rfl

theorem exec_markExpiry {s : State} (hpowered : s.powered = true) (hfru : s.fru.secondHanded = false)
    (hhanded : s.scu.marksHanded = true) :
    exec .markExpiry s = .next (finish (expireMarks (s.setScu { s.scu with marksHanded := false }))) := by
  show Host.Outcome.next (if s.scu.marksHanded then event (fun t => marksTake (fruTakes t)) s else s) = _
  rw [if_pos hhanded, event, if_pos hpowered, fruTakes_idle hfru, marksTake, if_pos hhanded]

theorem exec_tearDeadline {s : State} (hpowered : s.powered = true) (hfru : s.fru.secondHanded = false)
    (hhanded : s.scu.tearsHanded = true) :
    exec .tearDeadline s = .next (finish (expireTears (s.setScu { s.scu with tearsHanded := false }))) := by
  show Host.Outcome.next (if s.scu.tearsHanded then event (fun t => tearsTake (fruTakes t)) s else s) = _
  rw [if_pos hhanded, event, if_pos hpowered, fruTakes_idle hfru, tearsTake, if_pos hhanded]

/-! ## The timed switch (R64, R65) -/

theorem timedSwitch_still {s : State} (hformed : s.formed) (hpowered : s.powered = true) (hhanded : s.fru.secondHanded = true)
    (h : ∀ d, s.fru.pendingSwitch = some d → s.reached d = false) :
    exec .timedFareSwitch s = .next (s.setFru { s.fru with secondHanded := false }) := by
  rw [exec_timedFareSwitch hpowered hhanded, fruTakes_still fun _ => h,
    finish_of_formed (show (s.setFru { s.fru with secondHanded := false }).formed from hformed)]

/-- The state in which FRU swaps: its second taken, the pending switch gone. -/
def switching (s : State) : State := s.setFru { s.fru with secondHanded := false, pendingSwitch := none }

theorem timedSwitch_reached {s : State} {d : DayTime} (hpowered : s.powered = true) (hhanded : s.fru.secondHanded = true)
    (hpending : s.fru.pendingSwitch = some d) (hreached : s.reached d = true) :
    exec .timedFareSwitch s = .next (finish (swapBanks .timed (switching s))) := by
  rw [exec_timedFareSwitch hpowered hhanded, fruTakes_reached hhanded hpending hreached]
  rfl

/-- A timed switch told and journaled (R65). -/
theorem swap_finished {s : State} (hformed : s.formed) : let t := finish (swapBanks .timed (switching s))
    keepsBut [.fru, .rjn, .svc, .lpt, .stl, .sgu] s t
      ∧ t.svc.reasons.noFare = (s.svc.reasons.noFare && s.activeBank.valid)
      ∧ { t.svc with reasons := s.svc.reasons } = s.svc ∧ t.formed
      ∧ (∃ ns, t.lpt = t.attnOn { s.lpt with notices := ns }) ∧ raisedOnce .fareSwitched s.lpt.notices t.lpt.notices
      ∧ raisedOnce .fareSwitched s.stl.notices t.stl.notices
      ∧ (0 < s.free → onlyEntry { s.entry .fareSwitched .timed none with
          card := s.activeBank.imageId, extra := s.standbyBank.imageId } s t)
      ∧ (s.free = 0 → t.rjn.journal = s.rjn.journal ∧ t.rjn.overrun = min 65535 (s.rjn.overrun + 1)) := by
  intro t
  set w := swapBanks .timed (switching s) with hw
  obtain ⟨⟨ns, hlpt⟩, hlane, hlink⟩ := swapBanks_raised .timed (switching s)
  have hregarded : s.svc.Regarded w.svc := swapBanks_regarded .timed (switching s)
  have htlpt : t.lpt = t.attnOn { w.lpt with notices := w.told w.lpt.notices } := finish_lpt w
  have htstl : t.stl = { w.stl with notices := w.told w.stl.notices } := finish_stl w
  have hrjn : t.rjn = (writeFree { s.entry .fareSwitched .timed none with
      card := s.activeBank.imageId, extra := s.standbyBank.imageId } (switched (switching s))).rjn :=
    (rjn_finish w).trans (rjn_swapBanks .timed (switching s))
  refine ⟨by simp [keepsBut, Part.forall_iff, Part.same, t, switching], ?_, ?_, finish_formed w,
    ⟨w.told w.lpt.notices, ?_⟩, ?_, ?_, fun hfree => ?_, fun hfull => ?_⟩
  · rw [show t.svc = _ from finish_svc w]
    exact noFare_swapBanks .timed (switching s)
  · obtain ⟨-, -, htouched⟩ := hformed
    rw [show t.svc = _ from finish_svc w, show w.svc = _ from hregarded, ← htouched]
  · rw [htlpt, hw, hlpt]
    rfl
  · refine raisedOnce_congr (show SameNotice _ s.lpt.notices _ from rfl) hlane ?_
    rw [htlpt]
    exact sameNotice_told (by decide) w w.lpt.notices
  · refine raisedOnce_congr (show SameNotice _ s.stl.notices _ from rfl) hlink ?_
    rw [htstl]
    exact sameNotice_told (by decide) w w.stl.notices
  · rw [onlyEntry, hrjn, writeFree_room _ (switched (switching s)) (show s.free ≠ 0 by omega)]
    rfl
  · rw [hrjn, writeFree_full _ (switched (switching s)) hfull]
    exact ⟨rfl, rfl⟩

/-- The marks bear on no output. -/
theorem formed_expireMarks {s : State} (h : s.formed) : (expireMarks s).formed := by
  have hdropped : ∀ (l : List Nat) (u : State), u.formed → (l.foldl (fun t c => dropMark c t) u).formed := by
    intro l
    induction l with
    | nil => exact fun _ => id
    | cons c l ih => exact fun u hu => ih (dropMark c u) hu
  exact hdropped _ s h

/-- Settles O17: each of the three rows takes what the clock has reached and leaves what it has not. -/
theorem handedSecondIsTaken : Obligations.HandedSecondIsTaken := by
  refine ⟨fun s hformed hpowered hhanded => ?_, fun s hformed hpowered hfru hhanded hkeyed => ?_,
    fun s hformed hpowered hfru hhanded hbooks => ?_⟩
  · by_cases h : ∃ d, s.fru.pendingSwitch = some d ∧ s.reached d = true
    · obtain ⟨d, hpending, hreached⟩ := h
      have hfru : (finish (swapBanks .timed (switching s))).fru = { (switching s).fru with active := s.fru.active.other } := by
        simp only [finish_frame, fru_swapBanks]
        rfl
      refine ⟨_, timedSwitch_reached hpowered hhanded hpending hreached, by rw [hfru]; rfl, by rw [hfru]; rfl,
        by rw [hfru]; rfl, fun hstill => ?_, fun _ _ _ => ⟨by rw [hfru], by rw [hfru]; rfl, swap_finished hformed⟩⟩
      rw [hstill d hpending] at hreached
      cases hreached
    · have hstill : ∀ d, s.fru.pendingSwitch = some d → s.reached d = false := fun d hd =>
        Bool.eq_false_iff.mpr fun hr => h ⟨d, hd, hr⟩
      exact ⟨_, timedSwitch_still hformed hpowered hhanded hstill, rfl, rfl, rfl,
        fun _ => ⟨rfl, rfl, by simp [keepsBut, Part.forall_iff, Part.same]⟩, fun d hd hr => absurd ⟨d, hd, hr⟩ h⟩
  · set u := s.setScu { s.scu with marksHanded := false } with hu
    obtain ⟨hnodup, -⟩ := hkeyed
    have hscu := expireMarks_scu (s := u) hnodup
    have hstill : finish (expireMarks u) = expireMarks u := finish_of_formed (formed_expireMarks hformed)
    refine ⟨_, exec_markExpiry hpowered hfru hhanded, ?_⟩
    rw [← hu, hstill]
    refine ⟨by simp [keepsBut, Part.forall_iff, Part.same, hu], ?_⟩
    rw [hscu]
    exact ⟨rfl, rfl, rfl, rfl, rfl, rfl⟩
  · set u := s.setScu { s.scu with tearsHanded := false } with hu
    have hbalanced : u.ledger.Balanced none 0 0 := ((books_iff s).mp hbooks).2
    obtain ⟨hscu, hentries⟩ := expireTearsN_takes hbalanced le_rfl
    have hreserved := reserved_expireTears hbalanced
    have htscu : (finish (expireTears u)).scu = (expireTears u).scu := by simp
    have hrjn := rjn_finish (expireTears u)
    refine ⟨_, exec_tearDeadline hpowered hfru hhanded, ?_⟩
    rw [← hu, htscu, hrjn, show (expireTears u).scu = _ from hscu]
    refine ⟨by simp [keepsBut, Part.forall_iff, Part.same, hu], rfl, rfl, rfl, rfl, rfl, hreserved, fun p hp hreached => ?_⟩
    exact hentries p (List.mem_filter.mpr ⟨hp, hreached⟩)

end Sys2Proof.Machine
end
